-- ==== Sys2Proof/Word.lean ====
section
/-! DEFINITION. The words and numbers of the OB-816: bytes, 16-bit words, the 32-bit millisecond timebase,
and the numbered things of the Conventions of spec/00_scope.md (stations, ports, jobs, blocks, zones, contacts, cards). -/

namespace Sys2Proof

/-- A byte of exchange memory or of a device link frame. -/
abbrev Byte := BitVec 8

/-- A 16-bit word: a register, a serial, a sequence, a stamp. -/
abbrev Half := BitVec 16

/-- The millisecond timebase, a count of 0–4,294,967,295 that wraps (R176). -/
abbrev Time := BitVec 32

/-- Station 0–15. Station 0 is the supervisor (R4). -/
abbrev StationNo := Fin 16

/-- Device port 0–7. -/
abbrev PortNo := Fin 8

/-- Job 0–31. -/
abbrev JobNo := Fin 32

/-- Pool block 0–95. -/
abbrev BlockNo := Fin 96

/-- Zone 0–15. -/
abbrev ZoneNo := Fin 16

/-- Contact number 0–31, an index of the contact table (R109). -/
abbrev ContactNo := Fin 32

/-- A panel's own contact id, 0–15 (R109). -/
abbrev ContactId := Fin 16

/-- A card: card A of station s is 2s, card B is 2s + 1 (R154). -/
abbrev CardNo := Fin 32

/-- The less significant byte of a word. -/
def loByte (w : Half) : Byte := w.setWidth 8

/-- The more significant byte of a word. -/
def hiByte (w : Half) : Byte := (w >>> 8).setWidth 8

/-- The little-endian word of two bytes, the lower-addressed first (Conventions, Byte order; R182). -/
def halfOf (lo hi : Byte) : Half := lo.setWidth 16 ||| (hi.setWidth 16 <<< 8)

/-- A number as a byte, modulo 256. -/
def byteOf (n : Nat) : Byte := BitVec.ofNat 8 n

/-- A number as a 16-bit word, modulo 65,536. -/
def halfOfNat (n : Nat) : Half := BitVec.ofNat 16 n

/-- A flag as a byte: 1 for set, yes or present (R182). -/
def flagByte (b : Bool) : Byte := if b then 1 else 0

end Sys2Proof
end

