-- ==== Sys2Proof/Syntax.lean ====
section
/-! DEFINITION. The commands of the OB-816: one constructor of `Instr` for each row of spec/opcode_table.json.
Host writes carry the access of R151; link events carry the port and the symbol group or the frame's payload; a
request carries nothing, because its arguments stand in the card being served (R162). -/

namespace Sys2Proof

/-- A host write on the memory port: a byte access or a word access (R151). -/
inductive HostWrite where
  | byte (addr : Half) (value : Byte)
  | word (addr : Half) (value : Half)
  deriving DecidableEq, Repr

/-- A symbol group of five bits as it arrives on a device link, its most significant bit first (R132, R189). -/
abbrev Group := BitVec 5

/-- The commands, in the order of the table. -/
inductive Instr where
  /-- FULL_RESET (R176) -/
  | fullReset
  /-- RUN (R177): a host write to PART CONTROL -/
  | run (w : HostWrite)
  /-- SOFT_RESET (R178): a host write to PART CONTROL -/
  | softReset (w : HostWrite)
  /-- REGISTER_WRITE_DISCARDED (R151): a host write to PART STATUS -/
  | registerWriteDiscarded (w : HostWrite)
  /-- NOTICE_WRITE (R174) -/
  | noticeWrite (w : HostWrite)
  /-- NOTICE_MASK_WRITE (R175) -/
  | noticeMaskWrite (w : HostWrite)
  /-- HOST_WRITE (R151): a host write that lands in the common page, the unmapped region, a header or a ring -/
  | hostWrite (w : HostWrite)
  /-- POOL_BLOCK_WRITE (R24) -/
  | poolBlockWrite (w : HostWrite)
  /-- CARD_BYTE_WRITE (R157) -/
  | cardByteWrite (w : HostWrite)
  /-- CARD_STATE_WRITE (R156) -/
  | cardStateWrite (w : HostWrite)
  /-- TAKEN_MARK_WRITE (R171) -/
  | takenMarkWrite (w : HostWrite)
  /-- TAKE_CARD (R160) -/
  | takeCard
  /-- RESERVE (R22) -/
  | reserve
  /-- UNRESERVE (R23) -/
  | unreserve
  /-- SUBMIT (R38) -/
  | submit
  /-- CANCEL_JOB (R46) -/
  | cancelJob
  /-- CLEAR_PRINTER (R72) -/
  | clearPrinter
  /-- CLAIM (R89) -/
  | claim
  /-- RELEASE (R91) -/
  | release
  /-- SET_PERMITS (R5) -/
  | setPermits
  /-- SET_SERVICE (R9) -/
  | setService
  /-- SET_QUOTA (R8) -/
  | setQuota
  /-- SET_PRINTER (R44) -/
  | setPrinter
  /-- SET_SCANNER (R87) -/
  | setScanner
  /-- SET_ZONE (R105) -/
  | setZone
  /-- CLEAR_ZONE (R107) -/
  | clearZone
  /-- SET_PORT (R148) -/
  | setPort
  /-- ACK_PORT (R149) -/
  | ackPort
  /-- QUIET (R179) -/
  | quiet
  /-- WAKE (R180) -/
  | wake
  /-- WAKE_TOUCH (R180) -/
  | wakeTouch
  /-- PRINTERS_ENTER_QUIET (R78) -/
  | printersEnterQuiet
  /-- SCANNERS_ENTER_QUIET (R100) -/
  | scannersEnterQuiet
  /-- TOUCH_ENTER_QUIET (R123) -/
  | touchEnterQuiet
  /-- PRINTERS_LEAVE_QUIET (R80) -/
  | printersLeaveQuiet
  /-- SCANNERS_LEAVE_QUIET (R100) -/
  | scannersLeaveQuiet
  /-- TOUCH_LEAVE_QUIET (R123) -/
  | touchLeaveQuiet
  /-- VALID_GROUP_RECEIVED (R140) -/
  | validGroupReceived (p : PortNo) (g : Group)
  /-- PROFILE_RESEND (R140) -/
  | profileResend (p : PortNo)
  /-- PROFILE_SEEN_RESEND (R142) -/
  | profileSeenResend (p : PortNo)
  /-- SEND_FRAME (R136) -/
  | sendFrame (p : PortNo)
  /-- PACE_SWITCH (R142) -/
  | paceSwitch (p : PortNo)
  /-- BABBLED_FRAME (R135) -/
  | babbledFrame (p : PortNo)
  /-- PROFILE (R141, R145): a good PROFILE frame with this payload -/
  | profile (p : PortNo) (payload : List Byte)
  /-- PROFILE_SEEN (R142): a good PROFILE SEEN frame with this payload -/
  | profileSeen (p : PortNo) (payload : List Byte)
  /-- ATTEMPT_TIMER_EXPIRY (R143) -/
  | attemptTimerExpiry (p : PortNo)
  /-- SILENCE_TIMER_EXPIRY (R144) -/
  | silenceTimerExpiry (p : PortNo)
  /-- PRINTER_LINK_LOSS (R74) -/
  | printerLinkLoss (p : PortNo)
  /-- SCANNER_LINK_LOSS (R99) -/
  | scannerLinkLoss (p : PortNo)
  /-- PANEL_LINK_LOSS (R122) -/
  | panelLinkLoss (p : PortNo)
  /-- PRINTER_ARRIVAL (R57) -/
  | printerArrival (p : PortNo)
  /-- PRINTER_RETURN (R75) -/
  | printerReturn (p : PortNo)
  /-- KIND_CHANGE (R76) -/
  | kindChange (p : PortNo)
  /-- SCANNER_ARRIVAL (R83) -/
  | scannerArrival (p : PortNo)
  /-- PANEL_ARRIVAL (R146) -/
  | panelArrival (p : PortNo)
  /-- RECONNECT_TIMER_EXPIRY (R76) -/
  | reconnectTimerExpiry (p : PortNo)
  /-- PAGE_DONE (R61): a good PAGE DONE frame with this payload -/
  | pageDone (p : PortNo) (payload : List Byte)
  /-- CREDIT (R59) -/
  | credit (p : PortNo) (payload : List Byte)
  /-- PAGE_FAULT (R67) -/
  | pageFault (p : PortNo) (payload : List Byte)
  /-- READY (R68) -/
  | ready (p : PortNo) (payload : List Byte)
  /-- PAPER (R77) -/
  | paper (p : PortNo) (payload : List Byte)
  /-- PAGE_TIMER_EXPIRY (R69) -/
  | pageTimerExpiry (p : PortNo)
  /-- SCAN (R95) -/
  | scan (p : PortNo) (payload : List Byte)
  /-- IDLE_TIMER_EXPIRY (R93) -/
  | idleTimerExpiry (p : PortNo)
  /-- TOUCH (R112) -/
  | touch (p : PortNo) (payload : List Byte)
  /-- SYMBOL_GROUP_RECEIVED (R132) -/
  | symbolGroupReceived (p : PortNo) (g : Group)
  /-- MILLISECOND_TICK (R176) -/
  | millisecondTick
  deriving DecidableEq, Repr

end Sys2Proof
end

