-- ==== Sys2Proof/Config.lean ====
section
/-! DEFINITION. What the manual fixes once for the part: the identification (00_scope, R183), the address map
(R151, R153, R183), the sizes of tables and queues, and the lengths of the timers; and the values it leaves open, as
constants without a body. -/

namespace Sys2Proof.Config

/-- Vendor code, bytes 0000H–0001H (R183). -/
def vendorCode : Half := 0x1B4C
/-- Part code, bytes 0002H–0003H (R183); also the model word of the part's own PROFILE (R140). -/
def partCode : Half := 0x0816
/-- Revision, byte 0004H (R183). -/
def revision : Byte := 0x03

/-- First address of the station areas (R151). -/
def areaBase : Nat := 0x1000
/-- Length of one station area (R151). -/
def areaSize : Nat := 0x800
/-- First address of the block pool (R151). -/
def poolBase : Nat := 0x9000
/-- First address of the unmapped region (R151). -/
def unmappedBase : Nat := 0xF000
/-- First address of the registers (R151, R185). -/
def registerBase : Nat := 0xFFF8
/-- Offset of card A in a station area; the header lies below it (R153). -/
def cardOffset : Nat := 0x40
/-- Length of a card (R154). -/
def cardSize : Nat := 0x60
/-- Offset of the delivery ring in a station area (R153). -/
def ringOffset : Nat := 0x100
/-- Length of a delivery ring (R166). -/
def ringBytes : Nat := 1792
/-- The most used bytes a ring may hold (R166, R168). -/
def ringFull : Nat := 1784
/-- Length of a pool block. -/
def blockBytes : Nat := 256

/-- Most records an owed queue holds (R166). -/
def owedMax : Nat := 16
/-- Most jobs a printer queue holds (R42). -/
def queueMax : Nat := 12
/-- Most entries a claim queue holds (R84). -/
def claimQueueMax : Nat := 4
/-- Most ACTIVE zones of one panel port (R104). -/
def zonesPerPort : Nat := 8
/-- Most pool blocks a quota may name (R1, R8). -/
def quotaMax : Nat := 96
/-- Largest suspension count (R65). -/
def suspensionMax : Nat := 4
/-- The transient fault that is taken as a hard fault (R68). -/
def transientMax : Nat := 3

/-- Milliseconds in a second (Conventions, Time). -/
def second : Nat := 1000
/-- An introduction attempt lasts 500 ms (R143). -/
def attemptLength : Nat := 500
/-- A link silent for 20 ms is lost (R144). -/
def silenceLength : Nat := 20
/-- PROFILE and PROFILE SEEN are handed again every 10 ms (R140, R142). -/
def resendLength : Nat := 10
/-- Three babbled frames within 1 s quarantine a port (R135). -/
def babbleWindow : Nat := 1000
/-- Largest payload of a good frame (R133). -/
def payloadMax : Nat := 96
/-- A frame that reaches this many bytes is babbled (R135). -/
def babbleBytes : Nat := 101
/-- Page bytes of one PAGE DATA frame (R59). -/
def pageChunk : Nat := 64

/-! ### Open values (logs 5 and 19) -/

/-- The answer detail of the uses, counted by `State.openCount`, where no rule states one: every answer to SET PERMITS, SET
QUOTA and SET SERVICE (R5, R8, R9). A free value (safe). -/
opaque openDetail : Nat → Nat

/-- The answer value of those uses where no rule states one: the refusals of SET PERMITS, SET QUOTA and SET SERVICE
(R5, R8, R9). A free value (safe). -/
opaque openValue : Nat → Nat

/-- The payload of the PROFILE SEEN frame the part sends: R189 allows 0–96 bytes, no rule says what the part puts there, and
R142 has the receiver not read it. A free value, the same at every sending (DESIGN CHOICE, log 19; safe). -/
opaque openPayload : List Byte

end Sys2Proof.Config
end

