-- ==== Sys2Proof/Machine/State.lean ====
section
/-! DEFINITION. The state of the OB-816, block by block, as plain data, and its value after a full reset. Each field's
docstring names the rule of spec/ that gives it. INVENTORY.md lists them with their reset values. -/

namespace Sys2Proof.Machine

open Config

/-! ### Timers -/

/-- A running timer: when it was started and how many milliseconds it runs. It expires at the start plus the length,
taken on the timebase modulo 2^32 (R176). -/
structure Timer where
  start : Time
  length : Nat
  deriving DecidableEq, Repr

/-! ### Part Control (R176) -/

/-- The part state. -/
inductive PartState where
  | stopped | running | quiet
  deriving DecidableEq, Repr

/-- The wake cause. -/
inductive WakeCause where
  | none | request | touch (zone : ZoneNo)
  deriving DecidableEq, Repr

/-- The part state a router goes by: the one Part Control last told it (R179). -/
inductive Mode where
  | running | quiet
  deriving DecidableEq, Repr

/-- What Part Control tells the Print Scheduler, the Scan Router and the Touch Router (R179, R180). -/
inductive QuietNotice where
  | enter | leave
  deriving DecidableEq, Repr

/-! ### Exchange Port and Request Unit -/

/-- The state of a card (R155). -/
inductive CardState where
  | empty | posted | taken | answered
  deriving DecidableEq, Repr

/-- Bytes of exchange memory by address, addresses rising, no byte 00H listed; see Machine/Ops.lean. -/
abbrev Memory := List Host.Cell

/-! ### Station Table (R1) -/

/-- The service state of a station. -/
inductive Service where
  | outOfService | inService
  deriving DecidableEq, Repr

/-- A station record (R1). -/
structure Station where
  service : Service
  /-- bit p for port p -/
  permits : BitVec 8
  quota : Nat
  holdings : Nat
  deriving DecidableEq, Repr

/-! ### Block Pool (R17) -/

/-- The state of a pool block with its further item (R17). -/
inductive BlockState where
  | free
  | reserved (holder : StationNo)
  | committed (job : JobNo)
  deriving DecidableEq, Repr

/-! ### Print Scheduler -/

/-- The state of a job record (R31, R32). ENDED holds only within the event that ends the job. -/
inductive JobState where
  | free | waiting | printing | suspended | ended
  deriving DecidableEq, Repr

/-- The class of a job (R31). -/
inductive JobClass where
  | priority | short | long
  deriving DecidableEq, Repr

/-- Why a job ended or is to end (R31). -/
inductive EndReason where
  | completed | cancelled | retired | deviceLost | softReset
  deriving DecidableEq, Repr

/-- A job record (R31). -/
structure Job where
  state : JobState
  owner : Option StationNo
  port : PortNo
  cls : JobClass
  notices : Bool
  blocks : List BlockNo
  length : Nat
  pageCount : Nat
  pagesDone : Nat
  restart : Nat
  suspensions : Nat
  transients : Nat
  accepted : Half
  serial : Half
  cancelPending : Bool
  reason : EndReason
  deriving DecidableEq, Repr

/-- The stage of a page in flight (R54). -/
inductive Stage where
  | data | closed | awaitingReady
  deriving DecidableEq, Repr

/-- The page the part has opened and the printer has not yet confirmed (R54). -/
structure PageInFlight where
  page : Nat
  stage : Stage
  deriving DecidableEq, Repr

/-- The state of a printer record (R54, R55). -/
inductive PrinterState where
  | absent | idle | sending | held | detached | quiesced
  deriving DecidableEq, Repr

/-- Hold and fault causes (R54, R182). -/
inductive Cause where
  | paperOut | jam | coverOpen | headHot | timeout
  deriving DecidableEq, Repr

/-- A printer record (R54). -/
structure Printer where
  state : PrinterState
  current : Option JobNo
  suspended : Option JobNo
  queue : List JobNo
  suspendPending : Bool
  page : Option PageInFlight
  sent : Nat
  credits : Nat
  window : Nat
  pageTimer : Option Timer
  reconnect : Option Timer
  hold : Option Cause
  paperLow : Bool
  deriving DecidableEq, Repr

/-- The printer settings of a port (R44): seconds, seconds, and whether a LONG job may be suspended. -/
structure PrinterSettings where
  pageTimeout : Nat
  reconnectWindow : Nat
  suspendAllowed : Bool
  deriving DecidableEq, Repr

/-! ### Scan Router -/

/-- Why a claim or a wait ended (R82). -/
inductive ClaimEnd where
  | released | expired | countSpent | permitWithdrawn | retired | deviceLost | quiet
  deriving DecidableEq, Repr

/-- A claim record (R82). -/
structure Claim where
  holder : StationNo
  hold : Nat
  idle : Timer
  count : Nat
  serial : Half
  deriving DecidableEq, Repr

/-- A wait entry of a claim queue (R84). -/
structure Wait where
  station : StationNo
  hold : Nat
  count : Nat
  deriving DecidableEq, Repr

/-- The most recent code delivered from a scanner (R82, R95). -/
structure LastCode where
  symbology : Byte
  code : List Byte
  arrival : Time
  deriving DecidableEq, Repr

/-- The state of a scanner record; the claim is present exactly while HELD (R82). -/
inductive ScannerState where
  | absent | free | held (claim : Claim)
  deriving DecidableEq, Repr

/-- A scanner record (R82). -/
structure Scanner where
  state : ScannerState
  queue : List Wait
  grants : Half
  lastCode : Option LastCode
  lastEnd : Option (ClaimEnd × Half)
  deriving DecidableEq, Repr

/-- The scanner settings of a port, times in seconds (R82, R87). -/
structure ScannerSettings where
  defaultHold : Nat
  maximumHold : Nat
  defaultStation : Option StationNo
  repeatWindow : Nat
  deriving DecidableEq, Repr

/-! ### Touch Router -/

/-- How a station's screen is turned against the panel (R103). -/
inductive Orientation where
  | r0 | r90 | r180 | r270
  deriving DecidableEq, Repr

/-- The items of a zone that a contact captures at its touch-down (R109): x0, y0, x1, y1, orientation, W, H, T. -/
structure Mapping where
  x0 : Nat
  y0 : Nat
  x1 : Nat
  y1 : Nat
  orientation : Orientation
  width : Nat
  height : Nat
  threshold : Nat
  deriving DecidableEq, Repr

/-- An ACTIVE zone (R103). -/
structure Zone where
  port : PortNo
  map : Mapping
  station : StationNo
  wake : Bool
  deriving DecidableEq, Repr

/-- A position in station units (R128). -/
structure Pos where
  x : Nat
  y : Nat
  deriving DecidableEq, Repr

/-- A position with the stamp of the TOUCH entry that produced it (R131, R167). -/
structure Spot where
  pos : Pos
  stamp : Half
  deriving DecidableEq, Repr

/-- What a live or closing contact captured and was last given (R109). -/
structure Bound where
  zone : ZoneNo
  station : StationNo
  map : Mapping
  last : Spot
  deriving DecidableEq, Repr

/-- The end of a contact: UP at a position, or CANCEL (R109). -/
inductive ContactEnd where
  | up (spot : Spot) | cancel
  deriving DecidableEq, Repr

/-- The four conditions of a contact record, each with the items R110 gives it. The key is released exactly in
`closing`. -/
inductive Contact.Condition where
  | live (bound : Bound) (move : Option Spot)
  | closing (bound : Bound) (ending : ContactEnd)
  | suppressed (zone : ZoneNo) (station : StationNo)
  | ignored (place : Option (ZoneNo × StationNo))
  deriving DecidableEq, Repr

/-- A contact record (R109): the panel port and contact id of its key (kept as plain fields once the key is
released), and its condition. -/
structure Contact where
  port : PortNo
  id : ContactId
  cond : Contact.Condition
  deriving DecidableEq, Repr

/-! ### Port Controllers -/

/-- The link state of a port (R137). -/
inductive LinkState where
  | down | introducing | up | failed | quarantined
  deriving DecidableEq, Repr

/-- The kind of a device (R137). -/
inductive DeviceKind where
  | printer | scanner | panel
  deriving DecidableEq, Repr

/-- A device profile (R137); `further` is the receive window of a printer or the contact limit of a panel. -/
structure DevProfile where
  kind : DeviceKind
  /-- bit k − 1 for pace k -/
  paces : BitVec 4
  model : Half
  further : Byte
  deriving DecidableEq, Repr

/-- A frame the part sends (R136, R147). PAGE DATA and PAGE CLOSE remember the serial of the job whose page they
belong to, by which R59 withdraws them; `last` marks the PROFILE SEEN after which the pace switches (R142). Neither is
on the wire. -/
inductive OutFrame where
  | profile (paces : BitVec 4)
  | profileSeen (last : Bool)
  | pageOpen (page length : Nat) (finish density : Byte)
  | pageData (serial : Half) (page offset : Nat) (bytes : List Byte)
  | pageClose (serial : Half) (page : Nat)
  | pageAbandon (page : Nat)
  | verdict (accept : Bool)
  deriving DecidableEq, Repr

/-- What the part's side of a link carries: nothing, FILL, a frame, or a frame cut with FAULT (R136). -/
inductive Line where
  | silent | fill | frame (f : OutFrame) | cut
  deriving DecidableEq, Repr

/-- The introduction items (R137, R140–R143): the advertised set read at the entry, the count, the stored profile as
received, seen-sent, seen-received, the attempt timer, and when the part last handed its PROFILE or PROFILE SEEN. -/
structure Intro where
  advertised : BitVec 4
  count : Nat
  stored : Option (List Byte)
  seenSent : Bool
  seenReceived : Bool
  attempt : Timer
  handed : Time
  deriving DecidableEq, Repr

/-- A port record (R137) with the send list (R136), the line, the pace the link runs at, and the data groups of the
frame being received, oldest first, or none outside a frame (R132, R133). -/
structure Port where
  link : LinkState
  advertised : BitVec 4
  profile : Option DevProfile
  resolved : Option Nat
  lost : Bool
  babbleTimes : List Time
  babbleCount : Nat
  silence : Option Timer
  intro : Option Intro
  sendList : List OutFrame
  line : Line
  pace : Nat
  rx : Option (List (BitVec 4))
  deriving DecidableEq, Repr

/-- A notice a Port Controller hands to the owner of a device kind (R146). -/
inductive PortNotice where
  | loss
  | arrival (profile : DevProfile)
  | kindChange
  deriving DecidableEq, Repr

/-! ### Delivery Unit -/

/-- The causes a PORT CHANGE carries (R139). -/
inductive LinkCause where
  | introduced | noCommonPace | silence | profileWhileUp | babble
  deriving DecidableEq, Repr

/-- The four kinds of touch record (R120). -/
inductive TouchKind where
  | down | move | up | cancel
  deriving DecidableEq, Repr

/-- A ring record's content by kind (R167, R187), SKIP apart. -/
inductive Record where
  | jobProgress (job : JobNo) (port : PortNo) (serial : Half) (done count : Nat)
  | jobEnded (job : JobNo) (port : PortNo) (serial : Half) (done count : Nat) (reason : EndReason)
  | printerFault (port : PortNo) (job : JobNo) (serial : Half) (page : Nat) (cause : Cause)
  | printerNote (port : PortNo) (low : Bool)
  | claimGranted (port : PortNo) (serial : Half) (hold count : Nat)
  | claimEnded (port : PortNo) (wait : Bool) (serial : Half) (reason : ClaimEnd)
  | scan (port : PortNo) (symbology : Byte) (code : List Byte) (serial : Half) (unclaimed : Bool)
  | touch (kind : TouchKind) (port : PortNo) (id : ContactId) (contact : ContactNo) (zone : ZoneNo) (pos : Pos)
  | portChange (port : PortNo) (previous new : LinkState) (cause : LinkCause) (lost : Bool)
      (device : Option (DeviceKind × Nat × Half))
  | partState (previous new : PartState) (cause : WakeCause)
  deriving DecidableEq, Repr

/-- A status record waiting in an owed queue, with the stamp of its arising (R167, R170). -/
structure Owed where
  record : Record
  stamp : Half
  deriving DecidableEq, Repr

/-- The delivery state of a station (R166). -/
structure Delivery where
  w : Nat
  t : Nat
  seq : Half
  gap : Bool
  owed : List Owed
  frozen : Bool
  deriving DecidableEq, Repr

/-! ### The whole part -/

/-- The state of the part. -/
structure State where
  /-- the stored bytes of exchange memory: cards (but their state bytes), rings and pool (R151, R154, R166, R19) -/
  mem : Memory
  /-- card states, cards 2s and 2s + 1 for station s (R155) -/
  cards : Vector CardState 32
  /-- the posting list, oldest first (R159) -/
  posting : List CardNo
  /-- the card being served; none while the Request Unit is IDLE (R160) -/
  serving : Option CardNo
  /-- the Station Table (R1) -/
  stations : Vector Station 16
  /-- the block records (R17) -/
  blocks : Vector BlockState 96
  /-- the free list, head first (R18) -/
  free : List BlockNo
  /-- the job table (R31) -/
  jobs : Vector Job 32
  /-- the acceptance counter (R34) -/
  acceptance : Half
  /-- the printer records (R54) -/
  printers : Vector Printer 8
  /-- the printer settings (R44) -/
  printerSet : Vector PrinterSettings 8
  /-- the part state last told to the Print Scheduler (R176, R179) -/
  printMode : Mode
  /-- the scanner records (R82) -/
  scanners : Vector Scanner 8
  /-- the scanner settings (R87) -/
  scannerSet : Vector ScannerSettings 8
  /-- the part state last told to the Scan Router (R176, R179) -/
  scanMode : Mode
  /-- the zone table; none is UNUSED (R103) -/
  zones : Vector (Option Zone) 16
  /-- the contact table by contact number (R109) -/
  contacts : Vector (Option Contact) 32
  /-- the contact limit of the panel whose TOUCH frames the Touch Router takes on a port (R146, R112) -/
  panels : Vector (Option Nat) 8
  /-- the part state last told to the Touch Router (R114, R176, R179) -/
  touchMode : Mode
  /-- the delivery state of each station (R166) -/
  delivery : Vector Delivery 16
  /-- the NOTICE register (R174) -/
  notice : Half
  /-- the NOTICE MASK register (R175) -/
  noticeMask : Half
  /-- the port records (R137) -/
  ports : Vector Port 8
  /-- notices handed to the Print Scheduler for each port, oldest first (R146) -/
  toPrint : Vector (List PortNotice) 8
  /-- notices handed to the Scan Router for each port, oldest first (R146) -/
  toScan : Vector (List PortNotice) 8
  /-- notices handed to the Touch Router for each port, oldest first (R146) -/
  toTouch : Vector (List PortNotice) 8
  /-- QUIET notices told to the Print Scheduler and not yet taken (R179, R180) -/
  quietPrint : List QuietNotice
  /-- QUIET notices told to the Scan Router and not yet taken -/
  quietScan : List QuietNotice
  /-- QUIET notices told to the Touch Router and not yet taken -/
  quietTouch : List QuietNotice
  /-- wake-touch reports made to Part Control and not yet taken (R116, R180) -/
  wakeReports : List ZoneNo
  /-- the part state (R176) -/
  part : PartState
  /-- the wake cause (R176) -/
  wake : WakeCause
  /-- the millisecond timebase (R176) -/
  time : Time
  /-- change counts of the port mirror entries (R184) -/
  portCount : Vector Byte 8
  /-- change counts of the job mirror entries (R184) -/
  jobCount : Vector Byte 32
  /-- change counts of the station mirror entries and status copies (R2, R184) -/
  stationCount : Vector Byte 16
  /-- the pool change count (R20, R184) -/
  poolCount : Byte
  /-- the MODEL's own field: how many open values have been used (log 5) -/
  openCount : Nat
  /-- the MODEL's own field: the commands waiting, first in, first out -/
  pending : List Instr
  deriving DecidableEq, Repr

/-- Conditions that stop the part. The manual names none: a failed check is answered in the card, a bad frame is
discarded, a guarded write leaves no trace. So there is no constructor, and no command faults (safe: nothing is cut
short). -/
inductive Fault where
  deriving DecidableEq, Repr

/-- Why the model has no meaning for a command. -/
inductive Refusal where
  /-- Raised by `exec` alone, for a row without a meaning; no row is without one (safe). -/
  | notModelled (mnemonic : String)
  deriving DecidableEq, Repr

/-! ### After a full reset -/

/-- A station record after a full reset (R3). -/
def Station.reset : Station :=
  { service := .inService, permits := 0xFF, quota := 32, holdings := 0 }

/-- A job record after a full reset (R53, R184). DESIGN CHOICE (log 2) for the items no rule gives a value. -/
def Job.reset : Job :=
  { state := .free, owner := none, port := 0, cls := .priority, notices := false, blocks := [], length := 0,
    pageCount := 0, pagesDone := 0, restart := 0, suspensions := 0, transients := 0, accepted := 0, serial := 0,
    cancelPending := false, reason := .completed }

/-- An ABSENT printer record (R55, R57). DESIGN CHOICE (log 2): the receive window 1 and page bytes sent 0. -/
def Printer.reset : Printer :=
  { state := .absent, current := none, suspended := none, queue := [], suspendPending := false, page := none,
    sent := 0, credits := 0, window := 1, pageTimer := none, reconnect := none, hold := none, paperLow := false }

/-- The printer settings after a full reset (R44). -/
def PrinterSettings.reset : PrinterSettings :=
  { pageTimeout := 60, reconnectWindow := 30, suspendAllowed := true }

/-- A scanner record after a full reset (R83). -/
def Scanner.reset : Scanner :=
  { state := .absent, queue := [], grants := 0, lastCode := none, lastEnd := none }

/-- The scanner settings after a full reset (R87). -/
def ScannerSettings.reset : ScannerSettings :=
  { defaultHold := 30, maximumHold := 120, defaultStation := none, repeatWindow := 2 }

/-- A station's delivery state after a full reset (R166). -/
def Delivery.reset : Delivery :=
  { w := 0, t := 0, seq := 0, gap := false, owed := [], frozen := false }

/-- A port record after a full reset (R137). -/
def Port.reset : Port :=
  { link := .down, advertised := 0xF, profile := none, resolved := none, lost := false, babbleTimes := [],
    babbleCount := 0, silence := none, intro := none, sendList := [], line := .silent, pace := 1, rx := none }

/-- The part right after a full reset (R176 and the full-reset values of each chapter). -/
def State.reset : State :=
  { mem := []
    cards := Vector.replicate 32 .empty
    posting := []
    serving := none
    stations := Vector.replicate 16 Station.reset
    blocks := Vector.replicate 96 .free
    free := List.finRange 96
    jobs := Vector.replicate 32 Job.reset
    acceptance := 0
    printers := Vector.replicate 8 Printer.reset
    printerSet := Vector.replicate 8 PrinterSettings.reset
    printMode := .running
    scanners := Vector.replicate 8 Scanner.reset
    scannerSet := Vector.replicate 8 ScannerSettings.reset
    scanMode := .running
    zones := Vector.replicate 16 none
    contacts := Vector.replicate 32 none
    panels := Vector.replicate 8 none
    touchMode := .running
    delivery := Vector.replicate 16 Delivery.reset
    notice := 0
    noticeMask := 0
    ports := Vector.replicate 8 Port.reset
    toPrint := Vector.replicate 8 []
    toScan := Vector.replicate 8 []
    toTouch := Vector.replicate 8 []
    quietPrint := []
    quietScan := []
    quietTouch := []
    wakeReports := []
    part := .stopped
    wake := .none
    time := 0
    portCount := Vector.replicate 8 0
    jobCount := Vector.replicate 32 0
    stationCount := Vector.replicate 16 0
    poolCount := 0
    openCount := 0
    pending := [] }

end Sys2Proof.Machine
end

