-- ==== Sys2Proof/Machine/Ops.lean ====
section
/-! DEFINITION. The named operations over memory, tables and timers that the blocks share. -/

namespace Sys2Proof.Machine

open Config

/-- What a command answers. -/
abbrev Out := Host.Outcome State Fault Refusal

/-! ### Tables -/

/-- A table with entry `i` replaced. -/
def put {α : Type} {n : Nat} (v : Vector α n) (i : Fin n) (x : α) : Vector α n := v.set i.val x

/-- A number as an index of a table of n entries, when it is one. -/
def index? (n k : Nat) : Option (Fin n) := if h : k < n then some ⟨k, h⟩ else none

/-- The lowest index of a table whose entry passes the test. -/
def lowest? {α : Type} {n : Nat} (v : Vector α n) (test : α → Bool) : Option (Fin n) :=
  (List.finRange n).find? fun i => test v[i]

/-! ### Memory

A list of (address, byte) pairs with addresses strictly rising and no byte 00H listed; an unlisted address reads 00H,
which is what exchange memory reads after a full reset (R176) and the cards, rings and pool after both resets (R165,
R166, R19). -/

/-- What an unlisted address reads as (R176). -/
def unlistedByte : Byte := 0

/-- One byte of memory. -/
def readMem (m : Memory) (a : Nat) : Byte :=
  match m with
  | [] => unlistedByte
  | (b, v) :: rest => if b = a then v else readMem rest a

/-- The cell put in front of a rest that starts above it, left out when it reads as an unlisted address does. -/
def consCell (a : Nat) (v : Byte) (rest : Memory) : Memory :=
  if v = unlistedByte then rest else (a, v) :: rest

/-- Memory with one byte written, in canonical form. -/
def writeMem (m : Memory) (a : Nat) (v : Byte) : Memory :=
  match m with
  | [] => consCell a v []
  | (b, w) :: rest =>
    if b < a then (b, w) :: writeMem rest a v
    else if b = a then consCell a v rest
    else consCell a v ((b, w) :: rest)

/-- Memory with consecutive bytes written from an address on. -/
def writeBytes (m : Memory) (a : Nat) : List Byte → Memory
  | [] => m
  | v :: vs => writeBytes (writeMem m a v) (a + 1) vs

/-- Memory with the addresses from `a` to below `a + n` reading 00H. -/
def clearMem (m : Memory) (a n : Nat) : Memory :=
  m.filter fun c => !(a ≤ c.1 && c.1 < a + n)

/-- The canonical form: every listed byte is not what an unlisted address reads as, and addresses strictly rise. -/
def memoryWf : Memory → Bool
  | [] => true
  | (a, v) :: rest =>
    v != unlistedByte && (match rest with | [] => true | (b, _) :: _ => decide (a < b)) && memoryWf rest

/-- A little-endian word of memory (R182). -/
def readHalf (m : Memory) (a : Nat) : Half := halfOf (readMem m a) (readMem m (a + 1))

/-- The bytes from an address on. -/
def readBytes (m : Memory) (a : Nat) : Nat → List Byte
  | 0 => []
  | n + 1 => readMem m a :: readBytes m (a + 1) n

/-! ### Timers (R176: differences of timebase values modulo 2^32) -/

/-- Milliseconds from `start` to `now`, modulo 2^32. -/
def elapsed (start now : Time) : Nat := (now - start).toNat

/-- A timer started now. -/
def startTimer (s : State) (length : Nat) : Timer := { start := s.time, length := length }

/-- The timer is running and its length has passed. -/
def timerDue (s : State) : Option Timer → Bool
  | none => false
  | some t => t.length ≤ elapsed t.start s.time

/-- The stamp of a record whose content arises now (R167): the timebase modulo 65,536. -/
def stampNow (s : State) : Half := s.time.setWidth 16

/-! ### Ranks and encodings of names (R31, R182) -/

/-- The rank of a class: PRIORITY 0, SHORT 1, LONG 2 (R31). -/
def rank : JobClass → Nat
  | .priority => 0
  | .short => 1
  | .long => 2

/-- The part state's code (R182). -/
def partCode : PartState → Byte
  | .stopped => 0
  | .running => 1
  | .quiet => 2

/-- The wake cause's code (R182). -/
def wakeCode : WakeCause → Byte
  | .none => 0
  | .request => 1
  | .touch _ => 2

/-- The zone index shown with a wake cause: 0 unless the cause is TOUCH (R185). -/
def wakeZone : WakeCause → Byte
  | .touch z => byteOf z.val
  | _ => 0

/-- The service state's code (R182). -/
def serviceCode : Service → Byte
  | .outOfService => 0
  | .inService => 1

/-- The card state's byte (R155). -/
def cardCode : CardState → Byte
  | .empty => 0
  | .posted => 1
  | .taken => 2
  | .answered => 3

/-- The job state's code (R182). ENDED is never published (R32) and R182 gives it no code: 0. -/
def jobCode : JobState → Byte
  | .free => 0
  | .waiting => 1
  | .printing => 2
  | .suspended => 3
  | .ended => 0

/-- The class's code (R182). -/
def classCode (c : JobClass) : Byte := byteOf (rank c)

/-- The end reason's code (R182). -/
def reasonCode : EndReason → Byte
  | .completed => 0
  | .cancelled => 1
  | .retired => 2
  | .deviceLost => 3
  | .softReset => 4

/-- The printer state's code (R182). -/
def printerCode : PrinterState → Byte
  | .absent => 0
  | .idle => 1
  | .sending => 2
  | .held => 3
  | .detached => 4
  | .quiesced => 5

/-- The hold or fault cause's code (R182). -/
def causeCode : Cause → Byte
  | .paperOut => 1
  | .jam => 2
  | .coverOpen => 3
  | .headHot => 4
  | .timeout => 5

/-- The scanner state's code (R182). -/
def scannerCode : ScannerState → Byte
  | .absent => 0
  | .free => 1
  | .held _ => 2

/-- The claim end reason's code (R182). -/
def claimEndCode : ClaimEnd → Byte
  | .released => 1
  | .expired => 2
  | .countSpent => 3
  | .permitWithdrawn => 4
  | .retired => 5
  | .deviceLost => 6
  | .quiet => 7

/-- The link state's code (R182). -/
def linkCode : LinkState → Byte
  | .down => 0
  | .introducing => 1
  | .up => 2
  | .failed => 3
  | .quarantined => 4

/-- The device kind's code (R182). -/
def kindCode : DeviceKind → Byte
  | .printer => 1
  | .scanner => 2
  | .panel => 3

/-- The PORT CHANGE cause's code (R182). -/
def linkCauseCode : LinkCause → Byte
  | .introduced => 0
  | .noCommonPace => 1
  | .silence => 2
  | .profileWhileUp => 3
  | .babble => 4

/-- A number or none, as a byte: FFH for none (R182). -/
def numberByte {n : Nat} : Option (Fin n) → Byte
  | none => 0xFF
  | some i => byteOf i.val

/-- The state byte of a pool block (R182). -/
def blockCode : BlockState → Byte
  | .free => 0
  | .reserved s => byteOf (0x40 + s.val)
  | .committed j => byteOf (0x80 + j.val)

/-! ### Small reads and updates of the state -/

/-- The station is IN SERVICE. -/
def inService (s : State) (st : StationNo) : Bool := s.stations[st].service = .inService

/-- The port is in the station's permits (R7). -/
def permitted (s : State) (st : StationNo) (p : PortNo) : Bool := s.stations[st].permits.getLsbD p.val

/-- The count of blocks RESERVED by a station (R2, R20). -/
def reservedCount (s : State) (st : StationNo) : Nat :=
  s.blocks.toList.countP fun b => b = .reserved st

/-- A station record changed. -/
def updStation (s : State) (st : StationNo) (f : Station → Station) : State :=
  { s with stations := put s.stations st (f s.stations[st]) }

/-- A job record changed. -/
def updJob (s : State) (j : JobNo) (f : Job → Job) : State :=
  { s with jobs := put s.jobs j (f s.jobs[j]) }

/-- A printer record changed. -/
def updPrinter (s : State) (p : PortNo) (f : Printer → Printer) : State :=
  { s with printers := put s.printers p (f s.printers[p]) }

/-- A scanner record changed. -/
def updScanner (s : State) (p : PortNo) (f : Scanner → Scanner) : State :=
  { s with scanners := put s.scanners p (f s.scanners[p]) }

/-- A delivery state changed. -/
def updDelivery (s : State) (st : StationNo) (f : Delivery → Delivery) : State :=
  { s with delivery := put s.delivery st (f s.delivery[st]) }

/-- A port record changed. -/
def updPort (s : State) (p : PortNo) (f : Port → Port) : State :=
  { s with ports := put s.ports p (f s.ports[p]) }

/-- A contact record replaced or freed. -/
def setContact (s : State) (n : ContactNo) (c : Option Contact) : State :=
  { s with contacts := put s.contacts n c }

end Sys2Proof.Machine
end

