-- ==== Sys2Proof/Machine/Operands.lean ====
section
/-! DEFINITION. What a command reads: the fields of a card (R154, R186), the kinds of request (R161), symbol groups and
frames from a device (R132–R134, R189), and the entries of a TOUCH frame. -/

namespace Sys2Proof.Machine

open Config

/-! ### Cards -/

/-- The station whose area holds the card (R151). -/
def cardStation (c : CardNo) : StationNo := ⟨c.val / 2, by omega⟩

/-- The address of a card's state byte (R153). -/
def cardAddress (c : CardNo) : Nat :=
  areaBase + (c.val / 2) * areaSize + cardOffset + (c.val % 2) * cardSize

/-- The byte at a card offset of 1–95 (R154). -/
def cardByte (s : State) (c : CardNo) (k : Nat) : Byte := readMem s.mem (cardAddress c + k)

/-- The little-endian word at a card offset. -/
def cardHalf (s : State) (c : CardNo) (k : Nat) : Half := readHalf s.mem (cardAddress c + k)

/-- The card byte as a number. -/
def cardNum (s : State) (c : CardNo) (k : Nat) : Nat := (cardByte s c k).toNat

/-- The card word as a number. -/
def cardHalfNum (s : State) (c : CardNo) (k : Nat) : Nat := (cardHalf s c k).toNat

/-- The `n` card bytes from an offset on, as numbers. -/
def cardList (s : State) (c : CardNo) (k n : Nat) : List Nat :=
  (readBytes s.mem (cardAddress c + k) n).map BitVec.toNat

/-- The request kinds the Request Unit knows (R161). -/
inductive RequestKind where
  | reserve | unreserve | submit | cancelJob | clearPrinter | claim | release
  | setPermits | setService | setQuota | setPrinter | setScanner | setZone | clearZone | setPort | ackPort | quiet | wake
  deriving DecidableEq, Repr

/-- The request a kind byte names, or none (R161). -/
def requestKind? (b : Byte) : Option RequestKind :=
  match b.toNat with
  | 0x01 => some .reserve
  | 0x02 => some .unreserve
  | 0x03 => some .submit
  | 0x04 => some .cancelJob
  | 0x05 => some .clearPrinter
  | 0x06 => some .claim
  | 0x07 => some .release
  | 0x20 => some .setPermits
  | 0x21 => some .setService
  | 0x22 => some .setQuota
  | 0x23 => some .setPrinter
  | 0x24 => some .setScanner
  | 0x25 => some .setZone
  | 0x26 => some .clearZone
  | 0x27 => some .setPort
  | 0x28 => some .ackPort
  | 0x29 => some .quiet
  | 0x2A => some .wake
  | _ => none

/-- The kind is marked supervisor (R161): 20H–2AH (R4). -/
def supervisorKind : RequestKind → Bool
  | .reserve | .unreserve | .submit | .cancelJob | .clearPrinter | .claim | .release => false
  | .setPermits | .setService | .setQuota | .setPrinter | .setScanner | .setZone | .clearZone | .setPort | .ackPort
  | .quiet | .wake => true

/-! ### Symbol groups and frames -/

/-- What a symbol group is (R132). -/
inductive GroupKind where
  | data (nibble : BitVec 4) | fill | start | shut | fault | invalid
  deriving DecidableEq, Repr

/-- The meaning of a five-bit group (R189); `start` is the control group OPEN. -/
def groupKind (g : Group) : GroupKind :=
  match g.toNat with
  | 0b11110 => .data 0x0
  | 0b01001 => .data 0x1
  | 0b10100 => .data 0x2
  | 0b10101 => .data 0x3
  | 0b01010 => .data 0x4
  | 0b01011 => .data 0x5
  | 0b01110 => .data 0x6
  | 0b01111 => .data 0x7
  | 0b10010 => .data 0x8
  | 0b10011 => .data 0x9
  | 0b10110 => .data 0xA
  | 0b10111 => .data 0xB
  | 0b11010 => .data 0xC
  | 0b11011 => .data 0xD
  | 0b11100 => .data 0xE
  | 0b11101 => .data 0xF
  | 0b11111 => .fill
  | 0b11000 => .start
  | 0b01101 => .shut
  | 0b00111 => .fault
  | _ => .invalid

/-- The data group that carries four bits (R189). -/
def dataGroup (n : BitVec 4) : Group :=
  match n.toNat with
  | 0x0 => 0b11110
  | 0x1 => 0b01001
  | 0x2 => 0b10100
  | 0x3 => 0b10101
  | 0x4 => 0b01010
  | 0x5 => 0b01011
  | 0x6 => 0b01110
  | 0x7 => 0b01111
  | 0x8 => 0b10010
  | 0x9 => 0b10011
  | 0xA => 0b10110
  | 0xB => 0b10111
  | 0xC => 0b11010
  | 0xD => 0b11011
  | 0xE => 0b11100
  | _ => 0b11101

/-- The control groups (R189). -/
def fillGroup : Group := 0b11111
/-- OPEN -/
def openGroup : Group := 0b11000
/-- SHUT -/
def shutGroup : Group := 0b01101
/-- FAULT -/
def faultGroup : Group := 0b00111

/-- The group is one of the twenty valid ones (R132). -/
def validGroup (g : Group) : Bool := groupKind g ≠ .invalid

/-- The bytes of a frame's data groups, the first of each pair the less significant (R133); none for an odd number. -/
def pairNibbles : List (BitVec 4) → Option (List Byte)
  | [] => some []
  | [_] => none
  | lo :: hi :: rest => (pairNibbles rest).map fun bs => (hi ++ lo : BitVec 8) :: bs

/-- The sum of bytes, each taken as a number (R134). -/
def byteSum (bs : List Byte) : Nat := (bs.map BitVec.toNat).sum

/-- The check of the bytes before it: 65,536 less their sum, modulo 65,536 (R134). -/
def checkOf (bs : List Byte) : Half := 0 - halfOfNat (byteSum bs)

/-- A good frame's kind and payload (R133, R134); none when it is not good. -/
def goodFrame? (nibbles : List (BitVec 4)) : Option (Byte × List Byte) :=
  match pairNibbles nibbles with
  | some (kind :: len :: rest) =>
    let payload := rest.take len.toNat
    match rest.drop len.toNat with
    | [c0, c1] =>
      if payload.length = len.toNat ∧ len.toNat ≤ payloadMax ∧ halfOf c0 c1 = checkOf (kind :: len :: payload)
      then some (kind, payload) else none
    | _ => none
  | _ => none

/-- A frame kind byte (R189). -/
def kindProfile : Byte := 0x01
/-- PROFILE SEEN -/
def kindProfileSeen : Byte := 0x02
/-- PAGE OPEN -/
def kindPageOpen : Byte := 0x10
/-- PAGE DATA -/
def kindPageData : Byte := 0x11
/-- PAGE CLOSE -/
def kindPageClose : Byte := 0x12
/-- PAGE ABANDON -/
def kindPageAbandon : Byte := 0x13
/-- VERDICT -/
def kindVerdict : Byte := 0x20
/-- PAGE DONE -/
def kindPageDone : Byte := 0x18
/-- PAGE FAULT -/
def kindPageFault : Byte := 0x19
/-- READY -/
def kindReady : Byte := 0x1A
/-- CREDIT -/
def kindCredit : Byte := 0x1B
/-- PAPER -/
def kindPaper : Byte := 0x1C
/-- SCAN -/
def kindScan : Byte := 0x28
/-- TOUCH -/
def kindTouch : Byte := 0x30

/-- The cause a PAGE FAULT names; an unknown code is taken as JAM (R67, R189). -/
def faultCause (b : Byte) : Cause :=
  match b.toNat with
  | 1 => .paperOut
  | 2 => .jam
  | 3 => .coverOpen
  | 4 => .headHot
  | _ => .jam

/-- The kind a PROFILE's first byte names, of those a device may have (R141, R182). -/
def deviceKind? (b : Byte) : Option DeviceKind :=
  match b.toNat with
  | 1 => some .printer
  | 2 => some .scanner
  | 3 => some .panel
  | _ => none

/-- A PROFILE payload read as a valid device profile (R141); none when it is not valid. -/
def profile? (payload : List Byte) : Option DevProfile :=
  match payload with
  | [k, paces, m0, m1, further] =>
    match deviceKind? k with
    | none => none
    | some kind =>
      let set : BitVec 4 := paces.setWidth 4
      if set = 0 then none
      else if kind ≠ .scanner ∧ ¬ (1 ≤ further.toNat ∧ further.toNat ≤ 16) then none
      else some { kind := kind, paces := set, model := halfOf m0 m1, further := if kind = .scanner then 0 else further }
  | _ => none

/-- One entry of a TOUCH frame (R189). -/
structure TouchEntry where
  id : Nat
  phase : Nat
  x : Nat
  y : Nat
  deriving DecidableEq, Repr

/-- The entries of a TOUCH frame after its entry count. -/
def touchEntries : List Byte → List TouchEntry
  | i :: ph :: x0 :: x1 :: y0 :: y1 :: rest =>
    { id := i.toNat, phase := ph.toNat, x := (halfOf x0 x1).toNat, y := (halfOf y0 y1).toNat } :: touchEntries rest
  | _ => []

end Sys2Proof.Machine
end

