-- ==== Sys2Proof/Machine/Flags.lean ====
section
/-! DEFINITION. The status bits of the part: NOTICE and the interrupt line (R174, R175), the gap-owed flag (R169), and
the register words (R176, R185). -/

namespace Sys2Proof.Machine

/-- The bit of a station in NOTICE and NOTICE MASK. -/
def stationBit (st : StationNo) : Half := 1#16 <<< st.val

/-- NOTICE bit s raised (R169, R163). -/
def raiseNotice (s : State) (st : StationNo) : State := { s with notice := s.notice ||| stationBit st }

/-- NOTICE bit s cleared by a retirement (R14). -/
def clearNotice (s : State) (st : StationNo) : State := { s with notice := s.notice &&& ~~~ stationBit st }

/-- A station's gap-owed flag set (R169). -/
def setGap (s : State) (st : StationNo) : State := updDelivery s st fun d => { d with gap := true }

/-- The interrupt line: asserted while NOTICE AND NOTICE MASK is not zero (R175). -/
def State.interrupt (s : State) : Bool := (s.notice &&& s.noticeMask) ≠ 0

/-- PART CONTROL as it reads: RUN 1 in RUNNING and QUIET, SOFT RESET always 0 (R176). -/
def partControl (s : State) : Half := if s.part = .stopped then 0 else 1

/-- PART STATUS as it reads (R185). -/
def partStatus (s : State) : Half :=
  (partCode s.part).setWidth 16 ||| ((wakeCode s.wake).setWidth 16 <<< 4) ||| ((wakeZone s.wake).setWidth 16 <<< 8)

/-- The registers by their word offset from FFF8H (R185). -/
def registerWord (s : State) (k : Nat) : Half :=
  match k with
  | 0 => partControl s
  | 1 => partStatus s
  | 2 => s.notice
  | _ => s.noticeMask

end Sys2Proof.Machine
end

