-- ==== Sys2Proof/WellFormed.lean ====
section
/-! DEFINITION. When a command is one of its row: a host write lands in the region its row names (R151, R153,
R185), a received frame's payload has at most 96 bytes (R133), and VALID_GROUP_RECEIVED carries a valid group
(R132, R189). `exec` is total and does not need these: it goes by the address and the group it is given. -/

namespace Sys2Proof

open Config

/-- The address an access covers first: a word access at an odd address is the word below it (R151). -/
def HostWrite.address : HostWrite → Nat
  | .byte a _ => a.toNat
  | .word a _ => a.toNat / 2 * 2

/-- The place of an address within its station area. -/
def areaOffset (a : Nat) : Nat := (a - areaBase) % areaSize

/-- The address lies in a station area (R151). -/
def inAreas (a : Nat) : Bool := areaBase ≤ a && a < poolBase

/-- The address lies in the word of a taken mark (R153). -/
def isTakenMark (a : Nat) : Bool := inAreas a && areaOffset a < 2

/-- The address is the state byte of a card (R154). -/
def isCardState (a : Nat) : Bool :=
  inAreas a && (areaOffset a = cardOffset || areaOffset a = cardOffset + cardSize)

/-- The address is a card byte other than a state byte (R157). -/
def isCardByte (a : Nat) : Bool :=
  inAreas a && cardOffset ≤ areaOffset a && areaOffset a < ringOffset && !isCardState a

/-- A host write there is discarded by R151 and R153: the common page, the unmapped region, a header byte other than
the taken mark, or a ring byte. -/
def isDiscarded (a : Nat) : Bool :=
  a < areaBase || (unmappedBase ≤ a && a < registerBase) ||
  (inAreas a && ((2 ≤ areaOffset a && areaOffset a < cardOffset) || ringOffset ≤ areaOffset a))

/-- The address lies in the block pool (R24). -/
def inPool (a : Nat) : Bool := poolBase ≤ a && a < unmappedBase

/-- The address lies in the register at offset `r` from FFF8H (R185). -/
def inRegister (r a : Nat) : Bool := registerBase + r ≤ a && a < registerBase + r + 2

/-- The twenty valid groups of R189. -/
def isValidGroup (g : Group) : Bool :=
  [0b11110, 0b01001, 0b10100, 0b10101, 0b01010, 0b01011, 0b01110, 0b01111, 0b10010, 0b10011,
   0b10110, 0b10111, 0b11010, 0b11011, 0b11100, 0b11101, 0b11111, 0b11000, 0b01101, 0b00111].contains g

/-- A payload a good frame can hold (R133). -/
def payloadFits (bytes : List Byte) : Bool := bytes.length ≤ payloadMax

/-- The command is one its row can stand for. -/
def WellFormed : Instr → Bool
  | .run w => inRegister 0 w.address
  | .softReset w => inRegister 0 w.address
  | .registerWriteDiscarded w => inRegister 2 w.address
  | .noticeWrite w => inRegister 4 w.address
  | .noticeMaskWrite w => inRegister 6 w.address
  | .hostWrite w => isDiscarded w.address
  | .poolBlockWrite w => inPool w.address
  | .cardByteWrite w => isCardByte w.address
  | .cardStateWrite w => isCardState w.address
  | .takenMarkWrite w => isTakenMark w.address
  | .validGroupReceived _ g => isValidGroup g
  | .profile _ b => payloadFits b
  | .profileSeen _ b => payloadFits b
  | .pageDone _ b => payloadFits b
  | .credit _ b => payloadFits b
  | .pageFault _ b => payloadFits b
  | .ready _ b => payloadFits b
  | .paper _ b => payloadFits b
  | .scan _ b => payloadFits b
  | .touch _ b => payloadFits b
  | .fullReset | .takeCard | .reserve | .unreserve | .submit | .cancelJob | .clearPrinter | .claim | .release
  | .setPermits | .setService | .setQuota | .setPrinter | .setScanner | .setZone | .clearZone | .setPort | .ackPort
  | .quiet | .wake | .wakeTouch | .printersEnterQuiet | .scannersEnterQuiet | .touchEnterQuiet
  | .printersLeaveQuiet | .scannersLeaveQuiet | .touchLeaveQuiet | .profileResend _ | .profileSeenResend _
  | .sendFrame _ | .paceSwitch _ | .babbledFrame _ | .attemptTimerExpiry _ | .silenceTimerExpiry _
  | .printerLinkLoss _ | .scannerLinkLoss _ | .panelLinkLoss _ | .printerArrival _ | .printerReturn _ | .kindChange _
  | .scannerArrival _ | .panelArrival _ | .reconnectTimerExpiry _ | .pageTimerExpiry _ | .idleTimerExpiry _
  | .symbolGroupReceived _ _ | .millisecondTick => true

end Sys2Proof
end

