-- ==== Sys2Proof/Machine/Mirrors.lean ====
section
/-! DEFINITION. What the host reads: the mirrors of the common page (R2, R20, R33, R56, R86, R111, R139, R183, R184), the
station headers, and every byte of exchange memory (R151); and `publish`, which advances the change counts once for an
event (R184). The mirrors are computed from the records, so that a mirror always shows the records as the last event
left them (log 3). -/

namespace Sys2Proof.Machine

open Config

/-! ### Mirror entries, less their change count -/

/-- A list of bytes cut or filled with 00H to a length: unused tails read 00H (R182). -/
def padTo (n : Nat) (bs : List Byte) : List Byte := bs.take n ++ List.replicate (n - bs.length) 0

/-- A word's two bytes, the less significant first (R182). -/
def halfBytes (h : Half) : List Byte := [loByte h, hiByte h]

/-- Job mirror entry, bytes 1–15 (R184). -/
def jobItems (j : Job) : List Byte :=
  padTo 15 ([jobCode j.state, numberByte j.owner, byteOf j.port.val, classCode j.cls,
    flagByte j.notices ||| (flagByte j.cancelPending <<< 1), byteOf j.pagesDone, byteOf j.pageCount,
    byteOf j.suspensions] ++ halfBytes j.serial ++ [reasonCode j.reason])

/-- Station mirror entry, bytes 1–15 (R184); its first five bytes are the status copy's too (R2). -/
def stationItems (s : State) (st : StationNo) : List Byte :=
  let r := s.stations[st]
  padTo 15 [serviceCode r.service, r.permits, byteOf r.quota, byteOf r.holdings, byteOf (reservedCount s st)]

/-- The pool mirror after its change count: the free count and the 96 state bytes (R183). -/
def poolItems (s : State) : List Byte :=
  byteOf s.free.length :: s.blocks.toList.map blockCode

/-- The port part of a port mirror entry, bytes 1–10 (R139, R184). -/
def portPart (r : Port) : List Byte :=
  [linkCode r.link] ++
  (match r.profile with
   | none => [0, 0, 0, 0, 0]
   | some d => [kindCode d.kind, d.paces.setWidth 8] ++ halfBytes d.model ++ [d.further]) ++
  [byteOf (r.resolved.getD 0), r.advertised.setWidth 8, flagByte r.lost, byteOf r.babbleCount]

/-- The printer part, bytes 11–33 (R56, R184). -/
def printerPart (r : Printer) (c : PrinterSettings) : List Byte :=
  [printerCode r.state, numberByte r.current, numberByte r.suspended, byteOf r.queue.length] ++
  padTo 12 (r.queue.map fun j => byteOf j.val) ++
  [flagByte r.suspendPending, byteOf ((r.page.map PageInFlight.page).getD 0),
   (r.hold.map causeCode).getD 0, flagByte r.paperLow, byteOf c.pageTimeout, byteOf c.reconnectWindow,
   flagByte c.suspendAllowed]

/-- The claim of a scanner record, if any (R82). -/
def claimOf : ScannerState → Option Claim
  | .held c => some c
  | _ => none

/-- The scanner part, bytes 34–56 (R86, R184). Without a claim the holder is FFH and the other claim fields 00H; without
a last end its reason and serial are 0 (log 7). -/
def scannerPart (r : Scanner) (c : ScannerSettings) : List Byte :=
  [scannerCode r.state, numberByte ((claimOf r.state).map Claim.holder)] ++
  halfBytes (((claimOf r.state).map Claim.serial).getD 0) ++
  halfBytes (halfOfNat (((claimOf r.state).map Claim.hold).getD 0)) ++
  [byteOf (((claimOf r.state).map Claim.count).getD 0), byteOf r.queue.length] ++
  padTo 4 (r.queue.map fun w => byteOf w.station.val) ++ halfBytes r.grants ++
  [(r.lastEnd.map fun e => claimEndCode e.1).getD 0] ++ halfBytes ((r.lastEnd.map Prod.snd).getD 0) ++
  halfBytes (halfOfNat c.defaultHold) ++ halfBytes (halfOfNat c.maximumHold) ++
  [numberByte c.defaultStation, byteOf c.repeatWindow]

/-- The zone flags of a port: bit z for each ACTIVE zone of the port (R111). -/
def zoneSet (s : State) (p : PortNo) : Half :=
  (List.finRange 16).foldl (fun acc z =>
    match s.zones[z] with
    | some zn => if zn.port = p then acc ||| (1#16 <<< z.val) else acc
    | none => acc) 0

/-- The number of contact records of a port in a condition (R111). -/
def contactCount (s : State) (p : PortNo) (test : Contact.Condition → Bool) : Nat :=
  s.contacts.toList.countP fun c => match c with
    | some r => r.port = p && test r.cond
    | none => false

/-- The record is live (R110). -/
def isLive : Contact.Condition → Bool
  | .live _ _ => true
  | _ => false
/-- The record is closing (R110). -/
def isClosing : Contact.Condition → Bool
  | .closing _ _ => true
  | _ => false
/-- The record is suppressed (R110). -/
def isSuppressed : Contact.Condition → Bool
  | .suppressed _ _ => true
  | _ => false
/-- The record is ignored (R110). -/
def isIgnored : Contact.Condition → Bool
  | .ignored _ => true
  | _ => false

/-- The panel part, bytes 57–62 (R111, R184). -/
def panelPart (s : State) (p : PortNo) : List Byte :=
  halfBytes (zoneSet s p) ++
  [byteOf (contactCount s p isLive), byteOf (contactCount s p isClosing), byteOf (contactCount s p isSuppressed),
   byteOf (contactCount s p isIgnored)]

/-- Port mirror entry, bytes 1–63 (R184). -/
def portItems (s : State) (p : PortNo) : List Byte :=
  padTo 63 (portPart s.ports[p] ++ printerPart s.printers[p] s.printerSet[p] ++
    scannerPart s.scanners[p] s.scannerSet[p] ++ panelPart s p)

/-! ### Change counts -/

/-- The change counts after an event that took the part from `b` to `a`: each entry whose shown items differ, and each
port entry the event's rule rewrites in any case (`forced`, log 4), is rewritten once and its count rises by 1
modulo 256 (R184). -/
def publish (forced : List PortNo) (b a : State) : State :=
  { a with
    portCount := Vector.ofFn fun p =>
      if p ∈ forced ∨ portItems b p ≠ portItems a p then a.portCount[p] + 1 else a.portCount[p]
    jobCount := Vector.ofFn fun j =>
      if jobItems b.jobs[j] ≠ jobItems a.jobs[j] then a.jobCount[j] + 1 else a.jobCount[j]
    stationCount := Vector.ofFn fun st =>
      if stationItems b st ≠ stationItems a st then a.stationCount[st] + 1 else a.stationCount[st]
    poolCount := if poolItems b ≠ poolItems a then a.poolCount + 1 else a.poolCount }

/-- An event that only its changes publish. -/
def event (f : State → State) (s : State) : Out := .next (publish [] s (f s))

/-- A new state together with the ports whose mirror entries the event's rule rewrites in any case (log 4). -/
structure Marked where
  state : State
  marks : List PortNo

/-- An event that also names port entries it rewrites in any case. -/
def eventMarked (f : State → Marked) (s : State) : Out := .next (publish (f s).marks s (f s).state)

/-! ### Host reads (R151) -/

/-- A byte of a list, 00H beyond it. -/
def byteAt (bs : List Byte) (k : Nat) : Byte := bs.getD k 0

/-- A byte of an entry that begins with its change count. -/
def entryByte (count : Byte) (items : List Byte) (k : Nat) : Byte := byteAt (count :: items) k

/-- A byte of the common page (R183). -/
def commonByte (s : State) (a : Nat) : Byte :=
  if a < 0x10 then byteAt (halfBytes vendorCode ++ halfBytes Config.partCode ++ [revision]) a
  else if a < 0x210 then
    match index? 8 ((a - 0x10) / 0x40) with
    | some p => entryByte s.portCount[p] (portItems s p) ((a - 0x10) % 0x40)
    | none => 0
  else if a < 0x410 then
    match index? 32 ((a - 0x210) / 0x10) with
    | some j => entryByte s.jobCount[j] (jobItems s.jobs[j]) ((a - 0x210) % 0x10)
    | none => 0
  else if a < 0x510 then
    match index? 16 ((a - 0x410) / 0x10) with
    | some st => entryByte s.stationCount[st] (stationItems s st) ((a - 0x410) % 0x10)
    | none => 0
  else if a < 0x572 then entryByte s.poolCount (poolItems s) (a - 0x510)
  else 0

/-- A byte of a station header (R184): taken mark, write mark, gap flag, sequence counter, status copy; the rest 00H. -/
def headerByte (s : State) (st : StationNo) (k : Nat) : Byte :=
  let d := s.delivery[st]
  byteAt (halfBytes (halfOfNat d.t) ++ halfBytes (halfOfNat d.w) ++ [flagByte d.gap, 0] ++ halfBytes d.seq ++
    [s.stationCount[st]] ++ (stationItems s st).take 5) k

/-- The card whose window holds a station area offset of 40H–FFH. -/
def cardOf (st : StationNo) (off : Nat) : CardNo :=
  if off < cardOffset + cardSize then ⟨st.val * 2, by omega⟩ else ⟨st.val * 2 + 1, by omega⟩

/-- The station whose area holds an address of 1000H–8FFFH (R151). -/
def stationAt? (a : Nat) : Option StationNo := index? 16 ((a - areaBase) / areaSize)

/-- A byte of a station area as a host read returns it (R153, R155). -/
def areaByte (s : State) (st : StationNo) (a : Nat) : Byte :=
  let off := areaOffset a
  if off < cardOffset then headerByte s st off
  else if off = cardOffset ∨ off = cardOffset + cardSize then cardCode s.cards[cardOf st off]
  else readMem s.mem a

/-- A byte of exchange memory as a host read returns it (R151). Addresses run to FFFFH. -/
def State.readByte (s : State) (a : Nat) : Byte :=
  if a < areaBase then commonByte s a
  else if a < poolBase then
    match stationAt? a with
    | some st => areaByte s st a
    | none => 0
  else if a < unmappedBase then readMem s.mem a
  else if a < registerBase then 0
  else
    let w := registerWord s ((a - registerBase) / 2)
    if a % 2 = 0 then loByte w else hiByte w

/-- A word as a host read returns it; a word access at an odd address is the word below (R151). -/
def State.readWord (s : State) (a : Nat) : Half :=
  halfOf (s.readByte (a / 2 * 2)) (s.readByte (a / 2 * 2 + 1))

end Sys2Proof.Machine
end

