-- ==== Sys2Proof/Machine/Delivery.lean ====
section
/-! DEFINITION. The Delivery Unit (spec/10): ring records and their bytes (R167, R187), room (R168), writing a record
(R169), and what becomes of a record that is not written (R170). -/

namespace Sys2Proof.Machine

open Config

/-! ### Records as bytes (R167, R187) -/

/-- A code padded with 00H to a multiple of 8 (R167, R182). -/
def paddedCode (code : List Byte) : List Byte := padTo ((code.length + 7) / 8 * 8) code

/-- The content of a record from byte 8 on (R187). Every kind but SCAN has 8 bytes. -/
def recordContent : Record → List Byte
  | .jobProgress j p serial done count =>
    padTo 8 ([byteOf j.val, byteOf p.val] ++ halfBytes serial ++ [byteOf done, byteOf count])
  | .jobEnded j p serial done count reason =>
    padTo 8 ([byteOf j.val, byteOf p.val] ++ halfBytes serial ++ [byteOf done, byteOf count, reasonCode reason])
  | .printerFault p j serial page cause =>
    padTo 8 ([byteOf p.val, byteOf j.val] ++ halfBytes serial ++ [byteOf page, causeCode cause])
  | .printerNote p low => padTo 8 [byteOf p.val, flagByte low]
  | .claimGranted p serial hold count =>
    padTo 8 ([byteOf p.val, 0] ++ halfBytes serial ++ halfBytes (halfOfNat hold) ++ [byteOf count])
  | .claimEnded p wait serial reason =>
    padTo 8 ([byteOf p.val, flagByte wait] ++ halfBytes serial ++ [claimEndCode reason])
  | .scan p symbology code serial _ =>
    padTo 8 ([byteOf p.val, symbology, byteOf code.length, 0] ++ halfBytes serial) ++ paddedCode code
  | .touch _ p id n z pos =>
    [byteOf p.val, byteOf id.val, byteOf n.val, byteOf z.val] ++ halfBytes (halfOfNat pos.x) ++
      halfBytes (halfOfNat pos.y)
  | .portChange p prev new cause lost device =>
    padTo 8 ([byteOf p.val, linkCode prev, linkCode new, linkCauseCode cause, flagByte lost] ++
      match device with
      | none => []
      | some (kind, pace, model) => [kindCode kind ||| (byteOf pace <<< 4)] ++ halfBytes model)
  | .partState prev new cause =>
    padTo 8 [partCode prev, partCode new, wakeCode cause, wakeZone cause]

/-- The kind code of a record (R187). -/
def recordKind : Record → Byte
  | .jobProgress .. => 0x01
  | .jobEnded .. => 0x02
  | .printerFault .. => 0x03
  | .printerNote .. => 0x04
  | .claimGranted .. => 0x05
  | .claimEnded .. => 0x06
  | .scan .. => 0x07
  | .touch .down .. => 0x08
  | .touch .move .. => 0x09
  | .touch .up .. => 0x0A
  | .touch .cancel .. => 0x0B
  | .portChange .. => 0x0C
  | .partState .. => 0x0D

/-- The UNCLAIMED flag (R98, R187). -/
def recordUnclaimed : Record → Bool
  | .scan _ _ _ _ u => u
  | _ => false

/-- A record's length in bytes, header included (R167). -/
def recordLength : Record → Nat
  | .scan _ _ code _ _ => 16 + (code.length + 7) / 8 * 8
  | _ => 16

/-- An 8-byte record header (R167, R187). -/
def recordHeader (kind : Byte) (length : Nat) (gap unclaimed : Bool) (seq stamp : Half) : List Byte :=
  [kind, byteOf (length / 8), flagByte gap ||| (flagByte unclaimed <<< 1), 0] ++ halfBytes seq ++ halfBytes stamp

/-! ### Room (R166, R168) -/

/-- The used bytes of a ring: (W − T) mod 1792 (R166). -/
def usedBytes (d : Delivery) : Nat := (d.w + ringBytes - d.t) % ringBytes

/-- The bytes from W to the end of the ring (R168). -/
def toEnd (d : Delivery) : Nat := ringBytes - d.w

/-- The bytes a record of n bytes needs, its SKIP included (R168). -/
def neededBytes (d : Delivery) (n : Nat) : Nat := if n ≤ toEnd d then n else toEnd d + n

/-- A record of n bytes fits (R168). -/
def fits (d : Delivery) (n : Nat) : Bool := usedBytes d + neededBytes d n ≤ ringFull

/-- Where a record of n bytes begins (R168). -/
def recordPlace (d : Delivery) (n : Nat) : Nat := if n ≤ toEnd d then d.w else 0

/-- The write mark after a record of n bytes (R168). -/
def nextMark (d : Delivery) (n : Nat) : Nat := if n ≤ toEnd d then (d.w + n) % ringBytes else n

/-- The address of a station's ring (R153). -/
def ringAddress (st : StationNo) : Nat := areaBase + st.val * areaSize + ringOffset

/-- A SKIP of n bytes: its header, with the counter as it stands and flags 0 (R167), then 00H (R182, log 6). -/
def skipBytes (d : Delivery) (n : Nat) (stamp : Half) : List Byte :=
  padTo n (recordHeader 0x00 n false false d.seq stamp)

/-! ### Writing (R169) -/

/-- A record written to a station's ring, which it fits, as one event (R169). -/
def writeRecord (st : StationNo) (r : Record) (stamp : Half) (s : State) : State :=
  let d := s.delivery[st]
  let n := recordLength r
  let seq := d.seq + 1
  let mem := if n ≤ toEnd d then s.mem
    else writeBytes s.mem (ringAddress st + d.w) (skipBytes d (toEnd d) (stampNow s))
  let bytes := recordHeader (recordKind r) n d.gap (recordUnclaimed r) seq stamp ++ recordContent r
  raiseNotice
    { s with
      mem := writeBytes mem (ringAddress st + recordPlace d n) bytes
      delivery := put s.delivery st { d with w := nextMark d n, seq := seq, gap := false } } st

/-- Records may be written for the station: it is IN SERVICE and its ring is not frozen (R14, R170). -/
def ringOpen (s : State) (st : StationNo) : Bool := inService s st && !s.delivery[st].frozen

/-- The record is written at once: the station is served, its owed queue is empty and the record fits (R170). -/
def canWrite (s : State) (st : StationNo) (r : Record) : Bool :=
  ringOpen s st && s.delivery[st].owed.isEmpty && fits s.delivery[st] (recordLength r)

/-- A record joins the tail of an owed queue. -/
def joinOwed (s : State) (st : StationNo) (r : Record) : State :=
  updDelivery s st fun d => { d with owed := d.owed ++ [{ record := r, stamp := stampNow s }] }

/-- A status record given for a station: written, queued, or discarded with a gap owed (R170); discarded for a station
OUT OF SERVICE (R14). -/
def giveStatus (st : StationNo) (r : Record) (s : State) : State :=
  if !ringOpen s st then s
  else if canWrite s st r then writeRecord st r (stampNow s) s
  else if s.delivery[st].owed.length < owedMax then joinOwed s st r
  else setGap s st

/-- A status record given to a station when there is one (a job without an owner receives none, R12). -/
def giveStatusTo (st : Option StationNo) (r : Record) (s : State) : State :=
  match st with
  | none => s
  | some st => giveStatus st r s

/-- A JOB PROGRESS given for a station: written, or discarded with a gap owed (R170). -/
def giveProgress (st : StationNo) (r : Record) (s : State) : State :=
  if !ringOpen s st then s
  else if canWrite s st r then writeRecord st r (stampNow s) s
  else setGap s st

/-- A SCAN or touch record offered for a station: written at once, or not written and reported (R170). -/
def offer? (st : StationNo) (r : Record) (s : State) : Option State :=
  if canWrite s st r then some (writeRecord st r (stampNow s) s) else none

/-! ### The owed queue at a flush (R172) -/

/-- The owed records written one after another until the first that does not fit; true when all were written (R172). -/
def flushOwed (st : StationNo) : List Owed → State → State × Bool
  | [], s => (s, true)
  | o :: rest, s =>
    if fits s.delivery[st] (recordLength o.record) then
      flushOwed st rest (updDelivery (writeRecord st o.record o.stamp s) st fun d => { d with owed := rest })
    else (s, false)

end Sys2Proof.Machine
end

