-- ==== Sys2Proof/Machine/Links.lean ====
section
/-! DEFINITION. The sending side of a device link (spec/08, R134, R136): the send list, what the line carries, and the
bytes and symbol groups of a frame the part sends (R189). -/

namespace Sys2Proof.Machine

open Config

/-- A frame's own bytes: kind and payload (R189). What PROFILE SEEN carries is the model's choice, a free value of at most 96
bytes (DESIGN CHOICE, log 19). -/
def framePayload : OutFrame → Byte × List Byte
  | .profile paces => (kindProfile, [4, paces.setWidth 8] ++ halfBytes Config.partCode ++ [0])
  | .profileSeen _ => (kindProfileSeen, Config.openPayload.take payloadMax)
  | .pageOpen page length finish density =>
    (kindPageOpen, [byteOf page] ++ halfBytes (halfOfNat length) ++ [finish, density])
  | .pageData _ page offset bytes => (kindPageData, [byteOf page] ++ halfBytes (halfOfNat offset) ++ bytes)
  | .pageClose _ page => (kindPageClose, [byteOf page])
  | .pageAbandon page => (kindPageAbandon, [byteOf page])
  | .verdict accept => (kindVerdict, [if accept then 0 else 1])

/-- A frame's bytes: kind, payload length, payload, check (R133, R134). -/
def frameBytes (f : OutFrame) : List Byte :=
  let (kind, payload) := framePayload f
  let body := kind :: byteOf payload.length :: payload
  body ++ halfBytes (checkOf body)

/-- A byte's two data groups, the less significant four bits first (R133). -/
def byteGroups (b : Byte) : List Group := [dataGroup (b.setWidth 4), dataGroup ((b >>> 4).setWidth 4)]

/-- A frame's symbol groups: OPEN, its bytes, SHUT (R132, R189). -/
def frameGroups (f : OutFrame) : List Group := openGroup :: (frameBytes f).flatMap byteGroups ++ [shutGroup]

/-- What a line carries, in symbol groups: nothing, FILL, a frame with the FILL that stands between it and the one before, or
the FAULT that cut one (R132, R136). How many FILL groups go out is a matter of duration (log 16). -/
def lineGroups : Line → List Group
  | .silent => []
  | .fill => [fillGroup]
  | .frame f => fillGroup :: frameGroups f
  | .cut => [faultGroup]

/-- A symbol group's five bits in the order in which they are sent, the most significant first (R189). -/
def groupBits (g : Group) : List Bool := (List.range 5).map g.getMsbD

/-- What a line carries, in bits (R189). -/
def lineBits (l : Line) : List Bool := (lineGroups l).flatMap groupBits

/-- The kind of device a frame of the Print Scheduler or the Scan Router is for (R136); none for the frames of an
introduction. -/
def frameFor : OutFrame → Option DeviceKind
  | .pageOpen _ _ _ _ | .pageData _ _ _ _ | .pageClose _ _ | .pageAbandon _ => some .printer
  | .verdict _ => some .scanner
  | .profile _ | .profileSeen _ => none

/-- The port's send list takes a frame of the Print Scheduler or the Scan Router: it is UP (R136), with a device of the
frame's kind. -/
def takesFrame (r : Port) (f : OutFrame) : Bool := r.link = .up && (r.profile.map DevProfile.kind = frameFor f)

/-- A frame that the Print Scheduler or the Scan Router hands for a port: it joins the send list of an UP port and is
discarded otherwise (R136). That it is discarded too where the port has come UP again with a device of another kind, whose
owner's notices still wait, is the model's choice (DESIGN CHOICE, log 20). -/
def hand (p : PortNo) (f : OutFrame) (s : State) : State :=
  if takesFrame s.ports[p] f then updPort s p fun r => { r with sendList := r.sendList ++ [f] } else s

/-- The frame is PAGE DATA or PAGE CLOSE of this page of this job (R59). -/
def isPageFrame (serial : Half) (page : Nat) : OutFrame → Bool
  | .pageData s p _ _ => s = serial && p = page
  | .pageClose s p => s = serial && p = page
  | _ => false

/-- The PAGE DATA and PAGE CLOSE frames of a page not yet begun are withdrawn from the send list (R59). -/
def withdraw (p : PortNo) (serial : Half) (page : Nat) (s : State) : State :=
  updPort s p fun r => { r with sendList := r.sendList.filter fun f => !isPageFrame serial page f }

/-! ### SEND_FRAME and PACE_SWITCH (R136, R142) -/

/-- The part sends on a port that is INTRODUCING or UP, and on no other (R136). -/
def sends (r : Port) : Bool := r.link = .introducing || r.link = .up

/-- The line carries the PROFILE SEEN after which an UP link switches its pace (R142). -/
def sendingLast (r : Port) : Bool := r.link = .up && r.line = .frame (.profileSeen true)

/-- The next frame of the send list is begun, whatever was sent before having gone out whole; FILL when the list is empty.
The last PROFILE SEEN ends with PACE_SWITCH, not here (R136, R142). -/
def sendNext (r : Port) : Port :=
  if sends r && !sendingLast r then
    match r.sendList with
    | [] => { r with line := .fill }
    | f :: rest => { r with sendList := rest, line := .frame f }
  else r

/-- At the last group of that PROFILE SEEN the link runs at the resolved pace, and the line is free again (R142). -/
def switchPace (r : Port) : Port :=
  if sendingLast r then { r with pace := r.resolved.getD 1, line := .fill } else r

/-- SEND_FRAME (R136). -/
def execSendFrame (p : PortNo) (s : State) : Out := .next (updPort s p sendNext)

/-- PACE_SWITCH (R142). -/
def execPaceSwitch (p : PortNo) (s : State) : Out := .next (updPort s p switchPace)

end Sys2Proof.Machine
end

