-- ==== Sys2Proof/Machine/Requests.lean ====
section
/-! DEFINITION. The Request Unit (spec/09): taking a card and the common checks (R160, R161), the service of a request
by its owning block (R162), and the answer (R163). -/

namespace Sys2Proof.Machine

open Config

/-- The outcomes (09, section 9.5). -/
inductive Outcome where
  | ok | waiting | badKind | badArgument | notSupervisor | notPermitted | outOfService | noDevice | noRoom | overQuota
  | queueFull | busy | notHolder | tooLate | badState | format | overlap | quiet
  deriving DecidableEq, Repr

/-- The outcome's value (09, section 9.5). -/
def outcomeCode : Outcome → Byte
  | .ok => 0x00
  | .waiting => 0x01
  | .badKind => 0x02
  | .badArgument => 0x03
  | .notSupervisor => 0x04
  | .notPermitted => 0x05
  | .outOfService => 0x06
  | .noDevice => 0x07
  | .noRoom => 0x08
  | .overQuota => 0x09
  | .queueFull => 0x0A
  | .busy => 0x0B
  | .notHolder => 0x0C
  | .tooLate => 0x0D
  | .badState => 0x0E
  | .format => 0x0F
  | .overlap => 0x10
  | .quiet => 0x11

/-- An answer: outcome, detail, answer value (R154). -/
structure Answer where
  outcome : Outcome
  detail : Nat := 0
  value : Nat := 0
  deriving DecidableEq, Repr

/-- The answer fields of a card, offsets 4–7 (R154). -/
def answerBytes (a : Answer) : List Byte :=
  [outcomeCode a.outcome, byteOf a.detail] ++ halfBytes (halfOfNat a.value)

/-- A card answered (R163 steps 2–5): argument bytes from offset 8 overwritten where the answer says so, the outcome,
detail and value written, the card ANSWERED, and its station's NOTICE bit raised. -/
def answerCard (c : CardNo) (a : Answer) (args : List Byte) (s : State) : State :=
  raiseNotice
    { s with
      mem := writeBytes (writeBytes s.mem (cardAddress c + 8) args) (cardAddress c + 4) (answerBytes a)
      cards := put s.cards c .answered } (cardStation c)

/-- The answer to the card being served, after which the Request Unit is IDLE (R163). -/
def answerServed (c : CardNo) (a : Answer) (args : List Byte) (s : State) : State :=
  { answerCard c a args s with serving := none }

/-- What an owning block makes of a request: the new state before the answer, the answer, the argument bytes it
overwrites from offset 8, and the port entries its rule rewrites in any case (log 4). -/
structure Served where
  state : State
  answer : Answer
  args : List Byte := []
  marks : List PortNo := []

/-- A request refused: nothing changes but the card (R163). -/
def refuse (s : State) (a : Answer) : Served := { state := s, answer := a }

/-- The first check that fails gives its answer; checks are listed in the order of the rule's table. -/
def firstFailing : List (Bool × Answer) → Option Answer
  | [] => none
  | (pass, a) :: rest => if pass then firstFailing rest else some a

/-- A request with its checks: the first failing check's answer, or the accepted request. -/
def checked (s : State) (checks : List (Bool × Answer)) (accept : Served) : Served :=
  match firstFailing checks with
  | some a => refuse s a
  | none => accept

/-- The owning block's event for the card being served (R162, R163). The event arises only while the Request Unit serves a
card of this kind; otherwise nothing happens (log 1). -/
def serve (k : RequestKind) (f : CardNo → State → Served) (s : State) : Out :=
  match s.serving with
  | none => .next s
  | some c =>
    if requestKind? (cardByte s c 1) = some k then
      let r := f c s
      .next (publish r.marks s (answerServed c r.answer r.args r.state))
    else .next s

/-! ### TAKE_CARD (R160, R161) -/

/-- The Request Unit may take a card (R160). -/
def canTake (s : State) : Bool := s.part ≠ .stopped && s.serving.isNone

/-- The common checks of a card, in order (R161). -/
def commonChecks (s : State) (c : CardNo) : List (Bool × Answer) :=
  let kind := requestKind? (cardByte s c 1)
  [(kind.isSome, { outcome := .badKind }),
   (inService s (cardStation c), { outcome := .outOfService }),
   (!(kind.map supervisorKind).getD false || cardStation c = 0, { outcome := .notSupervisor })]

/-- The head card leaves the list and is TAKEN (R160). -/
def takeHead (s : State) (c : CardNo) (rest : List CardNo) : State :=
  { s with posting := rest, cards := put s.cards c .taken, serving := some c }

/-- TAKE_CARD: the head card is taken and, when a common check fails, answered within the taking (R160, R161). -/
def takeCard (s : State) : State :=
  match s.posting with
  | [] => s
  | c :: rest =>
    if canTake s then
      let t := takeHead s c rest
      match firstFailing (commonChecks t c) with
      | some a => answerServed c a [] t
      | none => t
    else s

/-- TAKE_CARD (R160). -/
def execTakeCard (s : State) : Out := .next (takeCard s)

end Sys2Proof.Machine
end

