-- ==== Sys2Proof/Machine/Pool.lean ====
section
/-! DEFINITION. The Block Pool (spec/02): the free list (R18), RESERVE (R21, R22), UNRESERVE (R23), the commitment of
blocks to a job (R26), and the write guard (R24). -/

namespace Sys2Proof.Machine

open Config

/-- The address of a block's first byte. -/
def blockAddress (b : BlockNo) : Nat := poolBase + b.val * blockBytes

/-- A block becomes FREE and joins the tail of the free list; a block already FREE stays where it is (R17, R18). -/
def freeBlock (s : State) (b : BlockNo) : State :=
  if s.blocks[b] = .free then s else { s with blocks := put s.blocks b .free, free := s.free ++ [b] }

/-- Blocks freed by one event join in the order of the list that frees them (R18). -/
def freeBlocks (bs : List BlockNo) (s : State) : State := bs.foldl freeBlock s

/-- Each listed block is COMMITTED to the job (R26). -/
def commitBlocks (j : JobNo) (bs : List BlockNo) (s : State) : State :=
  bs.foldl (fun s b => { s with blocks := put s.blocks b (.committed j) }) s

/-- A block taken from the free list is RESERVED by the station and every byte of it set to 00H (R22). -/
def reserveBlock (st : StationNo) (s : State) (b : BlockNo) : State :=
  { s with blocks := put s.blocks b (.reserved st), mem := clearMem s.mem (blockAddress b) blockBytes }

/-! ### RESERVE (R21, R22) -/

/-- The checks of RESERVE in their order (R21). -/
def reserveChecks (s : State) (st : StationNo) (count : Nat) : List (Bool × Answer) :=
  let r := s.stations[st]
  [(1 ≤ count && count ≤ 32, { outcome := .badArgument }),
   (r.holdings + count ≤ r.quota, { outcome := .overQuota, value := r.quota - r.holdings }),
   (count ≤ s.free.length, { outcome := .noRoom, value := s.free.length })]

/-- An accepted RESERVE: blocks leave the head of the free list one after the other (R22). -/
def acceptReserve (st : StationNo) (count : Nat) (s : State) : Served :=
  let taken := s.free.take count
  let t := taken.foldl (reserveBlock st) { s with free := s.free.drop count }
  { state := updStation t st fun r => { r with holdings := r.holdings + count }
    answer := { outcome := .ok, value := t.free.length }
    args := taken.map fun b => byteOf b.val }

/-- RESERVE served (R21, R22): the count is card offset 8. -/
def serveReserve (c : CardNo) (s : State) : Served :=
  let st := cardStation c
  let count := cardNum s c 8
  checked s (reserveChecks s st count) (acceptReserve st count s)

/-- RESERVE (R22). -/
def execReserve (s : State) : Out := serve .reserve serveReserve s

/-! ### UNRESERVE (R23) -/

/-- The block a list entry names, when it is RESERVED by the station. -/
def ownReserved? (s : State) (st : StationNo) (entry : Nat) : Option BlockNo :=
  match index? 96 entry with
  | some b => if s.blocks[b] = .reserved st then some b else none
  | none => none

/-- The index of the first entry that fails: above 95, not RESERVED by the station, or repeating an earlier entry
(R23, R39). -/
def firstBadEntry (s : State) (st : StationNo) (i : Nat) (seen : List Nat) : List Nat → Option Nat
  | [] => none
  | e :: rest =>
    if (ownReserved? s st e).isNone || seen.contains e then some i else firstBadEntry s st (i + 1) (e :: seen) rest

/-- The blocks a checked list names, in its order. -/
def listedBlocks (s : State) (st : StationNo) (entries : List Nat) : List BlockNo := entries.filterMap (ownReserved? s st)

/-- The checks of UNRESERVE (R23): the count, then the list. -/
def unreserveChecks (s : State) (st : StationNo) (count : Nat) (entries : List Nat) : List (Bool × Answer) :=
  [(1 ≤ count && count ≤ 32, { outcome := .badArgument, detail := 0xFF }),
   ((firstBadEntry s st 0 [] entries).isNone,
     { outcome := .badArgument, detail := (firstBadEntry s st 0 [] entries).getD 0 })]

/-- An accepted UNRESERVE: the listed blocks join the tail in the list's order (R23). -/
def acceptUnreserve (st : StationNo) (count : Nat) (entries : List Nat) (s : State) : Served :=
  let t := freeBlocks (listedBlocks s st entries) s
  { state := updStation t st fun r => { r with holdings := r.holdings - count }
    answer := { outcome := .ok, value := t.free.length } }

/-- UNRESERVE served (R23): the count is card offset 8 and the list follows. -/
def serveUnreserve (c : CardNo) (s : State) : Served :=
  let st := cardStation c
  let count := cardNum s c 8
  let entries := cardList s c 9 count
  checked s (unreserveChecks s st count entries) (acceptUnreserve st count entries s)

/-- UNRESERVE (R23). -/
def execUnreserve (s : State) : Out := serve .unreserve serveUnreserve s

/-! ### The write guard (R24) -/

/-- The block that contains a pool address. -/
def blockAt? (a : Nat) : Option BlockNo := index? 96 ((a - poolBase) / blockBytes)

/-- The guard accepts a host write there: the block is RESERVED (R24). -/
def guardOpen (s : State) (a : Nat) : Bool :=
  match blockAt? a with
  | some b => match s.blocks[b] with
    | .reserved _ => true
    | _ => false
  | none => false

/-- A host write of bytes into the pool, judged by the block of its first byte (R24). -/
def writePool (a : Nat) (bytes : List Byte) (s : State) : State :=
  if guardOpen s a then { s with mem := writeBytes s.mem a bytes } else s

end Sys2Proof.Machine
end

