-- ==== Sys2Proof/Machine/Print.lean ====
section
/-! DEFINITION. The Print Scheduler (spec/03, spec/04): job data (R35–R37), the page engine (R58–R63), ends of jobs (R51),
SUBMIT (R38–R42), CANCEL JOB (R46–R49), SET PRINTER (R44, R45), CLEAR PRINTER (R72), printer frames (R59–R61, R67, R68,
R77), timers (R69, R76), link loss and return (R57, R74–R76) and quiet hours (R78, R80). -/

namespace Sys2Proof.Machine

open Config

/-! ### Job data (R35–R37) -/

/-- The address of data offset k in a block list (R35); none beyond the list. -/
def dataAddress? (bs : List BlockNo) (k : Nat) : Option Nat :=
  bs[k / blockBytes]?.map fun b => blockAddress b + k % blockBytes

/-- The byte at a data offset (R35). -/
def dataByte (m : Memory) (bs : List BlockNo) (k : Nat) : Byte :=
  match dataAddress? bs k with
  | some a => readMem m a
  | none => 0

/-- The `n` data bytes from an offset on. -/
def dataBytes (m : Memory) (bs : List BlockNo) (k n : Nat) : List Byte :=
  (List.range n).map fun i => dataByte m bs (k + i)

/-- The page length L of the header at a data offset (R35, R188). -/
def pageLength (m : Memory) (bs : List BlockNo) (k : Nat) : Nat :=
  (halfOf (dataByte m bs k) (dataByte m bs (k + 1))).toNat

/-- The density sent for a header's density: values above 15 as 15 (R35, R37). -/
def clampDensity (d : Byte) : Byte := if d.toNat ≤ 15 then d else 15

/-- The page walk of SUBMIT (R39): `n` pages still to walk from page index i at an offset. It answers the FORMAT detail
when it fails. -/
def pageWalk (m : Memory) (bs : List BlockNo) (total pages : Nat) : Nat → Nat → Nat → Option Nat
  | 0, _, off => if off = total then none else some pages
  | n + 1, i, off =>
    if total < off + 4 then some pages
    else
      let len := pageLength m bs off
      if len = 0 ∨ 2 < (dataByte m bs (off + 2)).toNat then some i
      else if total < off + 4 + len then some pages
      else pageWalk m bs total pages n (i + 1) (off + 4 + len)

/-! ### The page engine (R58–R60) -/

/-- The page length of the current page of a job: the header at its restart point (R36). -/
def currentLength (s : State) (j : JobNo) : Nat :=
  pageLength s.mem s.jobs[j].blocks s.jobs[j].restart

/-- The next PAGE DATA frame is sent when the page in flight is in stage DATA, credits remain and bytes remain (R59). -/
def sendData (p : PortNo) (s : State) : State :=
  let r := s.printers[p]
  match r.current, r.page with
  | some j, some { page := n, stage := .data } =>
    let len := currentLength s j
    if 0 < r.credits ∧ r.sent < len then
      let k := min pageChunk (len - r.sent)
      let job := s.jobs[j]
      hand p (.pageData job.serial n r.sent (dataBytes s.mem job.blocks (job.restart + 4 + r.sent) k))
        (updPrinter s p fun r => { r with credits := r.credits - 1, sent := r.sent + k })
    else s
  | _, _ => s

/-- PAGE DATA frames one after another, at most `n` of them (R59). -/
def sendDataTimes (p : PortNo) : Nat → State → State
  | 0, s => s
  | n + 1, s => sendDataTimes p n (sendData p s)

/-- When the last PAGE DATA frame has been sent, PAGE CLOSE is sent, the page is CLOSED and the page timer starts (R60). -/
def closePage (p : PortNo) (s : State) : State :=
  let r := s.printers[p]
  match r.current, r.page with
  | some j, some { page := n, stage := .data } =>
    if r.sent < currentLength s j then s
    else
      hand p (.pageClose s.jobs[j].serial n)
        (updPrinter s p fun r =>
          { r with
            page := some { page := n, stage := .closed }
            pageTimer := some (startTimer s (s.printerSet[p].pageTimeout * second)) })
  | _, _ => s

/-- Page data is sent as credits allow, and the page closed after its last byte (R59, R60). -/
def feedPage (p : PortNo) (s : State) : State := closePage p (sendDataTimes p s.printers[p].credits s)

/-- The page of the current job at its restart point is opened, and its data sent as the fresh credits allow
(R37, R58, R59). -/
def openPage (p : PortNo) (s : State) : State :=
  match s.printers[p].current with
  | none => s
  | some j =>
    let job := s.jobs[j]
    let n := job.pagesDone + 1
    let t := updPrinter s p fun r =>
      { r with page := some { page := n, stage := .data }, sent := 0, credits := r.window, pageTimer := none }
    feedPage p (hand p
      (.pageOpen n (currentLength s j) (dataByte s.mem job.blocks (job.restart + 2))
        (clampDensity (dataByte s.mem job.blocks (job.restart + 3)))) t)

/-- The page is no longer in flight: the page timer stops and credits become 0 (R59, R61, R67, R74). No rule says what page
bytes sent reads then: 0 is the model's choice (DESIGN CHOICE, log 21). -/
def dropPage (r : Printer) : Printer := { r with page := none, sent := 0, credits := 0, pageTimer := none }

/-! ### Choosing a job (R63) -/

/-- The queue head, when its rank is below LONG (R63 step 1). -/
def urgentHead? (s : State) (r : Printer) : Option JobNo :=
  match r.queue.head? with
  | some j => if rank s.jobs[j].cls < rank .long then some j else none
  | none => none

/-- The first candidate: an urgent queue head, the suspended job, any queue head (R63). -/
def candidate? (s : State) (r : Printer) : Option JobNo :=
  (urgentHead? s r).or (r.suspended.or r.queue.head?)

/-- A chosen job leaves the queue or the suspended slot and becomes the current job (R63). -/
def makeCurrent (p : PortNo) (j : JobNo) (s : State) : State :=
  updJob
    (updPrinter s p fun r =>
      { r with
        current := some j
        queue := r.queue.filter (· ≠ j)
        suspended := if r.suspended = some j then none else r.suspended }) j
    fun job => { job with state := .printing }

/-- A printer without a current job chooses its next one, in the RUNNING or the QUIET form of R63. -/
def choose (p : PortNo) (s : State) : State :=
  match candidate? s s.printers[p], s.printMode with
  | some j, .running => openPage p (updPrinter (makeCurrent p j s) p fun r => { r with state := .sending })
  | some j, .quiet => updPrinter (makeCurrent p j s) p fun r => { r with state := .quiesced }
  | none, .running => updPrinter s p fun r => { r with state := .idle }
  | none, .quiet => updPrinter s p fun r => { r with state := .quiesced }

/-- A printer leaves HELD after the end of its current job and chooses (R48, R71). -/
def leaveHeld (p : PortNo) (s : State) : State := choose p (updPrinter s p fun r => { r with hold := none })

/-! ### Ends of jobs (R51, R52) -/

/-- The job leaves its place: the queue, the current-job position or the suspended slot (R51 step 1). A printer left
without a current job loses its suspend-pending flag (R65). -/
def leavePlace (j : JobNo) (r : Printer) : Printer :=
  { r with
    current := if r.current = some j then none else r.current
    suspended := if r.suspended = some j then none else r.suspended
    queue := r.queue.filter (· ≠ j)
    suspendPending := if r.current = some j then false else r.suspendPending }

/-- The owner's holdings fall by the job's block count (R27). -/
def dropHoldings (owner : Option StationNo) (n : Nat) (s : State) : State :=
  match owner with
  | none => s
  | some st => updStation s st fun r => { r with holdings := r.holdings - n }

/-- The end of a job within the event that causes it (R51): it leaves its place, its reason is set (the pending reason of
a cancel-pending job, or the one given), its blocks are freed and its owner's holdings fall, the owner is given JOB ENDED,
and the record is FREE. -/
def endJob (reason : EndReason) (s : State) (j : JobNo) : State :=
  let job := s.jobs[j]
  let why := if job.cancelPending then job.reason else reason
  let s1 := updPrinter s job.port (leavePlace j)
  let s2 := updJob s1 j fun r => { r with state := .ended, reason := why }
  let s3 := dropHoldings job.owner job.blocks.length (freeBlocks job.blocks s2)
  let s4 := giveStatusTo job.owner (.jobEnded j job.port job.serial job.pagesDone job.pageCount why) s3
  updJob s4 j fun r => { r with state := .free }

/-- Every job of a printer, in the order R52 ends them: current, suspended, queued from head to tail. -/
def printerJobs (r : Printer) : List JobNo := r.current.toList ++ r.suspended.toList ++ r.queue

/-- The ABSENT items of R55, and page bytes sent 0 (log 21). The receive window is taken anew when a printer comes up
(R57). -/
def makeAbsent (r : Printer) : Printer :=
  { r with
    state := .absent, current := none, suspended := none, queue := [], suspendPending := false, page := none, sent := 0,
    credits := 0, pageTimer := none, reconnect := none, hold := none, paperLow := false }

/-- The printer's jobs end DEVICE LOST and the record becomes ABSENT (R52, R76). -/
def loseDevice (p : PortNo) (s : State) : State :=
  updPrinter ((printerJobs s.printers[p]).foldl (endJob .deviceLost) s) p makeAbsent

/-! ### The boundary (R61, R62, R66) -/

/-- A suspension at a boundary, before the choice (R66). -/
def suspendJob (p : PortNo) (j : JobNo) (s : State) : State :=
  updJob (updPrinter s p fun r => { r with current := none, suspended := some j }) j
    fun r => { r with state := .suspended, suspensions := r.suspensions + 1 }

/-- The boundary decision (R62). Suspend-pending is cleared whichever test decides. -/
def boundary (p : PortNo) (j : JobNo) (s : State) : State :=
  let flag := s.printers[p].suspendPending
  let t := updPrinter s p fun r => { r with suspendPending := false }
  let job := t.jobs[j]
  if job.cancelPending then choose p (endJob job.reason t j)
  else if job.pagesDone = job.pageCount then choose p (endJob .completed t j)
  else if flag ∧ (urgentHead? t t.printers[p]).isSome then choose p (suspendJob p j t)
  else if t.printers[p].state = .sending then openPage p t
  else t

/-- The current job after a confirmed page: pages done rises, the restart point moves to the next page unless that was
the last, and the transient count is 0 (R61, R36). -/
def countPage (len : Nat) (job : Job) : Job :=
  { job with
    pagesDone := job.pagesDone + 1
    restart := if job.pagesDone + 1 = job.pageCount then job.restart else job.restart + 4 + len
    transients := 0 }

/-- The JOB PROGRESS record of a counted page, when the job has an owner and page notices (R61). -/
def reportProgress (j : JobNo) (s : State) : State :=
  let job := s.jobs[j]
  match job.owner with
  | some st =>
    if job.notices then giveProgress st (.jobProgress j job.port job.serial job.pagesDone job.pageCount) s else s
  | none => s

/-- A confirmed page is counted and the boundary decision taken (R61). -/
def confirmPage (p : PortNo) (j : JobNo) (s : State) : State :=
  let len := currentLength s j
  let t := updJob (updPrinter s p dropPage) j (countPage len)
  boundary p j (reportProgress j t)

/-- A page is taken from a printer in these two states only (R61, R64). -/
def working (r : Printer) : Bool := r.state = .sending || r.state = .quiesced

/-- PAGE DONE for page n (R61): it confirms the page in flight in stage CLOSED, and is ignored otherwise. -/
def pageDone (p : PortNo) (n : Nat) (s : State) : State :=
  let r := s.printers[p]
  match r.current, r.page with
  | some j, some pg =>
    if working r ∧ pg.stage = .closed ∧ pg.page = n then confirmPage p j s else s
  | _, _ => s

/-- CREDIT n (R59): credits rise to at most the receive window while a page is in flight, and sending resumes. -/
def credit (p : PortNo) (n : Nat) (s : State) : State :=
  let r := s.printers[p]
  if working r ∧ r.page.isSome then
    feedPage p (updPrinter s p fun r => { r with credits := min (r.credits + n) r.window })
  else s

/-! ### Faults (R67–R70) -/

/-- PRINTER FAULT to the owner and to station 0; once when they are one, station 0 alone without an owner (R70, R173). -/
def reportFault (r : Record) (owner : Option StationNo) (s : State) : State :=
  match owner with
  | some st => if st = 0 then giveStatus 0 r s else giveStatus 0 r (giveStatus st r s)
  | none => giveStatus 0 r s

/-- A hard fault of the page in flight (R67); the end of a cancel-pending job follows it (R49). -/
def hardFault (p : PortNo) (j : JobNo) (cause : Cause) (s : State) : State :=
  let job := s.jobs[j]
  let n := job.pagesDone + 1
  let t := updPrinter (withdraw p job.serial n s) p fun r =>
    { dropPage r with state := .held, hold := some cause }
  let t := reportFault (.printerFault p j job.serial n cause) job.owner t
  if job.cancelPending then leaveHeld p (endJob job.reason t j) else t

/-- A HEAD HOT fault in stage DATA or CLOSED (R68): the third on a page is a hard fault. -/
def transientFault (p : PortNo) (j : JobNo) (pg : PageInFlight) (s : State) : State :=
  let job := s.jobs[j]
  let t := updJob s j fun r => { r with transients := r.transients + 1 }
  if transientMax ≤ job.transients + 1 then hardFault p j .headHot t
  else
    updPrinter (withdraw p job.serial pg.page t) p fun r =>
      { r with page := some { pg with stage := .awaitingReady }, credits := 0, pageTimer := none }

/-- PAGE FAULT for page n with a cause (R64, R67, R68). -/
def pageFault (p : PortNo) (n : Nat) (cause : Cause) (s : State) : State :=
  let r := s.printers[p]
  match r.current, r.page with
  | some j, some pg =>
    if working r ∧ pg.page = n then
      if cause = .headHot then
        if pg.stage = .awaitingReady then s else transientFault p j pg s
      else hardFault p j cause s
    else s
  | _, _ => s

/-- READY (R68): a page AWAITING READY is opened again at its restart point. -/
def ready (p : PortNo) (s : State) : State :=
  let r := s.printers[p]
  match r.page with
  | some pg => if working r ∧ pg.stage = .awaitingReady then openPage p s else s
  | none => s

/-- The printer's link is up and it is served: IDLE, SENDING, HELD or QUIESCED (R64, R77). -/
def attached (r : Printer) : Bool := r.state ≠ .absent && r.state ≠ .detached

/-- PAPER (R77): a changed report is stored and station 0 is given PRINTER NOTE. -/
def paper (p : PortNo) (low : Bool) (s : State) : State :=
  let r := s.printers[p]
  if attached r ∧ r.paperLow ≠ low then
    giveStatus 0 (.printerNote p low) (updPrinter s p fun r => { r with paperLow := low })
  else s

/-- The page timer expires (R69): PAGE ABANDON is sent, and a hard fault with cause TIMEOUT follows. -/
def pageTimerExpiry (p : PortNo) (s : State) : State :=
  let r := s.printers[p]
  match r.current, r.page with
  | some j, some pg =>
    if timerDue s r.pageTimer then hardFault p j .timeout (hand p (.pageAbandon pg.page) s) else s
  | _, _ => s

/-- The reconnect timer expires (R76). -/
def reconnectTimerExpiry (p : PortNo) (s : State) : State :=
  if timerDue s s.printers[p].reconnect then loseDevice p s else s

/-! ### SUBMIT (R38–R42) -/

/-- The port of a port byte 0–7. -/
def port? (n : Nat) : Option PortNo := index? 8 n

/-- The class of a class byte (R182). -/
def class? (n : Nat) : Option JobClass :=
  match n with
  | 0 => some .priority
  | 1 => some .short
  | 2 => some .long
  | _ => none

/-- The port is 0–7 and its printer is IDLE, SENDING, HELD or QUIESCED (R38 check 1). -/
def printerReady (s : State) (p : Option PortNo) : Bool :=
  match p with
  | some p => attached s.printers[p]
  | none => false

/-- The arguments of a SUBMIT (R186). -/
structure SubmitArgs where
  port : Nat
  cls : Nat
  notices : Bool
  count : Nat
  length : Nat
  pages : Nat
  entries : List Nat
  deriving DecidableEq, Repr

/-- The arguments as they stand in the card. -/
def submitArgs (s : State) (c : CardNo) : SubmitArgs :=
  { port := cardNum s c 8
    cls := cardNum s c 9
    notices := (cardByte s c 10).getLsbD 0
    count := cardNum s c 11
    length := cardHalfNum s c 12
    pages := cardNum s c 14
    entries := cardList s c 15 (cardNum s c 11) }

/-- A job record is FREE. -/
def freeJob? (s : State) : Option JobNo := lowest? s.jobs fun j => j.state = .free

/-- The queue of the port's printer holds fewer than 12 jobs. -/
def queueRoom (s : State) (p : Option PortNo) : Bool :=
  match p with
  | some p => s.printers[p].queue.length < queueMax
  | none => false

/-- The checks of SUBMIT in their order (R38, R39). -/
def submitChecks (s : State) (st : StationNo) (a : SubmitArgs) : List (Bool × Answer) :=
  let p := port? a.port
  let bad := firstBadEntry s st 0 [] a.entries
  let walk := pageWalk s.mem (listedBlocks s st a.entries) a.length a.pages a.pages 0 0
  [(printerReady s p, { outcome := .noDevice }),
   ((p.map (permitted s st)).getD false, { outcome := .notPermitted }),
   ((class? a.cls).isSome, { outcome := .badArgument, detail := 0xFC }),
   (class? a.cls ≠ some .priority || st = 0, { outcome := .notPermitted, detail := 1 }),
   (1 ≤ a.count && a.count ≤ 32, { outcome := .badArgument, detail := 0xFF }),
   (bad.isNone, { outcome := .badArgument, detail := bad.getD 0 }),
   ((a.count - 1) * blockBytes < a.length && a.length ≤ a.count * blockBytes,
     { outcome := .badArgument, detail := 0xFE }),
   (1 ≤ a.pages && a.pages ≤ 64, { outcome := .badArgument, detail := 0xFD }),
   (walk.isNone, { outcome := .format, detail := walk.getD 0 }),
   ((freeJob? s).isSome, { outcome := .queueFull, detail := 0 }),
   (queueRoom s p, { outcome := .queueFull, detail := 1 })]

/-- A job placed after every job of its own or a lower rank and before the first of a higher rank (R42). -/
def joinQueue (jobs : Vector Job 32) (j : JobNo) : List JobNo → List JobNo
  | [] => [j]
  | k :: rest => if rank jobs[k].cls ≤ rank jobs[j].cls then k :: joinQueue jobs j rest else j :: k :: rest

/-- The condition of R65 at the join of a job: suspend-pending is to be set. -/
def suspendDue (s : State) (p : PortNo) (j : JobNo) : Bool :=
  let r := s.printers[p]
  match r.current with
  | some cur =>
    rank s.jobs[j].cls < rank .long && s.jobs[cur].cls = .long && s.jobs[cur].suspensions < suspensionMax &&
      s.printerSet[p].suspendAllowed && r.suspended.isNone
  | none => false

/-- The page engine's answer to a queue join (R41): an IDLE printer chooses; R65 is evaluated otherwise. -/
def afterJoin (p : PortNo) (j : JobNo) (s : State) : State :=
  if s.printers[p].state = .idle then choose p s
  else if suspendDue s p j then updPrinter s p fun r => { r with suspendPending := true }
  else s

/-- The record of an accepted job (R31, R40). The end reason is not set at acceptance (R31, log 9). -/
def newJob (old : Job) (st : StationNo) (p : PortNo) (cls : JobClass) (a : SubmitArgs) (bs : List BlockNo)
    (seq : Half) : Job :=
  { state := .waiting, owner := some st, port := p, cls := cls, notices := a.notices, blocks := bs, length := a.length,
    pageCount := a.pages, pagesDone := 0, restart := 0, suspensions := 0, transients := 0, accepted := seq, serial := seq,
    cancelPending := false, reason := old.reason }

/-- The job joins its printer's queue (R42). -/
def enqueue (p : PortNo) (j : JobNo) (s : State) : State :=
  updPrinter s p fun r => { r with queue := joinQueue s.jobs j r.queue }

/-- An accepted SUBMIT (R40). -/
def acceptSubmit (st : StationNo) (p : PortNo) (cls : JobClass) (a : SubmitArgs) (j : JobNo) (s : State) : Served :=
  let bs := listedBlocks s st a.entries
  let seq := s.acceptance + 1
  let t := updJob { s with acceptance := seq } j fun old => newJob old st p cls a bs seq
  { state := afterJoin p j (enqueue p j (commitBlocks j bs t))
    answer := { outcome := .ok, value := j.val }
    args := halfBytes seq }

/-- SUBMIT served (R38–R41). -/
def serveSubmit (c : CardNo) (s : State) : Served :=
  let st := cardStation c
  let a := submitArgs s c
  checked s (submitChecks s st a)
    (match port? a.port, class? a.cls, freeJob? s with
     | some p, some cls, some j => acceptSubmit st p cls a j s
     | _, _, _ => refuse s { outcome := .noDevice })

/-- SUBMIT (R38). -/
def execSubmit (s : State) : Out := serve .submit serveSubmit s

/-! ### CANCEL JOB (R46–R49) -/

/-- A PRINTING job is marked to end at its next boundary (R48, R12). -/
def markPending (reason : EndReason) (j : JobNo) (s : State) : State :=
  updJob s j fun r => { r with cancelPending := true, reason := reason }

/-- The job of a printer runs on to its boundary: SENDING, or QUIESCED with a page in flight (R48, R12). -/
def runsOn (r : Printer) : Bool := r.state = .sending || (r.state = .quiesced && r.page.isSome)

/-- A PRINTING job ended at once in HELD, QUIESCED without a page, or DETACHED, and what the printer does then (R48). -/
def endAtOnce (reason : EndReason) (p : PortNo) (j : JobNo) (s : State) : State :=
  let t := endJob reason s j
  match s.printers[p].state with
  | .held => leaveHeld p t
  | .quiesced => choose p t
  | .absent | .idle | .sending | .detached => t

/-- The checks of CANCEL JOB (R46). -/
def cancelChecks (s : State) (st : StationNo) (j : Option JobNo) (serial : Half) : List (Bool × Answer) :=
  match j with
  | none => [(false, { outcome := .badArgument })]
  | some j =>
    [(s.jobs[j].state ≠ .free && s.jobs[j].serial = serial, { outcome := .tooLate }),
     (s.jobs[j].owner = some st || st = 0, { outcome := .notPermitted })]

/-- An accepted CANCEL JOB by the job's state and its printer's (R47–R49). -/
def acceptCancel (j : JobNo) (s : State) : Served :=
  let job := s.jobs[j]
  if job.state = .printing then
    if runsOn s.printers[job.port] then
      { state := if job.cancelPending then s else markPending .cancelled j s
        answer := { outcome := .ok, value := 1 } }
    else { state := endAtOnce .cancelled job.port j s, answer := { outcome := .ok } }
  else { state := endJob .cancelled s j, answer := { outcome := .ok } }

/-- CANCEL JOB served (R46–R49): the job number is card offset 8, the serial 9–10. -/
def serveCancel (c : CardNo) (s : State) : Served :=
  let j := index? 32 (cardNum s c 8)
  checked s (cancelChecks s (cardStation c) j (cardHalf s c 9))
    (match j with
     | some j => acceptCancel j s
     | none => refuse s { outcome := .badArgument })

/-- CANCEL JOB (R46). -/
def execCancelJob (s : State) : Out := serve .cancelJob serveCancel s

/-! ### CLEAR PRINTER (R72) and SET PRINTER (R44, R45) -/

/-- The checks of CLEAR PRINTER (R72). -/
def clearChecks (s : State) (st : StationNo) (p : Option PortNo) : List (Bool × Answer) :=
  match p with
  | none => [(false, { outcome := .noDevice })]
  | some p =>
    let r := s.printers[p]
    [(r.state ≠ .absent, { outcome := .noDevice }),
     (r.state = .held, { outcome := .badState }),
     ((r.current.map fun j => s.jobs[j].owner = some st || st = 0).getD (st = 0), { outcome := .notPermitted })]

/-- The transient count of a printer's current job becomes 0 (R72, R75). -/
def clearTransients (p : PortNo) (s : State) : State :=
  match s.printers[p].current with
  | some j => updJob s j fun r => { r with transients := 0 }
  | none => s

/-- The current job's page is sent again: SENDING with the page opened in RUNNING, QUIESCED with it owed in QUIET
(R72, R75). -/
def resumePage (p : PortNo) (s : State) : State :=
  match s.printMode with
  | .running => openPage p (updPrinter s p fun r => { r with state := .sending })
  | .quiet => updPrinter s p fun r => { r with state := .quiesced }

/-- An accepted CLEAR PRINTER (R72). -/
def acceptClear (p : PortNo) (s : State) : State :=
  resumePage p (clearTransients p (updPrinter s p fun r => { r with hold := none }))

/-- CLEAR PRINTER served (R72): the port is card offset 8. -/
def serveClear (c : CardNo) (s : State) : Served :=
  let p := port? (cardNum s c 8)
  checked s (clearChecks s (cardStation c) p)
    (match p with
     | some p => { state := acceptClear p s, answer := { outcome := .ok } }
     | none => refuse s { outcome := .noDevice })

/-- CLEAR PRINTER (R72). -/
def execClearPrinter (s : State) : Out := serve .clearPrinter serveClear s

/-- An accepted SET PRINTER (R44): a page timeout below 5 is stored as 5; suspend allowed no clears the flag (R45). -/
def acceptSetPrinter (p : PortNo) (timeout window : Nat) (allowed : Bool) (s : State) : Served :=
  let t := { s with
    printerSet := put s.printerSet p
      { pageTimeout := max timeout 5, reconnectWindow := window, suspendAllowed := allowed } }
  { state := if allowed then t else updPrinter t p fun r => { r with suspendPending := false }
    answer := { outcome := .ok }
    marks := [p] }

/-- SET PRINTER served (R44): port, page timeout, reconnect window and suspend allowed at card offsets 8–11. -/
def serveSetPrinter (c : CardNo) (s : State) : Served :=
  match port? (cardNum s c 8) with
  | some p => acceptSetPrinter p (cardNum s c 9) (cardNum s c 10) (cardByte s c 11 ≠ 0) s
  | none => refuse s { outcome := .noDevice }

/-- SET PRINTER (R44). -/
def execSetPrinter (s : State) : Out := serve .setPrinter serveSetPrinter s

/-! ### Link notices (R57, R74–R76) -/

/-- The oldest notice handed to the Print Scheduler for a port is taken. -/
def popPrint (p : PortNo) (s : State) : State := { s with toPrint := put s.toPrint p s.toPrint[p].tail }

/-- A link loss at an attached printer (R74): the page is abandoned, the printer is DETACHED, the reconnect timer
starts, and a cancel-pending current job ends (R49). -/
def losePrinter (p : PortNo) (s : State) : State :=
  let t := updPrinter s p fun r =>
    { dropPage r with
      state := .detached
      hold := none
      reconnect := some (startTimer s (s.printerSet[p].reconnectWindow * second)) }
  match s.printers[p].current with
  | some j => if s.jobs[j].cancelPending then endJob s.jobs[j].reason t j else t
  | none => t

/-- PRINTER LINK LOSS taken (R74). -/
def printerLinkLoss (p : PortNo) (s : State) : State :=
  match s.toPrint[p].head? with
  | some .loss => if attached s.printers[p] then losePrinter p (popPrint p s) else popPrint p s
  | _ => s

/-- An ABSENT record comes up (R57). -/
def bringUp (mode : Mode) (d : DevProfile) (r : Printer) : Printer :=
  { makeAbsent r with
    window := d.further.toNat
    state := match mode with
      | .running => .idle
      | .quiet => .quiesced }

/-- A printer's arrival at an ABSENT record (R57). -/
def printerArrival (p : PortNo) (s : State) : State :=
  match s.toPrint[p].head? with
  | some (.arrival d) =>
    if s.printers[p].state = .absent then updPrinter (popPrint p s) p (bringUp s.printMode d) else s
  | _ => s

/-- The printer is back: the reconnect timer stops, the window is the new profile's, paper-low is no (R75). -/
def comeBack (d : DevProfile) (r : Printer) : Printer :=
  { r with reconnect := none, window := d.further.toNat, credits := 0, paperLow := false }

/-- A printer's return to a DETACHED record (R75). -/
def printerReturn (p : PortNo) (s : State) : State :=
  match s.toPrint[p].head? with
  | some (.arrival d) =>
    if s.printers[p].state = .detached then
      let t := clearTransients p (updPrinter (popPrint p s) p (comeBack d))
      if t.printers[p].current.isSome then resumePage p t else choose p t
    else s
  | _ => s

/-- A device of another kind on a DETACHED printer's port (R76). -/
def kindChange (p : PortNo) (s : State) : State :=
  match s.toPrint[p].head? with
  | some .kindChange => if s.printers[p].state = .detached then loseDevice p (popPrint p s) else popPrint p s
  | _ => s

/-- PRINTER_LINK_LOSS (R74). -/
def execPrinterLinkLoss (p : PortNo) (s : State) : Out := event (printerLinkLoss p) s

/-- PRINTER_ARRIVAL (R57). -/
def execPrinterArrival (p : PortNo) (s : State) : Out := event (printerArrival p) s

/-- PRINTER_RETURN (R75). -/
def execPrinterReturn (p : PortNo) (s : State) : Out := event (printerReturn p) s

/-- KIND_CHANGE (R76). -/
def execKindChange (p : PortNo) (s : State) : Out := event (kindChange p) s

/-- RECONNECT_TIMER_EXPIRY (R76). -/
def execReconnectTimerExpiry (p : PortNo) (s : State) : Out := event (reconnectTimerExpiry p) s

/-- PAGE_TIMER_EXPIRY (R69). -/
def execPageTimerExpiry (p : PortNo) (s : State) : Out := event (pageTimerExpiry p) s

/-! ### Quiet hours (R78, R80) -/

/-- A printer record's entry into QUIET (R78). -/
def enterQuiet (r : Printer) : Printer :=
  if r.state = .sending ∨ r.state = .idle then { r with state := .quiesced } else r

/-- The Print Scheduler takes the entry into QUIET (R78). -/
def printersEnterQuiet (s : State) : State :=
  match s.quietPrint with
  | .enter :: rest => { s with quietPrint := rest, printMode := .quiet, printers := s.printers.map enterQuiet }
  | _ => s

/-- A QUIESCED printer leaves QUIET (R80). -/
def wakePrinter (s : State) (p : PortNo) : State :=
  let r := s.printers[p]
  if r.state = .quiesced then
    if r.current.isSome then
      let t := updPrinter s p fun r => { r with state := .sending }
      if r.page.isSome then t else openPage p t
    else choose p s
  else s

/-- The Print Scheduler takes the wake (R80). -/
def printersLeaveQuiet (s : State) : State :=
  match s.quietPrint with
  | .leave :: rest => (List.finRange 8).foldl wakePrinter { s with quietPrint := rest, printMode := .running }
  | _ => s

/-- PRINTERS_ENTER_QUIET (R78). -/
def execPrintersEnterQuiet (s : State) : Out := event printersEnterQuiet s

/-- PRINTERS_LEAVE_QUIET (R80). -/
def execPrintersLeaveQuiet (s : State) : Out := event printersLeaveQuiet s

end Sys2Proof.Machine
end

