-- ==== Sys2Proof/Machine/Scan.lean ====
section
/-! DEFINITION. The Scan Router (spec/05): grants (R85), ends of claims (R92), CLAIM (R89, R90), RELEASE (R91), SET SCANNER
(R87), scans (R95–R98), idle timers (R93), link notices (R83, R99) and quiet hours (R100). -/

namespace Sys2Proof.Machine

open Config

/-! ### Grants and ends (R85, R92) -/

/-- A scanner record granted to a station (R85). -/
def grantTo (s : State) (w : Wait) (r : Scanner) : Scanner :=
  { r with
    grants := r.grants + 1
    state := .held
      { holder := w.station, hold := w.hold, idle := startTimer s (w.hold * second), count := w.count,
        serial := r.grants + 1 } }

/-- A grant made directly at CLAIM, without a record (R85, R90). -/
def grant (p : PortNo) (w : Wait) (s : State) : State := updScanner s p (grantTo s w)

/-- A grant from the head of the claim queue, with its CLAIM GRANTED record; FREE when the queue is empty (R92 step 4). -/
def passOn (p : PortNo) (s : State) : State :=
  match s.scanners[p].queue with
  | [] => updScanner s p fun r => { r with state := .free }
  | w :: rest =>
    let t := grant p w (updScanner s p fun r => { r with queue := rest })
    giveStatus w.station (.claimGranted p t.scanners[p].grants w.hold w.count) t

/-- The reasons for which the holder is given CLAIM ENDED (R92). -/
def tellsHolder : ClaimEnd → Bool
  | .released | .retired => false
  | .expired | .countSpent | .permitWithdrawn | .deviceLost | .quiet => true

/-- Steps 1 to 3 of the end of a claim (R92): the claim is removed, the last end item set, and the holder told where the
reason gives a record. -/
def dropClaim (p : PortNo) (c : Claim) (why : ClaimEnd) (s : State) : State :=
  let t := updScanner s p fun r => { r with state := .free, lastEnd := some (why, c.serial) }
  if tellsHolder why then giveStatus c.holder (.claimEnded p false c.serial why) t else t

/-- The end of a claim with the scanner passed on (R92). -/
def endClaim (p : PortNo) (c : Claim) (why : ClaimEnd) (s : State) : State := passOn p (dropClaim p c why s)

/-- The waiters removed from head to tail, each told that its wait ended (R99, R100). -/
def dropWaits (p : PortNo) (why : ClaimEnd) (s : State) : State :=
  s.scanners[p].queue.foldl (fun t w => giveStatus w.station (.claimEnded p true 0 why) t)
    (updScanner s p fun r => { r with queue := [] })

/-- The claim and the waits torn down without a pass-on (R99, R100). -/
def tearDown (p : PortNo) (why : ClaimEnd) (s : State) : State :=
  dropWaits p why
    (match claimOf s.scanners[p].state with
     | some c => dropClaim p c why s
     | none => s)

/-- The station holds the scanner. -/
def holds (r : Scanner) (st : StationNo) : Bool :=
  match claimOf r.state with
  | some c => c.holder = st
  | none => false

/-- The station waits in the claim queue. -/
def waits (r : Scanner) (st : StationNo) : Bool := r.queue.any fun w => w.station = st

/-- The station's entry leaves the claim queue, the others keeping their order (R84). -/
def leaveQueue (p : PortNo) (st : StationNo) (s : State) : State :=
  updScanner s p fun r => { r with queue := r.queue.filter fun w => w.station ≠ st }

/-- A station's permit for a port is withdrawn (R6, R101). -/
def withdrawPermit (st : StationNo) (s : State) (p : PortNo) : State :=
  match claimOf s.scanners[p].state with
  | some c =>
    if c.holder = st then endClaim p c .permitWithdrawn s
    else if waits s.scanners[p] st then giveStatus st (.claimEnded p true 0 .permitWithdrawn) (leaveQueue p st s)
    else s
  | none => s

/-- A retired station leaves a scanner, as holder or waiter, without a record (R13, R101). -/
def retireScanner (st : StationNo) (s : State) (p : PortNo) : State :=
  match claimOf s.scanners[p].state with
  | some c => if c.holder = st then endClaim p c .retired s else leaveQueue p st s
  | none => s

/-! ### CLAIM (R89, R90) -/

/-- The resolved hold time (R89). -/
def resolveHold (c : ScannerSettings) (asked : Nat) : Nat :=
  if asked = 0 then c.defaultHold else min (max asked 5) c.maximumHold

/-- The checks of CLAIM (R89). -/
def claimChecks (s : State) (st : StationNo) (p : Option PortNo) : List (Bool × Answer) :=
  (s.scanMode ≠ .quiet, { outcome := .quiet }) ::
  match p with
  | none => [(false, { outcome := .noDevice })]
  | some p =>
    let r := s.scanners[p]
    [(r.state ≠ .absent, { outcome := .noDevice }),
     (permitted s st p, { outcome := .notPermitted }),
     (!(holds r st || waits r st), { outcome := .badState })]

/-- A CLAIM that passes its checks (R90). -/
def acceptClaim (p : PortNo) (w : Wait) (wait : Bool) (s : State) : Served :=
  match s.scanners[p].state with
  | .free =>
    let t := grant p w s
    { state := t, answer := { outcome := .ok, value := t.scanners[p].grants.toNat } }
  | .held _ =>
    if wait then
      if s.scanners[p].queue.length < claimQueueMax then
        { state := updScanner s p fun r => { r with queue := r.queue ++ [w] }
          answer := { outcome := .waiting, value := s.scanners[p].queue.length + 1 } }
      else refuse s { outcome := .queueFull }
    else refuse s { outcome := .busy }
  | .absent => refuse s { outcome := .noDevice }

/-- CLAIM served (R89, R90): port, hold time, count and wait flag at card offsets 8, 9–10, 11 and 12. -/
def serveClaim (c : CardNo) (s : State) : Served :=
  let st := cardStation c
  let p := index? 8 (cardNum s c 8)
  checked s (claimChecks s st p)
    (match p with
     | some p =>
       acceptClaim p { station := st, hold := resolveHold s.scannerSet[p] (cardHalfNum s c 9), count := cardNum s c 11 }
         (cardByte s c 12 ≠ 0) s
     | none => refuse s { outcome := .noDevice })

/-- CLAIM (R89). -/
def execClaim (s : State) : Out := serve .claim serveClaim s

/-! ### RELEASE (R91) -/

/-- RELEASE by the station's place in the scanner record (R91). -/
def releaseAt (p : PortNo) (st : StationNo) (s : State) : Served :=
  match claimOf s.scanners[p].state with
  | some c =>
    if c.holder = st then
      { state := endClaim p c .released s, answer := { outcome := .ok, value := c.serial.toNat } }
    else if waits s.scanners[p] st then
      { state := leaveQueue p st s, answer := { outcome := .ok, detail := 1 } }
    else refuse s { outcome := .notHolder }
  | none => refuse s { outcome := .notHolder }

/-- RELEASE served (R91): the port is card offset 8. -/
def serveRelease (c : CardNo) (s : State) : Served :=
  match index? 8 (cardNum s c 8) with
  | some p => releaseAt p (cardStation c) s
  | none => refuse s { outcome := .badArgument }

/-- RELEASE (R91). -/
def execRelease (s : State) : Out := serve .release serveRelease s

/-! ### SET SCANNER (R87) -/

/-- A hold time brought into 5–600 (R87). -/
def clampHold (n : Nat) : Nat := min (max n 5) 600

/-- The settings an accepted SET SCANNER stores (R87). -/
def clampSettings (default maximum : Nat) (station : Option StationNo) (window : Nat) : ScannerSettings :=
  { maximumHold := clampHold maximum
    defaultHold := min (clampHold default) (clampHold maximum)
    defaultStation := station
    repeatWindow := min window 10 }

/-- SET SCANNER served (R87): port, default hold, maximum hold, default station and repeat window at card offsets 8,
9–10, 11–12, 13 and 14. -/
def serveSetScanner (c : CardNo) (s : State) : Served :=
  match index? 8 (cardNum s c 8) with
  | none => refuse s { outcome := .noDevice }
  | some p =>
    let d := cardNum s c 13
    if d ≤ 15 ∨ d = 0xFF then
      { state := { s with
          scannerSet := put s.scannerSet p
            (clampSettings (cardHalfNum s c 9) (cardHalfNum s c 11) (index? 16 d) (cardNum s c 14)) }
        answer := { outcome := .ok }
        marks := [p] }
    else refuse s { outcome := .badArgument }

/-- SET SCANNER (R87). -/
def execSetScanner (s : State) : Out := serve .setScanner serveSetScanner s

/-! ### Scans (R95–R98) -/

/-- A scan repeats the last code within the repeat window (R95). -/
def isRepeat (s : State) (p : PortNo) (symbology : Byte) (code : List Byte) : Bool :=
  match s.scanners[p].lastCode with
  | some l =>
    l.symbology = symbology && l.code = code &&
      elapsed l.arrival s.time < s.scannerSet[p].repeatWindow * second
  | none => false

/-- The scanner's verdict (R95, R96). -/
def verdict (p : PortNo) (accept : Bool) (s : State) : State := hand p (.verdict accept) s

/-- The last code becomes this code, arriving now (R95). -/
def keepCode (p : PortNo) (symbology : Byte) (code : List Byte) (s : State) : State :=
  updScanner s p fun r =>
    { r with lastCode := some { symbology := symbology, code := code, arrival := s.time } }

/-- The holder's claim after a delivered scan (R96, R97): the idle timer restarts; a count above 0 falls by 1, and at 0
the claim ends COUNT SPENT. -/
def countScan (p : PortNo) (c : Claim) (s : State) : State :=
  let c' := { c with idle := startTimer s (c.hold * second), count := c.count - 1 }
  if c.count = 1 then endClaim p c' .countSpent s
  else updScanner s p fun r => { r with state := .held c' }

/-- A scan offered to the holder (R96). -/
def scanHeld (p : PortNo) (c : Claim) (symbology : Byte) (code : List Byte) (s : State) : State :=
  match offer? c.holder (.scan p symbology code c.serial false) s with
  | some t => countScan p c (keepCode p symbology code (verdict p true t))
  | none => setGap (verdict p false s) c.holder

/-- The default station that can take an unclaimed scan: set, IN SERVICE and permitted (R98). -/
def unclaimedStation? (s : State) (p : PortNo) : Option StationNo :=
  match s.scannerSet[p].defaultStation with
  | some st => if inService s st && permitted s st p then some st else none
  | none => none

/-- A scan on a FREE scanner in RUNNING (R98). -/
def scanFree (p : PortNo) (symbology : Byte) (code : List Byte) (s : State) : State :=
  match unclaimedStation? s p with
  | some st =>
    match offer? st (.scan p symbology code 0 true) s with
    | some t => keepCode p symbology code (verdict p true t)
    | none => setGap (verdict p false s) st
  | none => verdict p false s

/-- A SCAN of a code of 1–64 bytes on a record that is not ABSENT (R95). -/
def takeScan (p : PortNo) (symbology : Byte) (code : List Byte) (s : State) : State :=
  if isRepeat s p symbology code then verdict p true s
  else match s.scanners[p].state, s.scanMode with
    | .held c, _ => scanHeld p c symbology code s
    | .free, .running => scanFree p symbology code s
    | .free, .quiet => verdict p false s
    | .absent, _ => s

/-- A SCAN frame's payload taken at the scanner record (R95): ignored while ABSENT and for a code of 0 or above 64
bytes. -/
def scan (p : PortNo) (payload : List Byte) (s : State) : State :=
  match payload with
  | [] => s
  | symbology :: code =>
    if s.scanners[p].state = .absent ∨ code = [] ∨ 64 < code.length then s else takeScan p symbology code s

/-! ### Idle timers (R93) -/

/-- The idle timer expires (R93): the claim ends EXPIRED and the scanner is passed on. -/
def idleTimerExpiry (p : PortNo) (s : State) : State :=
  match claimOf s.scanners[p].state with
  | some c => if timerDue s (some c.idle) then endClaim p c .expired s else s
  | none => s

/-- IDLE_TIMER_EXPIRY (R93). -/
def execIdleTimerExpiry (p : PortNo) (s : State) : Out := event (idleTimerExpiry p) s

/-! ### Link notices (R83, R99) -/

/-- The oldest notice handed to the Scan Router for a port is taken. -/
def popScan (p : PortNo) (s : State) : State := { s with toScan := put s.toScan p s.toScan[p].tail }

/-- The loss of a scanner's link (R99). -/
def loseScanner (p : PortNo) (s : State) : State :=
  updScanner (tearDown p .deviceLost s) p fun r => { r with state := .absent, lastCode := none }

/-- SCANNER LINK LOSS taken (R99). -/
def scannerLinkLoss (p : PortNo) (s : State) : State :=
  match s.toScan[p].head? with
  | some .loss => if s.scanners[p].state = .absent then popScan p s else loseScanner p (popScan p s)
  | _ => s

/-- A scanner's arrival (R83): an ABSENT record becomes FREE. -/
def scannerArrival (p : PortNo) (s : State) : State :=
  match s.toScan[p].head? with
  | some (.arrival _) =>
    if s.scanners[p].state = .absent then updScanner (popScan p s) p fun r => { r with state := .free, lastCode := none }
    else popScan p s
  | _ => s

/-- SCANNER_LINK_LOSS (R99). -/
def execScannerLinkLoss (p : PortNo) (s : State) : Out := event (scannerLinkLoss p) s

/-- SCANNER_ARRIVAL (R83). -/
def execScannerArrival (p : PortNo) (s : State) : Out := event (scannerArrival p) s

/-! ### Quiet hours (R100) -/

/-- A scanner record's entry into QUIET (R100). -/
def quietScanner (s : State) (p : PortNo) : State := tearDown p .quiet s

/-- The Scan Router takes the entry into QUIET: scanners in ascending port order (R100). -/
def scannersEnterQuiet (s : State) : State :=
  match s.quietScan with
  | .enter :: rest => (List.finRange 8).foldl quietScanner { s with quietScan := rest, scanMode := .quiet }
  | _ => s

/-- The Scan Router takes the wake: nothing is restored (R100). -/
def scannersLeaveQuiet (s : State) : State :=
  match s.quietScan with
  | .leave :: rest => { s with quietScan := rest, scanMode := .running }
  | _ => s

/-- SCANNERS_ENTER_QUIET (R100). -/
def execScannersEnterQuiet (s : State) : Out := event scannersEnterQuiet s

/-- SCANNERS_LEAVE_QUIET (R100). -/
def execScannersLeaveQuiet (s : State) : Out := event scannersLeaveQuiet s

end Sys2Proof.Machine
end

