-- ==== Sys2Proof/Machine/Touch.lean ====
section
/-! DEFINITION. The Touch Router (spec/06, spec/07): the mapping and the move filter (R126–R130), SET ZONE and CLEAR ZONE
(R105–R107), TOUCH frames (R112–R119), the flush of pending ends and moves (R121, R172), link notices (R122, R146)
and quiet hours (R123). -/

namespace Sys2Proof.Machine

open Config

/-! ### Mapping (R126–R130) -/

/-- A raw coordinate clamped to a span lo..hi − 1, relative to lo (R126). -/
def clampTo (v lo hi : Nat) : Nat := min (max v lo) (hi - 1) - lo

/-- The oriented values a over A and b over B (R127). -/
def orient (o : Orientation) (dx dy sx sy : Nat) : (Nat × Nat) × (Nat × Nat) :=
  match o with
  | .r0 => ((dx, sx), (dy, sy))
  | .r90 => ((dy, sy), (sx - 1 - dx, sx))
  | .r180 => ((sx - 1 - dx, sx), (sy - 1 - dy, sy))
  | .r270 => ((sy - 1 - dy, sy), (dx, sx))

/-- A raw position mapped to the station's screen: clamp, orient, scale (R126, R127, R128). -/
def mapRaw (m : Mapping) (x y : Nat) : Pos :=
  let (a, b) := orient m.orientation (clampTo x m.x0 m.x1) (clampTo y m.y0 m.y1) (m.x1 - m.x0) (m.y1 - m.y0)
  { x := a.1 * m.width / a.2, y := b.1 * m.height / b.2 }

/-- The distance of two numbers. -/
def distance (a b : Nat) : Nat := (a - b) + (b - a)

/-- A move passes the filter against the last delivered position (R130). -/
def movePasses (m : Mapping) (last new : Pos) : Bool :=
  max m.threshold 1 ≤ max (distance new.x last.x) (distance new.y last.y)

/-! ### The zone table (R103–R107) -/

/-- A raw position lies in a rectangle (R103). -/
def inRect (m : Mapping) (x y : Nat) : Bool := m.x0 ≤ x && x < m.x1 && m.y0 ≤ y && y < m.y1

/-- Two rectangles overlap (R104). -/
def overlaps (a b : Mapping) : Bool := a.x0 < b.x1 && b.x0 < a.x1 && a.y0 < b.y1 && b.y0 < a.y1

/-- The other ACTIVE zones of a port: index and mapping, in ascending index (R105 checks 7 and 8). -/
def otherZones (s : State) (z : ZoneNo) (p : PortNo) : List (ZoneNo × Mapping) :=
  (List.finRange 16).filterMap fun i =>
    match s.zones[i] with
    | some zn => if i ≠ z ∧ zn.port = p then some (i, zn.map) else none
    | none => none

/-- The angle of an orientation code (R105). -/
def orientation? (n : Nat) : Option Orientation :=
  match n with
  | 0 => some .r0
  | 1 => some .r90
  | 2 => some .r180
  | 3 => some .r270
  | _ => none

/-- The arguments of a SET ZONE (R186). -/
structure ZoneArgs where
  zone : Nat
  port : Nat
  map : Mapping
  station : Nat
  code : Nat
  wake : Bool
  deriving DecidableEq, Repr

/-- The arguments as they stand in the card. -/
def zoneArgs (s : State) (c : CardNo) : ZoneArgs :=
  { zone := cardNum s c 8
    port := cardNum s c 9
    map :=
      { x0 := cardHalfNum s c 10, y0 := cardHalfNum s c 12, x1 := cardHalfNum s c 14, y1 := cardHalfNum s c 16
        orientation := (orientation? (cardNum s c 19)).getD .r0
        width := cardHalfNum s c 20, height := cardHalfNum s c 22, threshold := cardNum s c 24 }
    station := cardNum s c 18
    code := cardNum s c 19
    wake := cardByte s c 25 ≠ 0 }

/-- A size of a target screen (R105 check 6). -/
def sizeOk (n : Nat) : Bool := 1 ≤ n && n ≤ 4096

/-- The other ACTIVE zones of the named port, when index and port are in range. -/
def rivals (s : State) (a : ZoneArgs) : List (ZoneNo × Mapping) :=
  match index? 16 a.zone, index? 8 a.port with
  | some z, some p => otherZones s z p
  | _, _ => []

/-- The lowest other zone of the port that the rectangle overlaps (R105 check 8). -/
def overlapped? (s : State) (a : ZoneArgs) : Option (ZoneNo × Mapping) := (rivals s a).find? fun r => overlaps a.map r.2

/-- The checks of SET ZONE in their order (R105). -/
def zoneChecks (s : State) (a : ZoneArgs) : List (Bool × Answer) :=
  [(a.zone ≤ 15, { outcome := .badArgument, detail := 0 }),
   (a.port ≤ 7, { outcome := .badArgument, detail := 1 }),
   (a.map.x0 < a.map.x1 && a.map.x1 ≤ 4096 && a.map.y0 < a.map.y1 && a.map.y1 ≤ 4096,
     { outcome := .badArgument, detail := 2 }),
   (a.station ≤ 15, { outcome := .badArgument, detail := 3 }),
   ((orientation? a.code).isSome, { outcome := .badArgument, detail := 4 }),
   (sizeOk a.map.width && sizeOk a.map.height, { outcome := .badArgument, detail := 5 }),
   ((rivals s a).length < zonesPerPort, { outcome := .queueFull }),
   ((overlapped? s a).isNone,
     { outcome := .overlap, detail := ((overlapped? s a).map fun r => r.1.val).getD 0 })]

/-- The ports whose mirror entries an accepted SET ZONE rewrites: the new one, and the old one when the zone has moved
(R106). -/
def zonePorts (p : PortNo) : Option Zone → List PortNo
  | some old => [p, old.port]
  | none => [p]

/-- An accepted SET ZONE (R106). -/
def acceptSetZone (z : ZoneNo) (p : PortNo) (st : StationNo) (a : ZoneArgs) (s : State) : Served :=
  { state := { s with zones := put s.zones z (some { port := p, map := a.map, station := st, wake := a.wake }) }
    answer := { outcome := .ok, value := if s.zones[z].isSome then 1 else 0 }
    marks := zonePorts p s.zones[z] }

/-- SET ZONE served (R105, R106). -/
def serveSetZone (c : CardNo) (s : State) : Served :=
  let a := zoneArgs s c
  checked s (zoneChecks s a)
    (match index? 16 a.zone, index? 8 a.port, index? 16 a.station with
     | some z, some p, some st => acceptSetZone z p st a s
     | _, _, _ => refuse s { outcome := .badArgument })

/-- SET ZONE (R105). -/
def execSetZone (s : State) : Out := serve .setZone serveSetZone s

/-- CLEAR ZONE served (R107): the zone is card offset 8. -/
def serveClearZone (c : CardNo) (s : State) : Served :=
  match index? 16 (cardNum s c 8) with
  | none => refuse s { outcome := .badArgument }
  | some z =>
    match s.zones[z] with
    | some old =>
      { state := { s with zones := put s.zones z none }, answer := { outcome := .ok, value := 1 }, marks := [old.port] }
    | none => refuse s { outcome := .ok }

/-- CLEAR ZONE (R107). -/
def execClearZone (s : State) : Out := serve .clearZone serveClearZone s

/-! ### Contacts (R109, R110, R113) -/

/-- The record's key is held: every condition but closing (R110). -/
def keyHeld (c : Contact) : Bool := !isClosing c.cond

/-- The record that holds a key (R109). -/
def byKey? (s : State) (p : PortNo) (id : ContactId) : Option ContactNo :=
  lowest? s.contacts fun c => match c with
    | some r => keyHeld r && r.port = p && r.id = id
    | none => false

/-- The station a record holds, in whatever condition (R110). -/
def contactStation (c : Contact) : Option StationNo :=
  match c.cond with
  | .live b _ => some b.station
  | .closing b _ => some b.station
  | .suppressed _ st => some st
  | .ignored place => place.map Prod.snd

/-- The end record of a contact: TOUCH UP with its position, or TOUCH CANCEL with last delivered (R113). -/
def endRecord (n : ContactNo) (c : Contact) (b : Bound) : ContactEnd → Record
  | .up spot => .touch .up c.port c.id n b.zone spot.pos
  | .cancel => .touch .cancel c.port c.id n b.zone b.last.pos

/-- The stamp of a held end: the TOUCH entry that produced its position (R167, log 10). -/
def endStamp (b : Bound) : ContactEnd → Half
  | .up spot => spot.stamp
  | .cancel => b.last.stamp

/-- The end of a live contact (R113): the end record is written and the record freed, or the end is held and the record
closing. -/
def endContact (n : ContactNo) (c : Contact) (b : Bound) (e : ContactEnd) (s : State) : State :=
  match offer? b.station (endRecord n c b e) s with
  | some t => setContact t n none
  | none => setContact s n (some { c with cond := .closing b e })

/-- A record that holds its key is settled: a live one ends with CANCEL, a suppressed or ignored one is freed
(R114, R122, R123). -/
def settle (n : ContactNo) (s : State) : State :=
  match s.contacts[n] with
  | some c =>
    match c.cond with
    | .live b _ => endContact n c b .cancel s
    | .closing _ _ => s
    | .suppressed _ _ => setContact s n none
    | .ignored _ => setContact s n none
  | none => s

/-! ### TOUCH entries (R112, R114–R119) -/

/-- The ACTIVE zone of the panel port that contains a raw position (R104, R114). -/
def zoneAt? (s : State) (p : PortNo) (x y : Nat) : Option (ZoneNo × Zone) :=
  (List.finRange 16).findSome? fun z =>
    match s.zones[z] with
    | some zn => if zn.port = p ∧ inRect zn.map x y then some (z, zn) else none
    | none => none

/-- A new record at the lowest free index; dropped when there is none (R109, R117). The flag says whether a record was
made. -/
def makeContact (p : PortNo) (id : ContactId) (cond : Contact.Condition) (s : State) : State × Bool :=
  match lowest? s.contacts Option.isNone with
  | some n => (setContact s n (some { port := p, id := id, cond := cond }), true)
  | none => (s, false)

/-- A touch-down bound to its zone's station (R115): live when TOUCH DOWN is written, suppressed with a gap owed when
not, dropped when the table is full (R117). -/
def bindContact (p : PortNo) (id : ContactId) (z : ZoneNo) (zn : Zone) (x y : Nat) (s : State) : State × Bool :=
  match lowest? s.contacts Option.isNone with
  | none => (s, false)
  | some n =>
    let pos := mapRaw zn.map x y
    match offer? zn.station (.touch .down p id n z pos) s with
    | some t =>
      let b : Bound := { zone := z, station := zn.station, map := zn.map, last := { pos := pos, stamp := stampNow s } }
      (setContact t n (some { port := p, id := id, cond := .live b none }), true)
    | none =>
      (setGap (setContact s n (some { port := p, id := id, cond := .suppressed z zn.station })) zn.station, true)

/-- A touch-down in RUNNING (R115). -/
def downRunning (p : PortNo) (id : ContactId) (x y : Nat) (s : State) : State × Bool :=
  match zoneAt? s p x y with
  | none => makeContact p id (.ignored none) s
  | some (z, zn) =>
    if inService s zn.station && permitted s zn.station p then bindContact p id z zn x y s
    else makeContact p id (.ignored (some (z, zn.station))) s

/-- A touch-down in QUIET (R116): an ignored record, and a wake-touch report for a wake zone, even with a full table. -/
def downQuiet (p : PortNo) (id : ContactId) (x y : Nat) (s : State) : State × Bool :=
  match zoneAt? s p x y with
  | none => makeContact p id (.ignored none) s
  | some (z, zn) =>
    let t := if zn.wake then { s with wakeReports := s.wakeReports ++ [z] } else s
    makeContact p id (.ignored (some (z, zn.station))) t

/-- A DOWN entry (R114): its key is settled, then the touch-down taken as the part state last told says. The flag says
whether a record was made, freed or changed its condition (R111). -/
def downEntry (p : PortNo) (id : ContactId) (x y : Nat) (s : State) : State × Bool :=
  let held := byKey? s p id
  let t := match held with
    | some n => settle n s
    | none => s
  let (u, made) := match s.touchMode with
    | .running => downRunning p id x y t
    | .quiet => downQuiet p id x y t
  (u, made || held.isSome)

/-- A MOVE on a live record (R118). -/
def moveLive (n : ContactNo) (c : Contact) (b : Bound) (x y : Nat) (s : State) : State :=
  let pos := mapRaw b.map x y
  let spot : Spot := { pos := pos, stamp := stampNow s }
  if movePasses b.map b.last.pos pos then
    match offer? b.station (.touch .move c.port c.id n b.zone pos) s with
    | some t => setContact t n (some { c with cond := .live { b with last := spot } none })
    | none => setContact s n (some { c with cond := .live b (some spot) })
  else setContact s n (some { c with cond := .live b none })

/-- A MOVE entry (R118): it acts on a live record, and changes no record's condition. -/
def moveEntry (p : PortNo) (id : ContactId) (x y : Nat) (s : State) : State × Bool :=
  match byKey? s p id with
  | some n =>
    match s.contacts[n] with
    | some c =>
      match c.cond with
      | .live b _ => (moveLive n c b x y s, false)
      | .closing _ _ | .suppressed _ _ | .ignored _ => (s, false)
    | none => (s, false)
  | none => (s, false)

/-- An UP entry at a raw position, or a LOST entry (R119). -/
def endEntry (p : PortNo) (id : ContactId) (at? : Option (Nat × Nat)) (s : State) : State × Bool :=
  match byKey? s p id with
  | some n =>
    match s.contacts[n], at? with
    | some { port := q, id := i, cond := .live b _ }, some (x, y) =>
      (endContact n { port := q, id := i, cond := .live b none } b
        (.up { pos := mapRaw b.map x y, stamp := stampNow s }) s, true)
    | _, _ => (settle n s, true)
  | none => (s, false)

/-- One entry of a TOUCH frame (R112): ignored for a bad id, phase or raw position. -/
def touchEntry (p : PortNo) (limit : Nat) (e : TouchEntry) (s : State) : State × Bool :=
  match index? 16 e.id with
  | some id =>
    if limit ≤ e.id ∨ 4095 < e.x ∨ 4095 < e.y then (s, false)
    else match e.phase with
      | 0 => downEntry p id e.x e.y s
      | 1 => moveEntry p id e.x e.y s
      | 2 => endEntry p id (some (e.x, e.y)) s
      | 3 => endEntry p id none s
      | _ => (s, false)
  | none => (s, false)

/-- The entries of a frame in order, each on the tables as the previous left them (R112). -/
def touchAll (p : PortNo) (limit : Nat) : List TouchEntry → State × Bool → State × Bool
  | [], acc => acc
  | e :: rest, (s, touched) =>
    let (t, made) := touchEntry p limit e s
    touchAll p limit rest (t, touched || made)

/-- A TOUCH frame's payload taken by the Touch Router (R112): ignored whole for an entry count of 0 or above 10, and before
the panel's arrival (R146). A frame of a panel that is UP again, taken while the notices of the old link's loss and of the new
arrival still wait, acts on the records and by the contact limit as they stand (DESIGN CHOICE, log 18). A frame that made,
freed or changed a record rewrites the port's mirror entry (R111). -/
def touch (p : PortNo) (payload : List Byte) (s : State) : Marked :=
  match payload, s.panels[p] with
  | count :: rest, some limit =>
    if count.toNat = 0 ∨ 10 < count.toNat then { state := s, marks := [] }
    else
      let (t, touched) := touchAll p limit (touchEntries rest) (s, false)
      { state := t, marks := if touched then [p] else [] }
  | _, _ => { state := s, marks := [] }

/-! ### The flush (R121, R172) -/

/-- A closing record's pending end offered at a flush: written and the record freed, or not written (R121). Other records
are passed over. -/
def flushEnd (st : StationNo) (n : ContactNo) (s : State) : Option State :=
  match s.contacts[n] with
  | some c =>
    match c.cond with
    | .closing b e =>
      let r := endRecord n c b e
      if b.station = st then
        if fits s.delivery[st] (recordLength r) then some (setContact (writeRecord st r (endStamp b e) s) n none)
        else none
      else some s
    | .live _ _ | .suppressed _ _ | .ignored _ => some s
  | none => some s

/-- A live record's pending move offered at a flush: written and made last delivered, or not written (R121). -/
def flushMove (st : StationNo) (n : ContactNo) (s : State) : Option State :=
  match s.contacts[n] with
  | some c =>
    match c.cond with
    | .live b (some spot) =>
      let r : Record := .touch .move c.port c.id n b.zone spot.pos
      if b.station = st then
        if fits s.delivery[st] (recordLength r) then
          some (setContact (writeRecord st r spot.stamp s) n (some { c with cond := .live { b with last := spot } none }))
        else none
      else some s
    | .live _ none | .closing _ _ | .suppressed _ _ | .ignored _ => some s
  | none => some s

/-- Items offered one after another until the first that does not fit; true when none was left (R172). -/
def flushAll (item : ContactNo → State → Option State) : List ContactNo → State → State × Bool
  | [], s => (s, true)
  | n :: rest, s =>
    match item n s with
    | some t => flushAll item rest t
    | none => (s, false)

/-- The flush of a station: its owed records, then its pending ends, then its pending moves (R172). -/
def flush (st : StationNo) (s : State) : State :=
  let (a, more) := flushOwed st s.delivery[st].owed s
  if more then
    let (b, more) := flushAll (flushEnd st) (List.finRange 32) a
    if more then (flushAll (flushMove st) (List.finRange 32) b).1 else b
  else a

/-- The new taken mark for a value written (R171). -/
def takenMark (d : Delivery) (v : Nat) : Nat :=
  if ringBytes ≤ v then d.w
  else if (v / 8 * 8 + ringBytes - d.t) % ringBytes ≤ usedBytes d then v / 8 * 8
  else d.w

/-- A taken-mark write (R171): discarded for a station OUT OF SERVICE; otherwise T is set and the flush runs. -/
def takenMarkWrite (st : StationNo) (v : Nat) (s : State) : State :=
  if ringOpen s st then flush st (updDelivery s st fun d => { d with t := takenMark d v }) else s

/-! ### Teardown and quiet hours (R13, R122, R123, R146) -/

/-- The records whose key names one of the ports are settled, in ascending contact number (R122, R123). -/
def settleAll (test : Contact → Bool) (s : State) : State :=
  (List.finRange 32).foldl (fun t n =>
    match t.contacts[n] with
    | some c => if keyHeld c && test c then settle n t else t
    | none => t) s

/-- Every record bound to a station is freed without a record (R13). -/
def freeContacts (st : StationNo) (s : State) : State :=
  { s with contacts := s.contacts.map fun c =>
      match c with
      | some r => if contactStation r = some st then none else some r
      | none => none }

/-- The oldest notice handed to the Touch Router for a port is taken. -/
def popTouch (p : PortNo) (s : State) : State := { s with toTouch := put s.toTouch p s.toTouch[p].tail }

/-- PANEL LINK LOSS taken (R122). -/
def panelLinkLoss (p : PortNo) (s : State) : Marked :=
  match s.toTouch[p].head? with
  | some .loss =>
    { state := settleAll (fun c => c.port = p) { popTouch p s with panels := put s.panels p none }, marks := [p] }
  | _ => { state := s, marks := [] }

/-- A panel's arrival (R146): its TOUCH frames are taken from now on, with the contact limit of its profile. -/
def panelArrival (p : PortNo) (s : State) : State :=
  match s.toTouch[p].head? with
  | some (.arrival d) => { popTouch p s with panels := put s.panels p (some d.further.toNat) }
  | _ => s

/-- PANEL_LINK_LOSS (R122). -/
def execPanelLinkLoss (p : PortNo) (s : State) : Out := eventMarked (panelLinkLoss p) s

/-- PANEL_ARRIVAL (R146). -/
def execPanelArrival (p : PortNo) (s : State) : Out := event (panelArrival p) s

/-- The Touch Router takes the entry into QUIET (R123). -/
def touchEnterQuiet (s : State) : State :=
  match s.quietTouch with
  | .enter :: rest => settleAll (fun _ => true) { s with quietTouch := rest, touchMode := .quiet }
  | _ => s

/-- The Touch Router takes the wake (R123). -/
def touchLeaveQuiet (s : State) : State :=
  match s.quietTouch with
  | .leave :: rest => { s with quietTouch := rest, touchMode := .running }
  | _ => s

/-- TOUCH_ENTER_QUIET (R123). -/
def execTouchEnterQuiet (s : State) : Out := event touchEnterQuiet s

/-- TOUCH_LEAVE_QUIET (R123). -/
def execTouchLeaveQuiet (s : State) : Out := event touchLeaveQuiet s

end Sys2Proof.Machine
end

