-- ==== Sys2Proof/Machine/Ports.lean ====
section
/-! DEFINITION. The Port Controllers (spec/08): symbol groups and frames (R132–R135), introduction (R140–R143), loss
(R144–R146), frames by kind (R147), SET PORT and ACK PORT (R148, R149). -/

namespace Sys2Proof.Machine

open Config

/-! ### PORT CHANGE and notices to owners (R139, R146) -/

/-- The kind, resolved pace and model word a PORT CHANGE carries for a port that has become UP (R139). -/
def upDevice (r : Port) : Option (DeviceKind × Nat × Half) :=
  match r.link, r.profile with
  | .up, some d => some (d.kind, r.resolved.getD 0, d.model)
  | _, _ => none

/-- PORT CHANGE given to station 0, with the port as it stands after the event (R139, R173). -/
def portChange (p : PortNo) (previous : LinkState) (cause : LinkCause) (s : State) : State :=
  let r := s.ports[p]
  giveStatus 0 (.portChange p previous r.link cause r.lost (upDevice r)) s

/-- A notice handed to the owner of a kind (R146). -/
def notify (kind : DeviceKind) (p : PortNo) (n : PortNotice) (s : State) : State :=
  match kind with
  | .printer => { s with toPrint := put s.toPrint p (s.toPrint[p] ++ [n]) }
  | .scanner => { s with toScan := put s.toScan p (s.toScan[p] ++ [n]) }
  | .panel => { s with toTouch := put s.toTouch p (s.toTouch[p] ++ [n]) }

/-- A loss handed to the owner of the kind that was UP (R146). -/
def notifyLoss (p : PortNo) (d : Option DevProfile) (s : State) : State :=
  match d with
  | some d => notify d.kind p .loss s
  | none => s

/-- An arrival handed (R146): the Print Scheduler is told of the kind change when the new kind is not PRINTER and its
record may be DETACHED, that is, it is not ABSENT with every earlier notice taken (log 12); then the owner is told. -/
def notifyArrival (p : PortNo) (d : DevProfile) (s : State) : State :=
  let quietRecord := s.printers[p].state = .absent ∧ s.toPrint[p] = []
  let t := if d.kind ≠ .printer ∧ ¬ quietRecord then notify .printer p .kindChange s else s
  notify d.kind p (.arrival d) t

/-! ### Entering a link state (R135, R138, R140, R144) -/

/-- The silence timer started or restarted (R144). -/
def silenceFrom (s : State) : Option Timer := some (startTimer s silenceLength)

/-- A fresh attempt (R140 step 3, R143): count 0, nothing stored, both flags clear, the attempt timer started. -/
def startAttempt (s : State) (i : Intro) : Intro :=
  { i with count := 0, stored := none, seenSent := false, seenReceived := false, attempt := startTimer s attemptLength }

/-- The introduction items at the entry into INTRODUCING (R140). -/
def newIntro (s : State) (advertised : BitVec 4) : Intro :=
  startAttempt s
    { advertised := advertised, count := 0, stored := none, seenSent := false, seenReceived := false,
      attempt := startTimer s attemptLength, handed := s.time }

/-- A frame left on the line at R145 no longer ends an introduction (R142). -/
def plainLine : Line → Line
  | .silent => .fill
  | .frame (.profileSeen _) => .frame (.profileSeen false)
  | l => l

/-- The entry into INTRODUCING (R140): the advertised set is read, profile and pace cleared, the attempt and the silence
timer started, and the part's PROFILE handed. -/
def introducing (s : State) (r : Port) : Port :=
  { r with
    link := .introducing
    profile := none
    resolved := none
    pace := 1
    intro := some (newIntro s r.advertised)
    silence := silenceFrom s
    sendList := [.profile r.advertised]
    line := plainLine r.line }

/-- What every departure to DOWN, FAILED or QUARANTINED does to the link (R135, R136, R138, R142, R144): the send list is
emptied, the silence timer stops, introduction items are cleared, the pace is 1, nothing is received. -/
def quietLink (r : Port) : Port :=
  { r with resolved := none, silence := none, intro := none, sendList := [], line := .silent, pace := 1, rx := none }

/-- The babble times and the babble count cleared (R135). -/
def clearBabble (r : Port) : Port := { r with babbleTimes := [], babbleCount := 0 }

/-- The link is one on which frames are received: INTRODUCING or UP (R135, R138). -/
def linked (r : Port) : Bool := r.link = .introducing || r.link = .up

/-- A port that leaves UP hands the loss to the owner of its device's kind; one that leaves INTRODUCING hands none
(R146). -/
def lossOf (p : PortNo) (was : Port) (s : State) : State :=
  if was.link = .up then notifyLoss p was.profile s else s

/-! ### Silence and babble (R135, R144) -/

/-- The silence timer expires (R144). -/
def silenceTimerExpiry (p : PortNo) (s : State) : State :=
  let r := s.ports[p]
  if linked r ∧ timerDue s r.silence then
    let t := updPort s p fun r => clearBabble (quietLink { r with link := .down, lost := true })
    lossOf p r (portChange p r.link .silence t)
  else s

/-- What is left of the line when a port is QUARANTINED: a frame being sent is cut with FAULT (R136). -/
def cutLine : Line → Line
  | .frame _ => .cut
  | _ => .silent

/-- The entry into QUARANTINED (R135). -/
def quarantine (p : PortNo) (s : State) : State :=
  let r := s.ports[p]
  let t := updPort s p fun r =>
    { quietLink { r with link := .quarantined, lost := true } with line := cutLine r.line }
  lossOf p r (portChange p r.link .babble t)

/-- Two babble times are kept and the older lies less than 1,000 ms back: the new frame is the third (R135). -/
def thirdBabble (r : Port) (now : Time) : Bool :=
  match r.babbleTimes with
  | [older, _] => elapsed older now < babbleWindow
  | _ => false

/-- The two most recent babble times with a new one (R135). -/
def keepBabble (times : List Time) (now : Time) : List Time :=
  match times with
  | [_, newer] => [newer, now]
  | ts => ts ++ [now]

/-- A babbled frame is cut and counted; the third within 1 s quarantines the port (R135). -/
def babbledFrame (p : PortNo) (s : State) : State :=
  if linked s.ports[p] then
    let t := updPort s p fun r => { r with babbleCount := min (r.babbleCount + 1) 255, rx := none }
    if thirdBabble t.ports[p] s.time then quarantine p t
    else updPort t p fun r => { r with babbleTimes := keepBabble r.babbleTimes s.time }
  else s

/-! ### Introduction (R141–R143) -/

/-- The highest pace of a set (R142). -/
def highestPace (set : BitVec 4) : Nat :=
  if set.getLsbD 3 then 4 else if set.getLsbD 2 then 3 else if set.getLsbD 1 then 2 else if set.getLsbD 0 then 1 else 0

/-- The introduction completes without a common pace (R142): FAILED, the device profile kept for the mirror. -/
def failIntro (p : PortNo) (d : DevProfile) (s : State) : State :=
  portChange p .introducing .noCommonPace
    (updPort s p fun r => { quietLink r with link := .failed, profile := some d })

/-- The introduction completes with a common pace (R142): UP, one last PROFILE SEEN handed, the pace to be switched at its
last group, and the arrival handed (R146). -/
def finishIntro (p : PortNo) (d : DevProfile) (common : BitVec 4) (s : State) : State :=
  notifyArrival p d
    (portChange p .introducing .introduced
      (updPort s p fun r =>
        { r with
          link := .up, profile := some d, resolved := some (highestPace common), intro := none,
          sendList := [.profileSeen true] }))

/-- The introduction completes when seen-sent and seen-received are both set (R142). -/
def completeIntro (p : PortNo) (s : State) : State :=
  match s.ports[p].intro with
  | some i =>
    if i.seenSent ∧ i.seenReceived then
      match i.stored.bind profile? with
      | some d =>
        let common := i.advertised &&& d.paces
        if common = 0 then failIntro p d s else finishIntro p d common s
      | none => s
    else s
  | none => s

/-- The count and stored profile after a received profile (R141). -/
def countProfile (payload : List Byte) (i : Intro) : Intro :=
  if (profile? payload).isNone then { i with count := 0, stored := none, seenSent := false }
  else if i.stored = some payload then { i with count := min (i.count + 1) 3 }
  else { i with count := 1, stored := some payload, seenSent := false }

/-- When the count reaches 3, seen-sent is set and PROFILE SEEN handed (R142). -/
def markSeen (now : Time) (r : Port) : Port :=
  match r.intro with
  | some i =>
    if i.count = 3 ∧ ¬ i.seenSent then
      { r with intro := some { i with seenSent := true, handed := now }, sendList := r.sendList ++ [.profileSeen false] }
    else r
  | none => r

/-- A good PROFILE while INTRODUCING (R141, R142). -/
def introProfile (p : PortNo) (payload : List Byte) (s : State) : State :=
  completeIntro p (updPort s p fun r => markSeen s.time { r with intro := r.intro.map (countProfile payload) })

/-- A good PROFILE on an UP port (R145): a loss and a new introduction, whose first profile it is. -/
def profileWhileUp (p : PortNo) (payload : List Byte) (s : State) : State :=
  let was := s.ports[p]
  let t := updPort s p fun r =>
    let r := clearBabble (introducing s { r with lost := true })
    { r with intro := r.intro.map (countProfile payload) }
  lossOf p was (portChange p .up .profileWhileUp t)

/-- A good PROFILE frame by the link state (R147); a payload that is not 5 bytes long does not fit and is ignored. -/
def profileFrame (p : PortNo) (payload : List Byte) (s : State) : State :=
  if payload.length = 5 then
    match s.ports[p].link with
    | .introducing => introProfile p payload s
    | .up => profileWhileUp p payload s
    | .down | .failed | .quarantined => s
  else s

/-- A good PROFILE SEEN frame (R142, R145, R147): its payload is not read. -/
def profileSeenFrame (p : PortNo) (s : State) : State :=
  if s.ports[p].link = .introducing then
    completeIntro p (updPort s p fun r => { r with intro := r.intro.map fun i => { i with seenReceived := true } })
  else s

/-- The attempt timer expires while INTRODUCING (R143): a new attempt. -/
def attemptTimerExpiry (p : PortNo) (s : State) : State :=
  match s.ports[p].intro with
  | some i =>
    if s.ports[p].link = .introducing ∧ timerDue s (some i.attempt) then
      updPort s p fun r => { r with intro := r.intro.map (startAttempt s) }
    else s
  | none => s

/-- Ten milliseconds have passed since the part last handed PROFILE or PROFILE SEEN (R140, R142). -/
def resendDue (s : State) (i : Intro) : Bool := resendLength ≤ elapsed i.handed s.time

/-- A frame of the introduction handed again (R140, R142). -/
def handAgain (p : PortNo) (f : OutFrame) (s : State) : State :=
  updPort s p fun r =>
    { r with sendList := r.sendList ++ [f], intro := r.intro.map fun i => { i with handed := s.time } }

/-- PROFILE handed again while seen-sent is clear (R140). -/
def profileResend (p : PortNo) (s : State) : State :=
  match s.ports[p].intro with
  | some i =>
    if s.ports[p].link = .introducing ∧ ¬ i.seenSent ∧ resendDue s i then handAgain p (.profile i.advertised) s else s
  | none => s

/-- PROFILE SEEN handed again while seen-sent is set (R142). -/
def profileSeenResend (p : PortNo) (s : State) : State :=
  match s.ports[p].intro with
  | some i =>
    if s.ports[p].link = .introducing ∧ i.seenSent ∧ resendDue s i then handAgain p (.profileSeen false) s else s
  | none => s

/-! ### Frames by kind (R147) -/

/-- The kind of the device on an UP port. -/
def upKind (r : Port) : Option DeviceKind := if r.link = .up then r.profile.map DevProfile.kind else none

/-- A frame that only changes the state. -/
def unmarked (s : State) : Marked := { state := s, marks := [] }

/-- A printer's frame on an UP port of kind PRINTER, with its payload in the length of R189; ignored otherwise (R147). -/
def printerFrame (p : PortNo) (kind : Byte) (payload : List Byte) (s : State) : State :=
  if upKind s.ports[p] = some .printer then
    match payload with
    | [] => if kind = kindReady then ready p s else s
    | [a] =>
      if kind = kindPageDone then pageDone p a.toNat s
      else if kind = kindCredit then credit p a.toNat s
      else if kind = kindPaper then paper p (a ≠ 0) s
      else s
    | [a, b] => if kind = kindPageFault then pageFault p a.toNat (faultCause b) s else s
    | _ => s
  else s

/-- A SCAN frame on an UP port of kind SCANNER, payload 1–96 bytes (R147, R189). -/
def scanFrame (p : PortNo) (payload : List Byte) (s : State) : State :=
  if upKind s.ports[p] = some .scanner ∧ payload.length ≤ payloadMax then scan p payload s else s

/-- A TOUCH frame's payload length fits its entry count (R189). -/
def touchFits (payload : List Byte) : Bool :=
  match payload with
  | count :: rest => rest.length = 6 * count.toNat
  | [] => false

/-- A TOUCH frame on an UP port of kind PANEL (R147, R189). -/
def touchFrame (p : PortNo) (payload : List Byte) (s : State) : Marked :=
  if upKind s.ports[p] = some .panel ∧ touchFits payload ∧ payload.length ≤ payloadMax then touch p payload s
  else unmarked s

/-- A good frame taken at its SHUT and passed on by link state and kind (R133, R147). -/
def takeFrame (p : PortNo) (kind : Byte) (payload : List Byte) (s : State) : Marked :=
  if kind = kindProfile then unmarked (profileFrame p payload s)
  else if kind = kindProfileSeen then unmarked (profileSeenFrame p s)
  else if kind = kindScan then unmarked (scanFrame p payload s)
  else if kind = kindTouch then touchFrame p payload s
  else unmarked (printerFrame p kind payload s)

/-- A valid group restarts the silence timer of an INTRODUCING or UP port (R132, R144). -/
def restartSilence (p : PortNo) (s : State) : State :=
  if linked s.ports[p] then updPort s p fun r => { r with silence := silenceFrom s } else s

/-- The frame being received replaced. -/
def setRx (p : PortNo) (rx : Option (List (BitVec 4))) (s : State) : State := updPort s p fun r => { r with rx := rx }

/-- A good frame of a kind received whole: its OPEN discards a frame begun before it, its SHUT, a valid group, restarts the
silence timer and leaves the port outside a frame, and the frame is taken (R132, R133, R144, log 13). No frame is received on
a port that is not INTRODUCING or UP (R135), and none with more than 96 payload bytes is good (R133). -/
def frameReceived (p : PortNo) (kind : Byte) (payload : List Byte) (s : State) : Marked :=
  if linked s.ports[p] ∧ payload.length ≤ payloadMax then takeFrame p kind payload (setRx p none (restartSilence p s))
  else unmarked s

/-! ### Symbol groups (R132, R133, R135, R140) -/

/-- A SHUT inside a frame: the frame ends, and is taken when it is good (R133). -/
def endFrame (p : PortNo) (nibbles : List (BitVec 4)) (s : State) : Marked :=
  let t := setRx p none s
  match goodFrame? nibbles with
  | some (kind, payload) => takeFrame p kind payload t
  | none => unmarked t

/-- A data group inside a frame; at the last group of its 101st byte the frame is babbled (R133, R135). -/
def dataGroupIn (p : PortNo) (nibbles : List (BitVec 4)) (d : BitVec 4) (s : State) : State :=
  let more := nibbles ++ [d]
  if 2 * babbleBytes ≤ more.length then babbledFrame p s else setRx p (some more) s

/-- A group on an INTRODUCING or UP port, by the table of R132. -/
def assemble (p : PortNo) (g : GroupKind) (s : State) : Marked :=
  match g, s.ports[p].rx with
  | .start, _ => unmarked (setRx p (some []) s)
  | .data d, some nibbles => unmarked (dataGroupIn p nibbles d s)
  | .shut, some nibbles => endFrame p nibbles s
  | .fault, some _ => unmarked (setRx p none s)
  | .invalid, some _ => unmarked (setRx p none s)
  | .fill, _ => unmarked s
  | .data _, none => unmarked s
  | .shut, none => unmarked s
  | .fault, none => unmarked s
  | .invalid, none => unmarked s

/-- A symbol group received on a port (R132, R138, R140): a DOWN port that is not in STOPPED becomes INTRODUCING at a valid
group; a FAILED or QUARANTINED port ignores every group. -/
def groupReceived (p : PortNo) (g : Group) (s : State) : Marked :=
  match s.ports[p].link with
  | .down =>
    if validGroup g ∧ s.part ≠ .stopped then assemble p (groupKind g) (updPort s p (introducing s)) else unmarked s
  | .introducing | .up => assemble p (groupKind g) (if validGroup g then restartSilence p s else s)
  | .failed | .quarantined => unmarked s

/-! ### SET PORT and ACK PORT (R148, R149) -/

/-- SET PORT served (R148): port and pace set at card offsets 8 and 9. That a port above 7 with the four lowest flags clear is
answered detail 0, the port being checked first, is the model's choice (DESIGN CHOICE, log 22): R148 gives no order. -/
def serveSetPort (c : CardNo) (s : State) : Served :=
  let set : BitVec 4 := (cardByte s c 9).setWidth 4
  match index? 8 (cardNum s c 8) with
  | none => refuse s { outcome := .badArgument }
  | some p =>
    if set = 0 then refuse s { outcome := .badArgument, detail := 1 }
    else
      { state := updPort s p fun r => { r with advertised := set }
        answer := { outcome := .ok, value := s.ports[p].advertised.toNat }
        marks := [p] }

/-- An acknowledged port (R149): the lost latch is cleared; FAILED and QUARANTINED become DOWN. -/
def acknowledge (r : Port) : Port :=
  if r.link = .failed ∨ r.link = .quarantined then
    clearBabble (quietLink { r with link := .down, lost := false })
  else { r with lost := false }

/-- ACK PORT served (R149): the port is card offset 8. -/
def serveAckPort (c : CardNo) (s : State) : Served :=
  match index? 8 (cardNum s c 8) with
  | none => refuse s { outcome := .badArgument }
  | some p =>
    { state := updPort s p acknowledge
      answer := { outcome := .ok
                  value := if s.ports[p].link = .failed ∨ s.ports[p].link = .quarantined then 1 else 0 }
      marks := [p] }

/-- SET_PORT (R148). -/
def execSetPort (s : State) : Out := serve .setPort serveSetPort s

/-- ACK_PORT (R149). -/
def execAckPort (s : State) : Out := serve .ackPort serveAckPort s

/-! ### The link's commands -/

/-- VALID_GROUP_RECEIVED (R140). -/
def execValidGroupReceived (p : PortNo) (g : Group) (s : State) : Out := eventMarked (groupReceived p g) s

/-- SYMBOL_GROUP_RECEIVED (R132). -/
def execSymbolGroupReceived (p : PortNo) (g : Group) (s : State) : Out := eventMarked (groupReceived p g) s

/-- PROFILE_RESEND (R140). -/
def execProfileResend (p : PortNo) (s : State) : Out := .next (profileResend p s)

/-- PROFILE_SEEN_RESEND (R142). -/
def execProfileSeenResend (p : PortNo) (s : State) : Out := .next (profileSeenResend p s)

/-- BABBLED_FRAME (R135): the last group of its 101st byte is a valid group (R144). -/
def execBabbledFrame (p : PortNo) (s : State) : Out := event (fun s => babbledFrame p (restartSilence p s)) s

/-- ATTEMPT_TIMER_EXPIRY (R143). -/
def execAttemptTimerExpiry (p : PortNo) (s : State) : Out := .next (attemptTimerExpiry p s)

/-- SILENCE_TIMER_EXPIRY (R144). -/
def execSilenceTimerExpiry (p : PortNo) (s : State) : Out := event (silenceTimerExpiry p) s

/-- PROFILE (R141, R145). -/
def execProfile (p : PortNo) (payload : List Byte) (s : State) : Out := eventMarked (frameReceived p kindProfile payload) s

/-- PROFILE_SEEN (R142). -/
def execProfileSeen (p : PortNo) (payload : List Byte) (s : State) : Out :=
  eventMarked (frameReceived p kindProfileSeen payload) s

/-- PAGE_DONE (R61). -/
def execPageDone (p : PortNo) (payload : List Byte) (s : State) : Out := eventMarked (frameReceived p kindPageDone payload) s

/-- CREDIT (R59). -/
def execCredit (p : PortNo) (payload : List Byte) (s : State) : Out := eventMarked (frameReceived p kindCredit payload) s

/-- PAGE_FAULT (R67, R68). -/
def execPageFault (p : PortNo) (payload : List Byte) (s : State) : Out := eventMarked (frameReceived p kindPageFault payload) s

/-- READY (R68). -/
def execReady (p : PortNo) (payload : List Byte) (s : State) : Out := eventMarked (frameReceived p kindReady payload) s

/-- PAPER (R77). -/
def execPaper (p : PortNo) (payload : List Byte) (s : State) : Out := eventMarked (frameReceived p kindPaper payload) s

/-- SCAN (R95). -/
def execScan (p : PortNo) (payload : List Byte) (s : State) : Out := eventMarked (frameReceived p kindScan payload) s

/-- TOUCH (R112). -/
def execTouch (p : PortNo) (payload : List Byte) (s : State) : Out := eventMarked (frameReceived p kindTouch payload) s

end Sys2Proof.Machine
end

