-- ==== Sys2Proof/Machine/Stations.lean ====
section
/-! DEFINITION. The Station Table (spec/01): SET PERMITS (R5, R6), SET QUOTA (R8), SET SERVICE (R9), retirement (R10–R14)
and reinstatement (R16). -/

namespace Sys2Proof.Machine

open Config

/-! ### Answers the rules leave open (log 5) -/

/-- An open value has been used: the next use takes the next one. -/
def useOpen (s : State) : State := { s with openCount := s.openCount + 1 }

/-- An answer whose detail no rule states. -/
def openAnswer (s : State) (o : Outcome) (value : Nat) : Answer :=
  { outcome := o, detail := openDetail s.openCount, value := value }

/-- A refusal whose detail and answer value no rule states (R5, R8, R9). -/
def refuseOpen (s : State) (o : Outcome) : Served := refuse (useOpen s) (openAnswer s o (openValue s.openCount))

/-! ### SET PERMITS (R5, R6) -/

/-- The ports of the old set that the new one leaves out, in ascending order (R5, R6). -/
def withdrawnPorts (old new : BitVec 8) : List PortNo :=
  (List.finRange 8).filter fun p => old.getLsbD p.val && !new.getLsbD p.val

/-- An accepted SET PERMITS: the permits replaced, then each withdrawal handed to the Scan Router (R5, R6). -/
def setPermitsOf (st : StationNo) (new : BitVec 8) (s : State) : State :=
  (withdrawnPorts s.stations[st].permits new).foldl (withdrawPermit st)
    (updStation s st fun r => { r with permits := new })

/-- SET PERMITS served (R5): station and port set at card offsets 8 and 9. -/
def serveSetPermits (c : CardNo) (s : State) : Served :=
  match index? 16 (cardNum s c 8) with
  | some st =>
    { state := useOpen (setPermitsOf st (cardByte s c 9) s)
      answer := openAnswer s .ok s.stations[st].permits.toNat }
  | none => refuseOpen s .badArgument

/-- SET_PERMITS (R5). -/
def execSetPermits (s : State) : Out := serve .setPermits serveSetPermits s

/-! ### SET QUOTA (R8) -/

/-- SET QUOTA served (R8): station and quota at card offsets 8 and 9–10; a quota above 96 is stored as 96. -/
def serveSetQuota (c : CardNo) (s : State) : Served :=
  match index? 16 (cardNum s c 8) with
  | some st =>
    { state := useOpen (updStation s st fun r => { r with quota := min (cardHalfNum s c 9) quotaMax })
      answer := openAnswer s .ok s.stations[st].holdings }
  | none => refuseOpen s .badArgument

/-- SET_QUOTA (R8). -/
def execSetQuota (s : State) : Out := serve .setQuota serveSetQuota s

/-! ### Retirement (R10–R14) -/

/-- Step 1: each POSTED card of the station leaves the posting list and is answered OUT OF SERVICE (R11). -/
def retireCards (st : StationNo) (s : State) : State :=
  (s.posting.filter fun c => cardStation c = st).foldl (fun t c => answerCard c { outcome := .outOfService } [] t)
    { s with posting := s.posting.filter fun c => cardStation c ≠ st }

/-- Step 2: every block RESERVED by the station is freed, in ascending block number (R11). -/
def retireBlocks (st : StationNo) (s : State) : State :=
  freeBlocks ((List.finRange 96).filter fun b => s.blocks[b] = .reserved st) s

/-- The jobs of a station in one of the given states, in ascending job number. -/
def ownedJobs (s : State) (st : StationNo) (test : JobState → Bool) : List JobNo :=
  (List.finRange 32).filter fun j => s.jobs[j].owner = some st && test s.jobs[j].state

/-- Step 3: the station's WAITING and SUSPENDED jobs end RETIRED, in ascending job number (R12). -/
def retireIdleJobs (st : StationNo) (s : State) : State :=
  (ownedJobs s st fun x => x = .waiting || x = .suspended).foldl (endJob .retired) s

/-- A PRINTING job of the station: cancel-pending with reason RETIRED, no owner, and ended at once unless it runs on to
its boundary (R12). -/
def retireCurrent (s : State) (j : JobNo) : State :=
  let t := updJob (markPending .retired j s) j fun r => { r with owner := none }
  let p := s.jobs[j].port
  if runsOn s.printers[p] then t else endAtOnce .retired p j t

/-- Step 4: the station's PRINTING jobs, in ascending job number (R12, log 11). -/
def retireCurrents (st : StationNo) (s : State) : State :=
  (ownedJobs s st fun x => x = .printing).foldl retireCurrent s

/-- Step 5: the scanners in ascending port order (R13). -/
def retireClaims (st : StationNo) (s : State) : State := (List.finRange 8).foldl (retireScanner st) s

/-- Step 7: the owed queue emptied, the ring frozen, the NOTICE bit cleared (R14). -/
def freezeRing (st : StationNo) (s : State) : State :=
  clearNotice (updDelivery s st fun d => { d with owed := [], frozen := true }) st

/-- The whole retirement, in the order of R10. -/
def retire (st : StationNo) (s : State) : State :=
  let s0 := updStation s st fun r => { r with service := .outOfService }
  let s2 := retireBlocks st (retireCards st s0)
  let s4 := updStation (retireCurrents st (retireIdleJobs st s2)) st fun r => { r with holdings := 0 }
  freezeRing st (freeContacts st (retireClaims st s4))

/-! ### Reinstatement and SET SERVICE (R9, R16) -/

/-- The reinstatement (R16): IN SERVICE, both marks 0, no gap owed, the ring unfrozen. -/
def reinstate (st : StationNo) (s : State) : State :=
  updDelivery (updStation s st fun r => { r with service := .inService }) st
    fun d => { d with w := 0, t := 0, gap := false, frozen := false }

/-- The checks of SET SERVICE once the station number is known (R9). -/
def serviceChecks (s : State) (st : StationNo) (v : Nat) : List (Bool × Answer) :=
  [(v ≤ 1, openAnswer s .badArgument (openValue s.openCount)),
   (!(st = 0 && v = 0), openAnswer s .badArgument (openValue s.openCount)),
   ((v = 1) ≠ inService s st, openAnswer s .badState (openValue s.openCount))]

/-- An accepted SET SERVICE (R9). -/
def acceptSetService (st : StationNo) (v : Nat) (s : State) : Served :=
  if v = 0 then
    let t := retire st s
    { state := useOpen t, answer := openAnswer s .ok (t.free.length - s.free.length) }
  else { state := useOpen (reinstate st s), answer := openAnswer s .ok 0 }

/-- SET SERVICE served (R9): station and value at card offsets 8 and 9. -/
def serveSetService (c : CardNo) (s : State) : Served :=
  match index? 16 (cardNum s c 8) with
  | some st => checked (useOpen s) (serviceChecks s st (cardNum s c 9)) (acceptSetService st (cardNum s c 9) s)
  | none => refuseOpen s .badArgument

/-- SET_SERVICE (R9). -/
def execSetService (s : State) : Out := serve .setService serveSetService s

end Sys2Proof.Machine
end

