-- ==== Sys2Proof/Machine/Control.lean ====
section
/-! DEFINITION. Part Control (spec/11): FULL_RESET (R176), PART CONTROL writes (R177), the soft reset (R178 and the rules it
names), QUIET (R179), WAKE and wake-touch reports (R180), PART STATE records (R181) and the timebase (R176). -/

namespace Sys2Proof.Machine

open Config

/-! ### Full reset and the timebase (R176) -/

/-- FULL_RESET (R176): every block takes its full-reset values. The model's queue of commands is not the part's. -/
def execFullReset (s : State) : Out := .next { State.reset with pending := s.pending, openCount := s.openCount }

/-- MILLISECOND_TICK (R176): the timebase advances by 1 modulo 2^32 in every part state. -/
def execMillisecondTick (s : State) : Out := .next { s with time := s.time + 1 }

/-! ### Soft reset (R178) -/

/-- A job ended by the soft reset: FREE with reason SOFT RESET, its other items kept for the mirror (R33, R53). -/
def softJob (r : Job) : Job := if r.state = .free then r else { r with state := .free, reason := .softReset }

/-- A printer record at the soft reset (R81). -/
def softPrinter (r : Printer) : Printer :=
  { makeAbsent r with
    state := if r.state = .absent ∨ r.state = .detached then .absent else .idle
    paperLow := if r.state = .absent ∨ r.state = .detached then false else r.paperLow }

/-- A printer with a page in flight is sent PAGE ABANDON (R53, R81). -/
def abandonPage (s : State) (p : PortNo) : State :=
  match s.printers[p].page with
  | some pg => hand p (.pageAbandon pg.page) s
  | none => s

/-- A scanner record at the soft reset: FREE unless ABSENT, with its grant counter alone kept (R102). -/
def softScanner (r : Scanner) : Scanner :=
  { state := match r.state with
      | .absent => .absent
      | .free | .held _ => .free
    queue := [], grants := r.grants, lastCode := none, lastEnd := none }

/-- A delivery state at the soft reset: as after a full reset, with the frozen state kept (R3, R166). -/
def softDelivery (d : Delivery) : Delivery := { Delivery.reset with frozen := d.frozen }

/-- QUIET becomes RUNNING; RUNNING and STOPPED stay (R178). -/
def softPart : PartState → PartState
  | .stopped => .stopped
  | .running => .running
  | .quiet => .running

/-- The soft reset (R178): every block's runtime state torn down, configuration and links kept, every mirror entry written
with change count 0 (R184). QUIET notices not yet taken are dropped with the QUIET forms (log 15). -/
def softReset (s : State) : State :=
  let a := (List.finRange 8).foldl abandonPage s
  { a with
    mem := []
    cards := Vector.replicate 32 .empty
    posting := []
    serving := none
    stations := a.stations.map fun r => { r with holdings := 0 }
    blocks := Vector.replicate 96 .free
    free := List.finRange 96
    jobs := a.jobs.map softJob
    printers := a.printers.map softPrinter
    printMode := .running
    scanners := a.scanners.map softScanner
    scanMode := .running
    contacts := Vector.replicate 32 none
    touchMode := .running
    delivery := a.delivery.map softDelivery
    notice := 0
    noticeMask := 0
    quietPrint := []
    quietScan := []
    quietTouch := []
    part := softPart a.part
    portCount := Vector.replicate 8 0
    jobCount := Vector.replicate 32 0
    stationCount := Vector.replicate 16 0
    poolCount := 0 }

/-! ### PART CONTROL (R177) -/

/-- RUN written 1 starts a STOPPED part, and has no effect otherwise (R177). -/
def startPart (s : State) : State := if s.part = .stopped then { s with part := .running } else s

/-- A write to PART CONTROL: the soft reset first, then RUN (R177). -/
def controlWrite (v : Half) (s : State) : State :=
  let t := if v.getLsbD 1 then softReset s else s
  if v.getLsbD 0 then startPart t else t

/-! ### QUIET and waking (R179–R181) -/

/-- The three routers are told that the part has entered or left QUIET (R179, R180). -/
def tellRouters (n : QuietNotice) (s : State) : State :=
  { s with quietPrint := s.quietPrint ++ [n], quietScan := s.quietScan ++ [n], quietTouch := s.quietTouch ++ [n] }

/-- The PART STATE record given to station 0 (R181), with the wake cause as it stands. -/
def reportPart (previous : PartState) (s : State) : State := giveStatus 0 (.partState previous s.part s.wake) s

/-- The accepted QUIET request (R179). -/
def enterQuietPart (s : State) : State := tellRouters .enter (reportPart s.part { s with part := .quiet })

/-- The accepted wake with its cause (R180). -/
def wakePart (cause : WakeCause) (s : State) : State :=
  tellRouters .leave (reportPart s.part { s with part := .running, wake := cause })

/-- QUIET served (R179). No card is served in STOPPED (R160). -/
def serveQuiet (_ : CardNo) (s : State) : Served :=
  if s.part = .running then { state := enterQuietPart s, answer := { outcome := .ok } }
  else refuse s { outcome := .badState }

/-- WAKE served (R180). -/
def serveWake (_ : CardNo) (s : State) : Served :=
  if s.part = .quiet then { state := wakePart .request s, answer := { outcome := .ok } }
  else refuse s { outcome := .badState }

/-- QUIET (R179). -/
def execQuiet (s : State) : Out := serve .quiet serveQuiet s

/-- WAKE (R180). -/
def execWake (s : State) : Out := serve .wake serveWake s

/-- The oldest wake-touch report taken: it wakes a part in QUIET and is ignored otherwise (R180). That of several reports,
as from one frame (R116), the oldest is taken first is the model's choice (DESIGN CHOICE, log 23): R180 lets either be. -/
def wakeTouch (s : State) : State :=
  match s.wakeReports with
  | z :: rest =>
    let t := { s with wakeReports := rest }
    if s.part = .quiet then wakePart (.touch z) t else t
  | [] => s

/-- WAKE_TOUCH (R180). -/
def execWakeTouch (s : State) : Out := event wakeTouch s

end Sys2Proof.Machine
end

