-- ==== Sys2Proof/Machine/HostPort.lean ====
section
/-! DEFINITION. The Exchange Port's host writes (spec/09): regions (R151), the taken mark (R153, R171), card bytes and card
states (R156–R158), the pool guard (R24), and the four registers (R174–R177, R185). What a write does is settled by
its address, whichever row of the table it is sent as (log 17). -/

namespace Sys2Proof.Machine

open Config

/-! ### Cards (R156–R158) -/

/-- The card states in which the host may write (R156, R157). -/
def cardOpen (k : CardState) : Bool := k = .empty || k = .answered

/-- A value written to a card's state byte, judged by the card's state (R156). A posting joins the tail of the posting
list (R158). -/
def writeCardState (c : CardNo) (v : Byte) (s : State) : State :=
  if cardOpen s.cards[c] && v = 1 then { s with cards := put s.cards c .posted, posting := s.posting ++ [c] }
  else if s.cards[c] = .answered && v = 0 then { s with cards := put s.cards c .empty }
  else s

/-- Bytes written to a card from an offset of 1–95 on (R157). -/
def writeCardBytes (c : CardNo) (a : Nat) (bytes : List Byte) (s : State) : State :=
  if cardOpen s.cards[c] then { s with mem := writeBytes s.mem a bytes } else s

/-- A write into a card's window at an address: the state byte, the state and the kind byte together, or other bytes. Both
bytes of a word at offset 0 are judged by the state before the access (R157). -/
def writeCard (c : CardNo) (a : Nat) (bytes : List Byte) (s : State) : State :=
  if isCardState a then
    match bytes with
    | [] => s
    | v :: rest => writeCardState c v (writeCardBytes c (a + 1) rest s)
  else writeCardBytes c a bytes s

/-! ### Station areas (R153) -/

/-- A register or mark byte completed to a word: the byte written and the other byte of the word as given (R151, R153). -/
def completeWord (current : Half) (a : Nat) (v : Byte) : Half :=
  if a % 2 = 0 then halfOf v (hiByte current) else halfOf (loByte current) v

/-- The value of a write: a word as it is, or a byte completed by the other byte of the current word. -/
def writtenWord (current : Half) : HostWrite → Half
  | .byte a v => completeWord current a.toNat v
  | .word _ v => v

/-- The bytes of a write, lowest address first (R151, R182). -/
def HostWrite.bytes : HostWrite → List Byte
  | .byte _ v => [v]
  | .word _ v => [loByte v, hiByte v]

/-- A taken-mark write handed to the Delivery Unit (R153, R171). Its flush may free contact records, which the port
mirrors show (R111). -/
def writeTakenMark (st : StationNo) (w : HostWrite) (s : State) : State :=
  publish [] s (takenMarkWrite st (writtenWord (halfOfNat s.delivery[st].t) w).toNat s)

/-- A write into a station area (R153). -/
def writeArea (st : StationNo) (w : HostWrite) (s : State) : State :=
  let off := areaOffset w.address
  if off < 2 then writeTakenMark st w s
  else if off < cardOffset then s
  else if off < ringOffset then writeCard (cardOf st off) w.address (HostWrite.bytes w) s
  else s

/-! ### Registers (R151, R174–R177) -/

/-- A write to NOTICE clears each bit written as 1 (R174); the byte the port supplies is 00H (R151). -/
def writeNotice (w : HostWrite) (s : State) : State := { s with notice := s.notice &&& ~~~ writtenWord 0 w }

/-- A write to NOTICE MASK stores the mask (R175); the byte the port supplies is the current one (R151). -/
def writeMask (w : HostWrite) (s : State) : State := { s with noticeMask := writtenWord s.noticeMask w }

/-- A write to PART CONTROL (R177); the byte the port supplies is the current one (R151). -/
def writeControl (w : HostWrite) (s : State) : State := controlWrite (writtenWord (partControl s) w) s

/-- A write to a register by its word offset from FFF8H; PART STATUS discards it (R151). -/
def writeRegister (k : Nat) (w : HostWrite) (s : State) : State :=
  match k with
  | 0 => writeControl w s
  | 1 => s
  | 2 => writeNotice w s
  | _ => writeMask w s

/-! ### The regions (R151) -/

/-- A host write by the region it lands in (R151). -/
def hostWrite (w : HostWrite) (s : State) : State :=
  let a := w.address
  if a < areaBase then s
  else if a < poolBase then
    match stationAt? a with
    | some st => writeArea st w s
    | none => s
  else if a < unmappedBase then writePool a (HostWrite.bytes w) s
  else if a < registerBase then s
  else writeRegister ((a - registerBase) / 2) w s

/-- RUN (R177). -/
def execRun (w : HostWrite) (s : State) : Out := .next (hostWrite w s)

/-- SOFT_RESET (R178). -/
def execSoftReset (w : HostWrite) (s : State) : Out := .next (hostWrite w s)

/-- REGISTER_WRITE_DISCARDED (R151). -/
def execRegisterWriteDiscarded (w : HostWrite) (s : State) : Out := .next (hostWrite w s)

/-- NOTICE_WRITE (R174). -/
def execNoticeWrite (w : HostWrite) (s : State) : Out := .next (hostWrite w s)

/-- NOTICE_MASK_WRITE (R175). -/
def execNoticeMaskWrite (w : HostWrite) (s : State) : Out := .next (hostWrite w s)

/-- HOST_WRITE (R151). -/
def execHostWrite (w : HostWrite) (s : State) : Out := .next (hostWrite w s)

/-- POOL_BLOCK_WRITE (R24). -/
def execPoolBlockWrite (w : HostWrite) (s : State) : Out := .next (hostWrite w s)

/-- CARD_BYTE_WRITE (R157). -/
def execCardByteWrite (w : HostWrite) (s : State) : Out := .next (hostWrite w s)

/-- CARD_STATE_WRITE (R156). -/
def execCardStateWrite (w : HostWrite) (s : State) : Out := .next (hostWrite w s)

/-- TAKEN_MARK_WRITE (R171). -/
def execTakenMarkWrite (w : HostWrite) (s : State) : Out := .next (hostWrite w s)

end Sys2Proof.Machine
end

