-- ==== Sys2Proof/Machine/Dispatch.lean ====
section
/-! DEFINITION. The meaning of every command: one arm for each row of spec/opcode_table.json. -/

namespace Sys2Proof.Machine

def exec (i : Instr) (s : State) : Host.Outcome State Fault Refusal :=
  match i with
  | .fullReset => Sys2Proof.Machine.execFullReset s
  | .run w => Sys2Proof.Machine.execRun w s
  | .softReset w => Sys2Proof.Machine.execSoftReset w s
  | .registerWriteDiscarded w => Sys2Proof.Machine.execRegisterWriteDiscarded w s
  | .noticeWrite w => Sys2Proof.Machine.execNoticeWrite w s
  | .noticeMaskWrite w => Sys2Proof.Machine.execNoticeMaskWrite w s
  | .hostWrite w => Sys2Proof.Machine.execHostWrite w s
  | .poolBlockWrite w => Sys2Proof.Machine.execPoolBlockWrite w s
  | .cardByteWrite w => Sys2Proof.Machine.execCardByteWrite w s
  | .cardStateWrite w => Sys2Proof.Machine.execCardStateWrite w s
  | .takenMarkWrite w => Sys2Proof.Machine.execTakenMarkWrite w s
  | .takeCard => Sys2Proof.Machine.execTakeCard s
  | .reserve => Sys2Proof.Machine.execReserve s
  | .unreserve => Sys2Proof.Machine.execUnreserve s
  | .submit => Sys2Proof.Machine.execSubmit s
  | .cancelJob => Sys2Proof.Machine.execCancelJob s
  | .clearPrinter => Sys2Proof.Machine.execClearPrinter s
  | .claim => Sys2Proof.Machine.execClaim s
  | .release => Sys2Proof.Machine.execRelease s
  | .setPermits => Sys2Proof.Machine.execSetPermits s
  | .setService => Sys2Proof.Machine.execSetService s
  | .setQuota => Sys2Proof.Machine.execSetQuota s
  | .setPrinter => Sys2Proof.Machine.execSetPrinter s
  | .setScanner => Sys2Proof.Machine.execSetScanner s
  | .setZone => Sys2Proof.Machine.execSetZone s
  | .clearZone => Sys2Proof.Machine.execClearZone s
  | .setPort => Sys2Proof.Machine.execSetPort s
  | .ackPort => Sys2Proof.Machine.execAckPort s
  | .quiet => Sys2Proof.Machine.execQuiet s
  | .wake => Sys2Proof.Machine.execWake s
  | .wakeTouch => Sys2Proof.Machine.execWakeTouch s
  | .printersEnterQuiet => Sys2Proof.Machine.execPrintersEnterQuiet s
  | .scannersEnterQuiet => Sys2Proof.Machine.execScannersEnterQuiet s
  | .touchEnterQuiet => Sys2Proof.Machine.execTouchEnterQuiet s
  | .printersLeaveQuiet => Sys2Proof.Machine.execPrintersLeaveQuiet s
  | .scannersLeaveQuiet => Sys2Proof.Machine.execScannersLeaveQuiet s
  | .touchLeaveQuiet => Sys2Proof.Machine.execTouchLeaveQuiet s
  | .validGroupReceived p g => Sys2Proof.Machine.execValidGroupReceived p g s
  | .profileResend p => Sys2Proof.Machine.execProfileResend p s
  | .profileSeenResend p => Sys2Proof.Machine.execProfileSeenResend p s
  | .sendFrame p => Sys2Proof.Machine.execSendFrame p s
  | .paceSwitch p => Sys2Proof.Machine.execPaceSwitch p s
  | .babbledFrame p => Sys2Proof.Machine.execBabbledFrame p s
  | .profile p payload => Sys2Proof.Machine.execProfile p payload s
  | .profileSeen p payload => Sys2Proof.Machine.execProfileSeen p payload s
  | .attemptTimerExpiry p => Sys2Proof.Machine.execAttemptTimerExpiry p s
  | .silenceTimerExpiry p => Sys2Proof.Machine.execSilenceTimerExpiry p s
  | .printerLinkLoss p => Sys2Proof.Machine.execPrinterLinkLoss p s
  | .scannerLinkLoss p => Sys2Proof.Machine.execScannerLinkLoss p s
  | .panelLinkLoss p => Sys2Proof.Machine.execPanelLinkLoss p s
  | .printerArrival p => Sys2Proof.Machine.execPrinterArrival p s
  | .printerReturn p => Sys2Proof.Machine.execPrinterReturn p s
  | .kindChange p => Sys2Proof.Machine.execKindChange p s
  | .scannerArrival p => Sys2Proof.Machine.execScannerArrival p s
  | .panelArrival p => Sys2Proof.Machine.execPanelArrival p s
  | .reconnectTimerExpiry p => Sys2Proof.Machine.execReconnectTimerExpiry p s
  | .pageDone p payload => Sys2Proof.Machine.execPageDone p payload s
  | .credit p payload => Sys2Proof.Machine.execCredit p payload s
  | .pageFault p payload => Sys2Proof.Machine.execPageFault p payload s
  | .ready p payload => Sys2Proof.Machine.execReady p payload s
  | .paper p payload => Sys2Proof.Machine.execPaper p payload s
  | .pageTimerExpiry p => Sys2Proof.Machine.execPageTimerExpiry p s
  | .scan p payload => Sys2Proof.Machine.execScan p payload s
  | .idleTimerExpiry p => Sys2Proof.Machine.execIdleTimerExpiry p s
  | .touch p payload => Sys2Proof.Machine.execTouch p payload s
  | .symbolGroupReceived p g => Sys2Proof.Machine.execSymbolGroupReceived p g s
  | .millisecondTick => Sys2Proof.Machine.execMillisecondTick s

end Sys2Proof.Machine
end

