-- ==== Sys2Proof/Safety.lean ====
section
/-! DEFINITION. What claims about the part are made of: the invariants that every step keeps, the limits the manual gives
for each block's state, and the words the statements use (a request being served, a card answered, memory unchanged
outside a set of addresses). -/

namespace Sys2Proof.Safety

open Sys2Proof.Machine
open Config

/-! ### Invariants -/

/-- The memory list is in its canonical form. -/
def MemoryOk (s : State) : Prop := memoryWf s.mem = true

/-- The law of a ring (R166): both marks are multiples of 8 in 0..1784, at most 1784 bytes are used, and at most 16
records are owed. -/
def RingOk (d : Delivery) : Prop :=
  d.w % 8 = 0 ∧ d.w < ringBytes ∧ d.t % 8 = 0 ∧ d.t < ringBytes ∧ usedBytes d ≤ ringFull ∧ d.owed.length ≤ owedMax

/-- Every ring keeps its law (R166). -/
def RingsOk (s : State) : Prop := ∀ st : StationNo, RingOk s.delivery[st]

/-- Station 0 is IN SERVICE, and a ring is frozen exactly while its station is OUT OF SERVICE (R4, R9, R14, R166). -/
def ServiceOk (s : State) : Prop :=
  inService s 0 = true ∧ ∀ st : StationNo, s.delivery[st].frozen = !inService s st

/-- The free list holds every FREE block and no other, each once (R18). -/
def PoolOk (s : State) : Prop := s.free.Nodup ∧ ∀ b : BlockNo, b ∈ s.free ↔ s.blocks[b] = .free

/-- A card stands in the posting list exactly while POSTED, and once (R159); it is TAKEN exactly while served (R155,
R160). -/
def CardsOk (s : State) : Prop :=
  s.posting.Nodup ∧ (∀ c : CardNo, c ∈ s.posting ↔ s.cards[c] = .posted) ∧
  ∀ c : CardNo, s.serving = some c ↔ s.cards[c] = .taken

/-- A scanner's claim queue: at most four stations, each once, never the holder, and none unless HELD (R82, R84). -/
def ScannerOk (r : Scanner) : Prop :=
  r.queue.length ≤ claimQueueMax ∧ (r.queue.map Wait.station).Nodup ∧
  match r.state with
  | .held c => c.holder ∉ r.queue.map Wait.station
  | .free | .absent => r.queue = []

/-- Every scanner record is in order. -/
def ScannersOk (s : State) : Prop := ∀ p : PortNo, ScannerOk s.scanners[p]

/-- A zone's rectangle and target lie within the limits of SET ZONE (R103, R105). -/
def MappingOk (m : Mapping) : Prop :=
  m.x0 < m.x1 ∧ m.x1 ≤ 4096 ∧ m.y0 < m.y1 ∧ m.y1 ≤ 4096 ∧ 1 ≤ m.width ∧ m.width ≤ 4096 ∧ 1 ≤ m.height ∧ m.height ≤ 4096

/-- The indexes of the ACTIVE zones of a port. -/
def activeZones (s : State) (p : PortNo) : List ZoneNo :=
  (List.finRange 16).filter fun z => match s.zones[z] with
    | some zn => zn.port = p
    | none => false

/-- The zone table (R104): every ACTIVE zone is within its limits, no two of one port overlap, and a port has at most
eight. -/
def ZonesOk (s : State) : Prop :=
  (∀ z : ZoneNo, ∀ a, s.zones[z] = some a → MappingOk a.map) ∧
  (∀ y z : ZoneNo, ∀ a b, s.zones[y] = some a → s.zones[z] = some b → y ≠ z → a.port = b.port →
    overlaps a.map b.map = false) ∧
  ∀ p : PortNo, (activeZones s p).length ≤ zonesPerPort

/-- At most one contact record holds a key (R109). -/
def KeysOk (s : State) : Prop :=
  ∀ m n : ContactNo, ∀ a b, s.contacts[m] = some a → s.contacts[n] = some b → keyHeld a = true → keyHeld b = true →
    a.port = b.port → a.id = b.id → m = n

/-- A port record's items by its link state (R135–R144): introduction items exactly while INTRODUCING, pace 1 and no
resolved pace unless UP, nothing to send, no silence timer and no frame being received unless INTRODUCING or UP; an
INTRODUCING port sends the frames of the introduction alone, and an UP one, after the last PROFILE SEEN, the frames for its
device's kind alone (R136). -/
def PortOk (r : Port) : Prop :=
  (r.intro.isSome = true ↔ r.link = .introducing) ∧
  (r.link ≠ .up → r.pace = 1 ∧ r.resolved = none) ∧
  (linked r = false → r.sendList = [] ∧ r.silence = none ∧ r.rx = none) ∧
  r.babbleTimes.length ≤ 2 ∧ r.babbleCount ≤ 255 ∧
  (r.link = .introducing → ∀ f ∈ r.sendList, f = .profileSeen false ∨ ∃ paces, f = .profile paces) ∧
  (r.link = .up → ∀ f ∈ r.sendList, f = .profileSeen true ∨
    ∃ k, frameFor f = some k ∧ r.profile.map DevProfile.kind = some k)

/-- Every port record is in order. -/
def PortsOk (s : State) : Prop := ∀ p : PortNo, PortOk s.ports[p]

/-- A printer record (R42, R55): at most 12 jobs queue, and an ABSENT record holds nothing. -/
def PrinterOk (r : Printer) : Prop :=
  r.queue.length ≤ queueMax ∧
  (r.state = .absent → r.current = none ∧ r.suspended = none ∧ r.queue = [] ∧ r.page = none ∧ r.suspendPending = false ∧
    r.pageTimer = none ∧ r.reconnect = none ∧ r.hold = none)

/-- Every printer record is in order. -/
def PrintersOk (s : State) : Prop := ∀ p : PortNo, PrinterOk s.printers[p]

/-- Every job stands in the one place its state names (R32, R42): a WAITING job in its printer's queue, a PRINTING job as
its printer's current job, a SUSPENDED job in its suspended slot, a FREE job in none, and none is left ENDED. A
suspend-pending flag stands only over a current job beside an empty suspended slot (R65), and an IDLE printer has no
current job (R63). -/
def JobsOk (s : State) : Prop :=
  (∀ j : JobNo, match s.jobs[j].state with
    | .free => True
    | .waiting => j ∈ s.printers[s.jobs[j].port].queue
    | .printing => s.printers[s.jobs[j].port].current = some j
    | .suspended => s.printers[s.jobs[j].port].suspended = some j
    | .ended => False) ∧
  ∀ p : PortNo,
    (∀ j ∈ s.printers[p].queue, s.jobs[j].state = .waiting ∧ s.jobs[j].port = p) ∧
    (∀ j, s.printers[p].current = some j → s.jobs[j].state = .printing ∧ s.jobs[j].port = p) ∧
    (∀ j, s.printers[p].suspended = some j → s.jobs[j].state = .suspended ∧ s.jobs[j].port = p) ∧
    s.printers[p].queue.Nodup ∧
    (s.printers[p].suspendPending = true → s.printers[p].current ≠ none ∧ s.printers[p].suspended = none) ∧
    (s.printers[p].state = .idle → s.printers[p].current = none)

/-- A live job's blocks are COMMITTED to it, each listed once (R26). -/
def BlocksOk (s : State) : Prop :=
  ∀ j : JobNo, s.jobs[j].state ≠ .free → s.jobs[j].blocks.Nodup ∧ ∀ b ∈ s.jobs[j].blocks, s.blocks[b] = .committed j

/-- The settings lie within the limits of the requests that store them (R8, R44, R87, R148). -/
def SettingsOk (s : State) : Prop :=
  (∀ st : StationNo, s.stations[st].quota ≤ quotaMax) ∧
  ∀ p : PortNo,
    5 ≤ s.printerSet[p].pageTimeout ∧ s.printerSet[p].pageTimeout ≤ 255 ∧ s.printerSet[p].reconnectWindow ≤ 255 ∧
    5 ≤ s.scannerSet[p].defaultHold ∧ s.scannerSet[p].defaultHold ≤ s.scannerSet[p].maximumHold ∧
    s.scannerSet[p].maximumHold ≤ 600 ∧ s.scannerSet[p].repeatWindow ≤ 10 ∧ s.ports[p].advertised ≠ 0

/-! ### Words of the statements -/

/-- The Request Unit serves card `c` with a request of kind `k` (R160–R162). -/
def Serving (k : RequestKind) (c : CardNo) (s : State) : Prop :=
  s.serving = some c ∧ requestKind? (cardByte s c 1) = some k

/-- The command of a request's owning block (R161, R162). -/
def requestRow : RequestKind → Instr
  | .reserve => .reserve
  | .unreserve => .unreserve
  | .submit => .submit
  | .cancelJob => .cancelJob
  | .clearPrinter => .clearPrinter
  | .claim => .claim
  | .release => .release
  | .setPermits => .setPermits
  | .setService => .setService
  | .setQuota => .setQuota
  | .setPrinter => .setPrinter
  | .setScanner => .setScanner
  | .setZone => .setZone
  | .clearZone => .clearZone
  | .setPort => .setPort
  | .ackPort => .ackPort
  | .quiet => .quiet
  | .wake => .wake

/-- The commands that carry a host write; what the write does is settled by its address (R151, log 17). -/
def hostWrites (w : HostWrite) : List Instr :=
  [.run w, .softReset w, .registerWriteDiscarded w, .noticeWrite w, .noticeMaskWrite w, .hostWrite w, .poolBlockWrite w,
   .cardByteWrite w, .cardStateWrite w, .takenMarkWrite w]

/-- The value a host write hands to a 16-bit word that reads `cur`: the word written, or the byte written beside the other
byte of the word as it reads (R151, R153). -/
def handedValue (cur : Nat) : HostWrite → Nat
  | .word _ v => v.toNat
  | .byte a v => if a.toNat % 2 = 0 then cur / 256 * 256 + v.toNat else cur % 256 + 256 * v.toNat

/-- The command is a host write to PART CONTROL that carries 1 in a bit: RUN is bit 0, SOFT RESET bit 1 (R177). -/
def WritesControl (bit : Nat) (i : Instr) (s : State) : Prop :=
  ∃ w, i ∈ hostWrites w ∧ 0xFFF8 ≤ w.address ∧ w.address < 0xFFFA ∧
    (handedValue (partControl s).toNat w).testBit bit = true

/-- Card `c` carries the answer and is ANSWERED, its station's NOTICE bit is set, and the Request Unit is IDLE (R163). -/
def AnswerStands (c : CardNo) (a : Answer) (t : State) : Prop :=
  t.serving = none ∧ t.cards[c] = .answered ∧ cardByte t c 4 = outcomeCode a.outcome ∧
  cardByte t c 5 = byteOf a.detail ∧ cardHalf t c 6 = halfOfNat a.value ∧
  t.notice.getLsbD (cardStation c).val = true

/-- Every stored byte outside a set of addresses reads as before. -/
def MemoryKept (s t : State) (changed : Nat → Prop) : Prop :=
  ∀ a, ¬ changed a → readMem t.mem a = readMem s.mem a

/-- The address is one of a card's four answer bytes (R154). -/
def AnswerField (c : CardNo) (a : Nat) : Prop := cardAddress c + 4 ≤ a ∧ a < cardAddress c + 8

/-- The address lies in a station's ring (R153). -/
def InRing (st : StationNo) (a : Nat) : Prop := ringAddress st ≤ a ∧ a < ringAddress st + ringBytes

/-- The address lies in a pool block. -/
def InBlock (b : BlockNo) (a : Nat) : Prop := blockAddress b ≤ a ∧ a < blockAddress b + blockBytes

/-- What a request that was refused, or that changed nothing but its card, leaves: the answer, and everything else as it
was. -/
def OnlyAnswered (c : CardNo) (a : Answer) (s t : State) : Prop :=
  AnswerStands c a t ∧ MemoryKept s t (AnswerField c) ∧
  t = { s with
    mem := t.mem, cards := put s.cards c .answered, serving := none,
    notice := s.notice ||| stationBit (cardStation c) }

/-- A table of checks in their order, each with the answer it gives when it is the first to fail: that answer then stands in
the card, and nothing else has changed. -/
def FirstFailureAnswers (i : Instr) (c : CardNo) (s : State) : List (Prop × (Answer → Prop)) → Prop
  | [] => True
  | (check, gives) :: rest =>
    (¬ check → ∃ a t, gives a ∧ exec i s = .next t ∧ OnlyAnswered c a s t) ∧
    (check → FirstFailureAnswers i c s rest)

/-- A check whose answer is fixed. -/
def check (holds : Prop) (a : Answer) : Prop × (Answer → Prop) := (holds, fun x => x = a)

/-- A block list's entry at a place fails: it names no block RESERVED by the station, or one named at an earlier place
(R39). -/
def BadEntry (s : State) (st : StationNo) (entries : List Nat) (i : Nat) : Prop :=
  ∃ e, entries[i]? = some e ∧ ((∀ b : BlockNo, b.val = e → s.blocks[b] ≠ .reserved st) ∨ e ∈ entries.take i)

/-- The data offset at which page i of a job begins, pages counted from 0 (R35). -/
def pageStart (m : Memory) (bs : List BlockNo) : Nat → Nat
  | 0 => 0
  | i + 1 => pageStart m bs i + 4 + pageLength m bs (pageStart m bs i)

/-- The header of page i lies before the total length (R39). -/
def HeaderFits (m : Memory) (bs : List BlockNo) (total i : Nat) : Prop := pageStart m bs i + 4 ≤ total

/-- Page i is bad: its length is 0 or its finish above 2 (R39). -/
def BadPage (m : Memory) (bs : List BlockNo) (i : Nat) : Prop :=
  pageLength m bs (pageStart m bs i) = 0 ∨ 2 < (dataByte m bs (pageStart m bs i + 2)).toNat

/-- The walk passes page i (R39). -/
def PagePasses (m : Memory) (bs : List BlockNo) (total i : Nat) : Prop :=
  HeaderFits m bs total i ∧ ¬ BadPage m bs i ∧ pageStart m bs (i + 1) ≤ total

/-- The page walk over the block list fails with a FORMAT detail: the index of a bad page, or the page count when it ran out
of data or had data left (R39). -/
def WalkFails (m : Memory) (bs : List BlockNo) (total pages detail : Nat) : Prop :=
  (∃ i < pages, (∀ k < i, PagePasses m bs total k) ∧ ¬ PagePasses m bs total i ∧
    (HeaderFits m bs total i ∧ BadPage m bs i → detail = i) ∧
    (¬ (HeaderFits m bs total i ∧ BadPage m bs i) → detail = pages)) ∨
  ((∀ k < pages, PagePasses m bs total k) ∧ pageStart m bs pages ≠ total ∧ detail = pages)

/-! ### Words about the links -/

/-- The state after a valid group has restarted a port's silence timer (R132, R144). -/
def heard (p : PortNo) (s : State) : State :=
  { s with ports := put s.ports p { s.ports[p] with silence := some { start := s.time, length := 20 } } }

/-- The state after the SHUT of a frame that has no further effect: the silence timer restarted, and no frame being received
(R132, R133, R144). -/
def framed (p : PortNo) (s : State) : State :=
  { s with
    ports := put s.ports p { s.ports[p] with silence := some { start := s.time, length := 20 }, rx := none } }

/-- The notices handed to the owner of a kind for a port (R146). -/
def noticesOf (kind : DeviceKind) (p : PortNo) (s : State) : List PortNotice :=
  match kind with
  | .printer => s.toPrint[p]
  | .scanner => s.toScan[p]
  | .panel => s.toTouch[p]

/-- The symbol groups of a frame with these bytes between its OPEN and its SHUT (R132, R133). -/
def groupsOf (bytes : List Byte) : List Group := openGroup :: bytes.flatMap byteGroups ++ [shutGroup]

/-- The bytes of a frame of a kind and payload before its check (R133). -/
def frameBody (kind : Byte) (payload : List Byte) : List Byte := kind :: byteOf payload.length :: payload

/-- The four-bit values of a frame's data groups make a good frame of a kind and payload (R133, R134): the bytes of that frame,
the less significant half of each first, with a payload of at most 96 bytes and a check that brings the sum to 0. -/
def GoodFrame (frame : List (BitVec 4)) (kind : Byte) (payload : List Byte) : Prop :=
  payload.length ≤ 96 ∧ ∃ c0 c1 : Byte,
    frame = (frameBody kind payload ++ [c0, c1]).flatMap (fun b : Byte => [b.setWidth 4, (b >>> 4).setWidth 4]) ∧
    (kind.toNat + payload.length + (payload.map BitVec.toNat).sum + (c0.toNat + 256 * c1.toNat)) % 65536 = 0

/-- Symbol groups received on a port one after the other. -/
def receiveGroups (p : PortNo) : List Group → State → Out
  | [], s => .next s
  | g :: rest, s =>
    match exec (.symbolGroupReceived p g) s with
    | .next t => receiveGroups p rest t
    | .fault f => .fault f
    | .refused r => .refused r

/-- The command that stands for a good frame received whole, with its kind byte (R147, R189). -/
def frameCommands (p : PortNo) (payload : List Byte) : List (Instr × Byte) :=
  [(.profile p payload, 0x01), (.profileSeen p payload, 0x02), (.pageDone p payload, 0x18), (.pageFault p payload, 0x19),
   (.ready p payload, 0x1A), (.credit p payload, 0x1B), (.paper p payload, 0x1C), (.scan p payload, 0x28),
   (.touch p payload, 0x30)]

/-- An UP port with a device of a kind (R137). -/
abbrev UpWith (kind : DeviceKind) (p : PortNo) (s : State) : Prop :=
  s.ports[p].link = .up ∧ s.ports[p].profile.map DevProfile.kind = some kind

/-- The PAGE OPEN of a job's page at its restart point, as pages done stands (R58, R37). -/
def openFrame (s : State) (job : Job) : OutFrame :=
  .pageOpen (job.pagesDone + 1) (pageLength s.mem job.blocks job.restart) (dataByte s.mem job.blocks (job.restart + 2))
    (clampDensity (dataByte s.mem job.blocks (job.restart + 3)))

/-- The kind of device that sends a frame of a kind byte, and the least and the greatest payload length of such a frame
(R147, R189). -/
def deviceFrame? (kind : Byte) : Option (DeviceKind × Nat × Nat) :=
  if kind = 0x18 ∨ kind = 0x1B ∨ kind = 0x1C then some (.printer, 1, 1)
  else if kind = 0x19 then some (.printer, 2, 2)
  else if kind = 0x1A then some (.printer, 0, 0)
  else if kind = 0x28 then some (.scanner, 1, 96)
  else if kind = 0x30 then some (.panel, 1, 61)
  else none

/-- Status records given one after the other (R170). -/
def given (records : List (StationNo × Record)) (s : State) : State :=
  records.foldl (fun t r => giveStatus r.1 r.2 t) s

/-- The delivery states, the bytes of exchange memory and NOTICE stand as they do after the records given in `told`. -/
def Told (told t : State) : Prop := t.delivery = told.delivery ∧ t.mem = told.mem ∧ t.notice = told.notice

/-- Records were given as in `told`, and then card `c` was answered: beside its answer fields and its station's NOTICE bit the
delivery states, the memory and NOTICE stand as in `told` (R162). -/
def ToldThenAnswered (c : CardNo) (told t : State) : Prop :=
  t.delivery = told.delivery ∧ t.notice = told.notice ||| stationBit (cardStation c) ∧ MemoryKept told t (AnswerField c)

/-! ### Words about the printers -/

/-- The job a printer record chooses: an urgent queue head, else the suspended job, else any queue head (R63). -/
def nextJob? (s : State) (r : Printer) : Option JobNo :=
  match r.queue, r.suspended with
  | [], held => held
  | j :: _, none => some j
  | j :: _, some k => if rank s.jobs[j].cls < 2 then some j else some k

/-- The printer record after its choice (R63), apart from the page that a chosen job opens in RUNNING. -/
def chosenPrinter (p : PortNo) (s : State) : Printer :=
  let r := s.printers[p]
  match nextJob? s r with
  | none => { r with state := if s.printMode = .running then .idle else .quiesced }
  | some j =>
    { r with
      state := if s.printMode = .running then .sending else .quiesced
      current := some j
      queue := r.queue.filter (· ≠ j)
      suspended := if r.suspended = some j then none else r.suspended }

/-- The jobs after a printer's choice: the chosen one is PRINTING (R63). -/
def chosenJobs (p : PortNo) (s : State) : Vector Job 32 :=
  match nextJob? s s.printers[p] with
  | none => s.jobs
  | some j => put s.jobs j { s.jobs[j] with state := .printing }

/-- The PAGE DATA frames that carry a job's page at its restart point: `n` of them, from an offset in the page on (R59). -/
def dataFrames (s : State) (job : Job) (page start n : Nat) : List OutFrame :=
  (List.range n).map fun i =>
    .pageData job.serial page (start + 64 * i)
      (dataBytes s.mem job.blocks (job.restart + 4 + (start + 64 * i))
        (min 64 (pageLength s.mem job.blocks job.restart - (start + 64 * i))))

/-- From `s` to `t` a printer, whose record is otherwise `r`, opens a job's page at its restart point (R58): credits are the
window's, and the page is fed at once as far as they go, one PAGE DATA frame for each (R59); when all bytes have gone out the
page is closed and its timer runs (R60). The frames join the send list of an UP port with a printer (R136, log 20). -/
def PageOpened (p : PortNo) (job : Job) (r : Printer) (s t : State) : Prop :=
  let total := pageLength s.mem job.blocks job.restart
  let page := job.pagesDone + 1
  let frames := min r.window ((total + 63) / 64)
  let sent := min total (64 * frames)
  t.printers[p] =
    { r with
      page := some { page := page, stage := if sent = total then .closed else .data }
      sent := sent
      credits := r.window - frames
      pageTimer := if sent = total then some { start := s.time, length := s.printerSet[p].pageTimeout * 1000 } else none } ∧
  t.ports[p] =
    { s.ports[p] with
      sendList := s.ports[p].sendList ++
        if UpWith .printer p s then
          openFrame s job :: dataFrames s job page 0 frames ++ if sent = total then [.pageClose job.serial page] else []
        else [] }

/-- From `s` to `t` a printer without a current job chooses: in RUNNING it opens the chosen job's page; in QUIET, or without
a candidate, no page opens (R63). -/
def Chose (p : PortNo) (s t : State) : Prop :=
  match nextJob? s s.printers[p], s.printMode with
  | some j, .running => PageOpened p s.jobs[j] (chosenPrinter p s) s t
  | some _, .quiet | none, _ => t.printers[p] = chosenPrinter p s ∧ t.ports[p] = s.ports[p]

/-- From `s` to `t` listed blocks join the tail of the free list in the list's order (R18), where they are distinct and none
is FREE, as the blocks of live jobs are (`BlocksOk`). -/
def Joined (bs : List BlockNo) (s t : State) : Prop :=
  bs.Nodup → (∀ b ∈ bs, s.blocks[b] ≠ .free) → t.free = s.free ++ bs

/-- The blocks of a job are FREE and join the tail of the free list in the job's order, and its owner's holdings have fallen
by their number; no other block or station has changed (R18, R27, R51). -/
def Freed (job : Job) (s t : State) : Prop :=
  (∀ b ∈ job.blocks, t.blocks[b] = .free) ∧ (∀ b ∉ job.blocks, t.blocks[b] = s.blocks[b]) ∧ Joined job.blocks s t ∧
  ∀ st : StationNo, t.stations[st] =
    if job.owner = some st then { s.stations[st] with holdings := s.stations[st].holdings - job.blocks.length }
    else s.stations[st]

/-- The JOB ENDED records of jobs that end together, each for its owner if it has one (R51, R52). -/
def endedRecords (s : State) (reason : EndReason) (js : List JobNo) : List (StationNo × Record) :=
  js.filterMap fun j => s.jobs[j].owner.map fun st =>
    (st, .jobEnded j s.jobs[j].port s.jobs[j].serial s.jobs[j].pagesDone s.jobs[j].pageCount
      (if s.jobs[j].cancelPending then s.jobs[j].reason else reason))

/-- A printer record whose current job and page have gone (R51, R61, R65, R67; page bytes sent 0 by log 21). -/
def emptied (r : Printer) : Printer :=
  { r with current := none, page := none, sent := 0, credits := 0, pageTimer := none, suspendPending := false }

/-! ### Words about the scanners -/

/-- The scanner record after its claim has ended and the head waiter, if any, has been granted the scanner (R85, R92). -/
def passedOn (why : ClaimEnd) (claim : Claim) (now : Time) (r : Scanner) : Scanner :=
  match r.queue with
  | [] => { r with state := .free, lastEnd := some (why, claim.serial) }
  | w :: rest =>
    { r with
      state := .held
        { holder := w.station, hold := w.hold, idle := { start := now, length := w.hold * 1000 }, count := w.count
          serial := r.grants + 1 }
      queue := rest, grants := r.grants + 1, lastEnd := some (why, claim.serial) }

/-- The CLAIM GRANTED that the head waiter is given when the scanner is passed on (R92). -/
def grantRecords (p : PortNo) (r : Scanner) : List (StationNo × Record) :=
  r.queue.head?.toList.map fun w => (w.station, .claimGranted p (r.grants + 1) w.hold w.count)

/-- The records given when a scanner is torn down: CLAIM ENDED to the holder, then to each waiter from the head to the tail
(R99, R100). -/
def teardownRecords (p : PortNo) (why : ClaimEnd) (r : Scanner) : List (StationNo × Record) :=
  (match r.state with
   | .held claim => [(claim.holder, .claimEnded p false claim.serial why)]
   | .free | .absent => []) ++
  r.queue.map fun w => (w.station, .claimEnded p true 0 why)

/-- The scanner record after a station has lost its claim or its wait there: its permit for the port withdrawn, or the
station retired (R6, R13). -/
def withdrawn (why : ClaimEnd) (st : StationNo) (now : Time) (r : Scanner) : Scanner :=
  match r.state with
  | .held claim =>
    if claim.holder = st then passedOn why claim now r
    else { r with queue := r.queue.filter fun w => w.station ≠ st }
  | .free | .absent => r

/-- The records given when a permit is withdrawn (R6). -/
def withdrawalRecords (st : StationNo) (p : PortNo) (r : Scanner) : List (StationNo × Record) :=
  match r.state with
  | .held claim =>
    if claim.holder = st then (st, .claimEnded p false claim.serial .permitWithdrawn) :: grantRecords p r
    else if st ∈ r.queue.map Wait.station then [(st, .claimEnded p true 0 .permitWithdrawn)]
    else []
  | .free | .absent => []

/-! ### Words about a retirement -/

/-- The station's WAITING and SUSPENDED jobs, which its retirement ends first, in ascending number (R12). -/
def idleJobs (st : StationNo) (s : State) : List JobNo :=
  (List.finRange 32).filter fun j =>
    s.jobs[j].owner = some st && (s.jobs[j].state = .waiting || s.jobs[j].state = .suspended)

/-- The station's PRINTING jobs that its retirement ends at once: the printer is not SENDING, nor QUIESCED with a page in
flight (R12; in ascending number, log 11). -/
def stoppedJobs (st : StationNo) (s : State) : List JobNo :=
  (List.finRange 32).filter fun j =>
    s.jobs[j].owner = some st && s.jobs[j].state = .printing &&
      !(s.printers[s.jobs[j].port].state = .sending ||
        s.printers[s.jobs[j].port].state = .quiesced && s.printers[s.jobs[j].port].page.isSome)

/-- The jobs after steps 3 and 4 of a retirement, before any printer chooses (R12). -/
def retiredJobs (st : StationNo) (s : State) : Vector Job 32 :=
  Vector.ofFn fun j =>
    if j ∈ idleJobs st s then
      { s.jobs[j] with state := .free, reason := if s.jobs[j].cancelPending then s.jobs[j].reason else .retired }
    else if s.jobs[j].owner = some st ∧ s.jobs[j].state = .printing then
      { s.jobs[j] with
        state := if j ∈ stoppedJobs st s then .free else .printing, owner := none, cancelPending := true
        reason := .retired }
    else s.jobs[j]

/-- A printer record after steps 3 and 4 of a retirement, before it chooses: the ended jobs have left it (R12, R51, R65). -/
def retiredPrinter (st : StationNo) (s : State) (r : Printer) : Printer :=
  { r with
    queue := r.queue.filter (· ∉ idleJobs st s)
    suspended := r.suspended.filter (· ∉ idleJobs st s)
    current := r.current.filter (· ∉ stoppedJobs st s)
    suspendPending := r.suspendPending && r.current.all (· ∉ stoppedJobs st s) }

/-- The blocks that a retirement frees, in the order in which they join the free list (R11, R12, R18). -/
def retiredBlocks (st : StationNo) (s : State) : List BlockNo :=
  ((List.finRange 96).filter fun b => s.blocks[b] = .reserved st) ++
    (idleJobs st s ++ stoppedJobs st s).flatMap fun j => s.jobs[j].blocks

/-- The CLAIM GRANTED records of a retirement: a head waiter is granted each scanner that the station held, in ascending port
order (R13). -/
def retirementGrants (st : StationNo) (s : State) : List (StationNo × Record) :=
  (List.finRange 8).flatMap fun p => if holds s.scanners[p] st then grantRecords p s.scanners[p] else []

/-! ### Words about what the host reads -/

/-- The two bytes at an address as a 16-bit value, the less significant first (R182). -/
def hostHalf (s : State) (a : Nat) : Half := halfOf (s.readByte a) (s.readByte (a + 1))

/-! ### Words about contacts and the flush -/

/-- The state after a contact record has been ended without a lift: a live one ends with CANCEL, written where it can be and
the record freed, or held and the record closing; a suppressed or ignored one is freed (R113, R114, R119, R122, R123). -/
def cancelled (s : State) (n : ContactNo) : State :=
  match s.contacts[n] with
  | none => s
  | some c =>
    match c.cond with
    | .live b _ =>
      let r := Record.touch .cancel c.port c.id n b.zone b.last.pos
      if canWrite s b.station r = true then
        { writeRecord b.station r (s.time.setWidth 16) s with contacts := put s.contacts n none }
      else { s with contacts := put s.contacts n (some { c with cond := .closing b .cancel }) }
    | .closing _ _ => s
    | .suppressed _ _ | .ignored _ => { s with contacts := put s.contacts n none }

/-- The contact records of some ports ended in ascending contact number (R122, R123). -/
def cancelAll (which : PortNo → Bool) (s : State) : State :=
  ((List.finRange 32).filter fun n => s.contacts[n].any fun c => which c.port).foldl cancelled s

/-- An item held for a station: the record, its stamp, and for an end or a move of a contact that contact's record once it
is written (R121, R172). -/
structure Held where
  record : Record
  stamp : Half
  contact : Option (ContactNo × Option Contact)
  deriving DecidableEq, Repr

/-- The pending end of a station's closing record (R113, R121; the stamps by log 10). -/
def pendingEnd? (st : StationNo) (n : ContactNo) : Option Contact → Option Held
  | some { port := p, id := id, cond := .closing b e } =>
    if b.station = st then
      match e with
      | .up spot => some
        { record := .touch .up p id n b.zone spot.pos, stamp := spot.stamp, contact := some (n, none) }
      | .cancel => some
        { record := .touch .cancel p id n b.zone b.last.pos, stamp := b.last.stamp, contact := some (n, none) }
    else none
  | _ => none

/-- The pending ends of a station, in ascending contact number (R121). -/
def pendingEnds (st : StationNo) (s : State) : List Held :=
  (List.finRange 32).filterMap fun n => pendingEnd? st n s.contacts[n]

/-- The pending move of a station's live record (R118, R121). -/
def pendingMove? (st : StationNo) (n : ContactNo) : Option Contact → Option Held
  | some { port := p, id := id, cond := .live b (some spot) } =>
    if b.station = st then
      some { record := .touch .move p id n b.zone spot.pos, stamp := spot.stamp
             contact := some (n, some { port := p, id := id, cond := .live { b with last := spot } none }) }
    else none
  | _ => none

/-- The pending moves of a station, in ascending contact number (R121). -/
def pendingMoves (st : StationNo) (s : State) : List Held :=
  (List.finRange 32).filterMap fun n => pendingMove? st n s.contacts[n]

/-- All that is held for a station, in the order of a flush (R172). -/
def heldItems (st : StationNo) (s : State) : List Held :=
  (s.delivery[st].owed.map fun o => { record := o.record, stamp := o.stamp, contact := none }) ++
    pendingEnds st s ++ pendingMoves st s

/-- A held item written: an owed record leaves the queue, a contact takes its new record (R121, R169, R172). -/
def writeHeld (st : StationNo) (x : Held) (s : State) : State :=
  let t := writeRecord st x.record x.stamp s
  match x.contact with
  | none => { t with delivery := put t.delivery st { t.delivery[st] with owed := t.delivery[st].owed.tail } }
  | some (n, c) => { t with contacts := put t.contacts n c }

/-- From `s` to `t` the held items are offered one after another: each that fits is written, and the first that does not ends
the flush (R172). -/
def Flushed (st : StationNo) : List Held → State → State → Prop
  | [], s, t => t = s
  | x :: rest, s, t =>
    (fits s.delivery[st] (recordLength x.record) = true → Flushed st rest (writeHeld st x s) t) ∧
    (fits s.delivery[st] (recordLength x.record) = false → t = s)

/-- A TOUCH frame of entries of six bytes each (R189). -/
def touchFrameOf (entries : List (List Byte)) : List Byte := byteOf entries.length :: entries.flatten

/-- A TOUCH frame of one entry (R189). -/
def oneTouch (id : ContactId) (phase x y : Nat) : List Byte :=
  [1, byteOf id.val, byteOf phase] ++ halfBytes (halfOfNat x) ++ halfBytes (halfOfNat y)

end Sys2Proof.Safety
end

