-- ==== Sys2Proof/Certificates/Slice0/Obligations.lean ====
section
/-! DEFINITION. The statements for the provers: what each command does, the laws every step keeps, and the rules of the
spec that hold of the whole part. -/

open Sys2Proof Sys2Proof.Machine Sys2Proof.Safety

/-! ### The step, and what no command does -/

/-- A step runs the front command on the state with the queue's rest; an empty queue changes nothing (log 1). -/
def Obligations.StepRunsFrontCommand : Prop :=
  (∀ (c : Instr) (q : List Instr) (s : State), s.pending = c :: q → step s = exec c (s.withPending q)) ∧
  ∀ s : State, s.pending = [] → step s = .next s

/-- Every command completes in every state, and no command touches the queue (INVENTORY.md, Faults; log 1). -/
def Obligations.EveryCommandCompletes : Prop :=
  ∀ (i : Instr) (s : State), ∃ t, exec i s = .next t ∧ t.pending = s.pending

/-- R177: only a write of RUN to PART CONTROL starts a STOPPED part, and only a full reset stops it again. R178–R180: it enters
QUIET from RUNNING by a QUIET request alone, and leaves it for RUNNING by a WAKE, a wake-touch report or a write of SOFT RESET,
which leaves every card EMPTY. R176: the timebase advances by 1 at each tick, which changes nothing else, and is changed by
nothing else but a full reset. R184: outside the two resets, a job, station or pool entry's change count rises by 1 exactly
when what it shows changes, and a port entry's when it does; where a rule rewrites a port entry that shows the same, it rises
by 1 too (the model's choice, log 4). -/
def Obligations.PartStateAndTimebase : Prop :=
  (∀ (i : Instr) (s t : State), exec i s = .next t →
     (s.part ≠ .stopped → t.part = .stopped → i = .fullReset) ∧
     (s.part = .stopped → t.part = .stopped ∨ t.part = .running ∧ WritesControl 0 i s) ∧
     (t.part = .quiet → s.part ≠ .quiet → i = .quiet ∧ s.part = .running) ∧
     (s.part = .quiet → t.part = .running →
       i = .wake ∨ i = .wakeTouch ∨ WritesControl 1 i s ∧ t.cards = Vector.replicate 32 .empty)) ∧
  (∀ s : State, exec .millisecondTick s = .next { s with time := s.time + 1 }) ∧
  (∀ (i : Instr) (s t : State), exec i s = .next t → i ≠ .millisecondTick → i ≠ .fullReset → t.time = s.time) ∧
  ∀ (i : Instr) (s t : State), exec i s = .next t → i ≠ .fullReset → ¬ WritesControl 1 i s →
    (∀ j : JobNo, t.jobCount[j] = if jobItems t.jobs[j] = jobItems s.jobs[j] then s.jobCount[j] else s.jobCount[j] + 1) ∧
    (∀ st : StationNo, t.stationCount[st] =
      if stationItems t st = stationItems s st then s.stationCount[st] else s.stationCount[st] + 1) ∧
    (t.poolCount = if poolItems t = poolItems s then s.poolCount else s.poolCount + 1) ∧
    ∀ p : PortNo, (portItems t p ≠ portItems s p → t.portCount[p] = s.portCount[p] + 1) ∧
      (t.portCount[p] = s.portCount[p] ∨ t.portCount[p] = s.portCount[p] + 1)

/-- Configuration changes by the requests that set it and by a full reset alone (R1, R5, R8, R9, R44, R87, R103, R137), and
the acceptance counter by SUBMIT (R34). -/
def Obligations.ConfigurationChangesByItsRequests : Prop :=
  ∀ (i : Instr) (s t : State), exec i s = .next t → i ≠ .fullReset →
    (i ≠ .setPermits → ∀ st : StationNo, t.stations[st].permits = s.stations[st].permits) ∧
    (i ≠ .setQuota → ∀ st : StationNo, t.stations[st].quota = s.stations[st].quota) ∧
    (i ≠ .setService → ∀ st : StationNo, t.stations[st].service = s.stations[st].service) ∧
    (i ≠ .setPrinter → t.printerSet = s.printerSet) ∧
    (i ≠ .setScanner → t.scannerSet = s.scannerSet) ∧
    (i ≠ .setZone → i ≠ .clearZone → t.zones = s.zones) ∧
    (i ≠ .setPort → ∀ p : PortNo, t.ports[p].advertised = s.ports[p].advertised) ∧
    (i ≠ .submit → t.acceptance = s.acceptance)

/-! ### Invariants every step keeps -/

/-- After a full reset the memory form, the ring law, the service states, the free list, the card lists, the claim queues, the
zone table, the port records, the printer records, the job places and blocks, the settings' limits and the contact keys all
hold. -/
def Obligations.ResetMeetsTheInvariants : Prop :=
  MemoryOk State.reset ∧ RingsOk State.reset ∧ ServiceOk State.reset ∧ PoolOk State.reset ∧ CardsOk State.reset ∧
  ScannersOk State.reset ∧ ZonesOk State.reset ∧ PortsOk State.reset ∧ PrintersOk State.reset ∧ JobsOk State.reset ∧
  SettingsOk State.reset ∧ KeysOk State.reset ∧ BlocksOk State.reset

/-- The memory list keeps its canonical form (log 3; the form is the model's). -/
def Obligations.StepKeepsMemoryCanonical : Prop :=
  ∀ s t : State, MemoryOk s → step s = .next t → MemoryOk t

/-- R166: a ring's marks stay multiples of 8 in 0..1784, its used bytes never exceed 1784, and at most 16 records are owed;
and R14, R166: station 0 stays IN SERVICE and a ring is frozen exactly while its station is OUT OF SERVICE. -/
def Obligations.StepKeepsRingsInOrder : Prop :=
  (∀ s t : State, RingsOk s → step s = .next t → RingsOk t) ∧
  ∀ s t : State, ServiceOk s → step s = .next t → ServiceOk t

/-- R18: the free list holds exactly the FREE blocks, each once. R155, R159, R160: a card stands in the posting list exactly
while POSTED, once, and is TAKEN exactly while served. -/
def Obligations.StepKeepsTheLists : Prop :=
  (∀ s t : State, PoolOk s → step s = .next t → PoolOk t) ∧
  ∀ s t : State, CardsOk s → step s = .next t → CardsOk t

/-- R82, R84: claim queues hold at most four stations, each once, never the holder, and none unless HELD. R104, R105, R8, R44,
R87, R137: zones stay within their limits and never overlap on a port, and settings stay within theirs. R109: at most one
contact record holds a key. -/
def Obligations.StepKeepsClaimsAndLimits : Prop :=
  (∀ s t : State, ScannersOk s → step s = .next t → ScannersOk t) ∧
  (∀ s t : State, ZonesOk s → step s = .next t → ZonesOk t) ∧
  (∀ s t : State, SettingsOk s → step s = .next t → SettingsOk t) ∧
  ∀ s t : State, KeysOk s → step s = .next t → KeysOk t

/-- R135–R144: a port record's introduction items are present exactly while INTRODUCING; its pace is 1 and its resolved pace
none unless UP; it has nothing to send, no silence timer and no frame being received unless INTRODUCING or UP; an INTRODUCING
port sends the frames of the introduction alone, and an UP one, after the last PROFILE SEEN, the frames for its device's kind
alone, so that a panel is sent nothing but FILL; it keeps at most two babble times and a babble count of at most 255. That an
UP port's list never holds a page frame or a VERDICT for a device of another kind, even while the old device's loss still
waits to be taken, is the model's choice (log 20). -/
def Obligations.StepKeepsPortRecords : Prop :=
  ∀ s t : State, PortsOk s → step s = .next t → PortsOk t

/-- R32, R42, R55: every job stays in the one place its state names, queues hold at most 12 jobs, and an ABSENT printer holds
nothing. R26, R18: a live job's blocks stay COMMITTED to it, each listed once, where the free list holds the FREE blocks
alone. -/
def Obligations.StepKeepsJobsInPlace : Prop :=
  (∀ s t : State, JobsOk s → PrintersOk s → step s = .next t → JobsOk t ∧ PrintersOk t) ∧
  ∀ s t : State, JobsOk s → PoolOk s → BlocksOk s → step s = .next t → BlocksOk t

/-! ### Resets and host writes -/

/-- FULL_RESET (R176, and R3, R19, R44, R53, R55, R83, R87, R137, R165, R166, R183): the part is STOPPED at timebase 0 with
NOTICE and NOTICE MASK 0 and no interrupt; the identification reads as given; every card, ring and pool byte, the taken marks and the
write marks read 0; every card is EMPTY, the posting list empty and the Request Unit IDLE; stations, free list, jobs, printers
and their queues, scanners and their queues, ports with their resolved pace and babble items, zones, contacts, settings and
rings take their reset values, and every change count is 0. That no notice waits for a block is DEDUCED (log 2). -/
def Obligations.FullResetValues : Prop :=
  ∀ s : State, ∃ t, exec .fullReset s = .next t ∧ t.pending = s.pending ∧
    t.part = .stopped ∧ t.wake = .none ∧ t.time = 0 ∧ t.notice = 0 ∧ t.noticeMask = 0 ∧ t.interrupt = false ∧
    t.readWord 0x0000 = 0x1B4C ∧ t.readWord 0x0002 = 0x0816 ∧ t.readByte 0x0004 = 0x03 ∧
    (∀ a, 0x1000 ≤ a → a < 0x9000 → (a - 0x1000) % 0x800 < 8 ∨ 0x40 ≤ (a - 0x1000) % 0x800 → t.readByte a = 0) ∧
    (∀ a, 0x9000 ≤ a → a < 0xFFF8 → t.readByte a = 0) ∧
    (∀ st : StationNo, t.stations[st] = { service := .inService, permits := 0xFF, quota := 32, holdings := 0 }) ∧
    (∀ c : CardNo, t.cards[c] = .empty) ∧ t.posting = [] ∧ t.serving = none ∧
    t.printMode = .running ∧ t.scanMode = .running ∧ t.touchMode = .running ∧
    t.quietPrint = [] ∧ t.quietScan = [] ∧ t.quietTouch = [] ∧ t.wakeReports = [] ∧
    t.free = List.finRange 96 ∧ (∀ b : BlockNo, t.blocks[b] = .free) ∧
    (∀ j : JobNo, t.jobs[j].state = .free ∧ t.jobs[j].owner = none ∧ t.jobs[j].serial = 0 ∧ t.jobs[j].pagesDone = 0 ∧
      t.jobs[j].pageCount = 0 ∧ t.jobs[j].suspensions = 0 ∧ t.jobs[j].cancelPending = false ∧
      t.jobs[j].reason = .completed) ∧ t.acceptance = 0 ∧
    (∀ p : PortNo, t.printers[p].state = .absent ∧ t.printers[p].current = none ∧ t.printers[p].suspended = none ∧
      t.printers[p].queue = [] ∧ t.printers[p].suspendPending = false ∧ t.printers[p].page = none ∧
      t.printers[p].credits = 0 ∧ t.printers[p].pageTimer = none ∧ t.printers[p].reconnect = none ∧
      t.printers[p].hold = none ∧ t.printers[p].paperLow = false ∧
      t.scanners[p].queue = [] ∧ t.scanners[p].lastCode = none ∧ t.panels[p] = none ∧
      t.ports[p].resolved = none ∧ t.ports[p].pace = 1 ∧ t.ports[p].babbleCount = 0 ∧ t.ports[p].babbleTimes = [] ∧
      t.ports[p].intro = none ∧ t.ports[p].silence = none ∧ t.ports[p].sendList = [] ∧
      t.toPrint[p] = [] ∧ t.toScan[p] = [] ∧ t.toTouch[p] = [] ∧
      t.printerSet[p] = { pageTimeout := 60, reconnectWindow := 30, suspendAllowed := true } ∧
      t.scanners[p].state = .absent ∧ t.scanners[p].grants = 0 ∧ t.scanners[p].lastEnd = none ∧
      t.scannerSet[p] = { defaultHold := 30, maximumHold := 120, defaultStation := none, repeatWindow := 2 } ∧
      t.ports[p].link = .down ∧ t.ports[p].advertised = 0xF ∧ t.ports[p].lost = false ∧ t.ports[p].profile = none) ∧
    (∀ z : ZoneNo, t.zones[z] = none) ∧ (∀ n : ContactNo, t.contacts[n] = none) ∧
    (∀ st : StationNo, t.delivery[st] = { w := 0, t := 0, seq := 0, gap := false, owed := [], frozen := false }) ∧
    (∀ p : PortNo, t.portCount[p] = 0) ∧ (∀ j : JobNo, t.jobCount[j] = 0) ∧
    (∀ st : StationNo, t.stationCount[st] = 0) ∧ t.poolCount = 0

/-- RUN (R177, R151): without SOFT RESET, RUN written 1 starts a STOPPED part and nothing else has an effect. A byte write
of the low byte acts by its bits; one of the high byte changes nothing. -/
def Obligations.RunStartsAStoppedPart : Prop :=
  (∀ (a v : Half) (s : State), a = 0xFFF8 ∨ a = 0xFFF9 → v.getLsbD 1 = false →
    exec (.run (.word a v)) s =
      .next (if v.getLsbD 0 = true ∧ s.part = .stopped then { s with part := .running } else s)) ∧
  (∀ (v : Byte) (s : State), v.getLsbD 1 = false →
    exec (.run (.byte 0xFFF8 v)) s =
      .next (if v.getLsbD 0 = true ∧ s.part = .stopped then { s with part := .running } else s)) ∧
  ∀ (v : Byte) (s : State), exec (.run (.byte 0xFFF9 v)) s = .next s

/-- SOFT_RESET (R178, with R3, R19, R53, R81, R102, R124, R165, R166, R174, R175), by a word write to PART CONTROL or a write
of its low byte with SOFT RESET 1: memory reads 0, cards, posting list, blocks, claims, contacts, rings, NOTICE and NOTICE
MASK are cleared, live jobs end SOFT RESET, printers become IDLE or ABSENT, a page in flight on a port UP with a printer is
abandoned (with another kind of device, the model's choice, log 20), QUIET becomes RUNNING, a STOPPED part stays so unless
the write carries RUN too, and the change counts are 0; settings, permits, quotas, service states, zones, serials, counters,
ports, the wake cause and the timebase are kept, and so are the panels' contact limits and the notices of losses and arrivals,
since the links are not disturbed (R150). Paper-low is kept in a record that becomes IDLE and is no in one that becomes ABSENT
(R77). That page bytes sent is 0 (log 21), and that QUIET notices not yet taken are dropped while wake-touch reports and the
notices of losses and arrivals are kept (log 15), is the model's choice. -/
def Obligations.SoftResetTearsDown : Prop :=
  ∀ (w : HostWrite) (s : State),
    (∃ a v, w = .word a v ∧ (a = 0xFFF8 ∨ a = 0xFFF9) ∧ v.getLsbD 1 = true) ∨
      (∃ v, w = .byte 0xFFF8 v ∧ v.getLsbD 1 = true) →
    ∃ t, exec (.softReset w) s = .next t ∧
      (∀ a, readMem t.mem a = 0) ∧ (∀ c : CardNo, t.cards[c] = .empty) ∧ t.posting = [] ∧ t.serving = none ∧
      (∀ st : StationNo, t.stations[st] = { s.stations[st] with holdings := 0 }) ∧
      (∀ b : BlockNo, t.blocks[b] = .free) ∧ t.free = List.finRange 96 ∧
      (∀ j : JobNo, t.jobs[j] =
        if s.jobs[j].state = .free then s.jobs[j] else { s.jobs[j] with state := .free, reason := .softReset }) ∧
      t.acceptance = s.acceptance ∧
      (∀ p : PortNo, t.printers[p].state =
          (if s.printers[p].state = .absent ∨ s.printers[p].state = .detached then .absent else .idle) ∧
        t.printers[p].current = none ∧ t.printers[p].suspended = none ∧ t.printers[p].queue = [] ∧
        t.printers[p].suspendPending = false ∧ t.printers[p].page = none ∧ t.printers[p].credits = 0 ∧
        t.printers[p].hold = none ∧ t.printers[p].pageTimer = none ∧ t.printers[p].reconnect = none ∧
        t.printers[p].sent = 0 ∧ t.printers[p].window = s.printers[p].window ∧
        t.printers[p].paperLow =
          if s.printers[p].state = .absent ∨ s.printers[p].state = .detached then false else s.printers[p].paperLow) ∧
      t.printerSet = s.printerSet ∧
      (∀ p : PortNo, t.scanners[p].state = (if s.scanners[p].state = .absent then .absent else .free) ∧
        t.scanners[p].queue = [] ∧ t.scanners[p].grants = s.scanners[p].grants ∧ t.scanners[p].lastCode = none ∧
        t.scanners[p].lastEnd = none) ∧
      t.scannerSet = s.scannerSet ∧ t.zones = s.zones ∧ (∀ n : ContactNo, t.contacts[n] = none) ∧
      (∀ st : StationNo, t.delivery[st] =
        { w := 0, t := 0, seq := 0, gap := false, owed := [], frozen := s.delivery[st].frozen }) ∧
      t.notice = 0 ∧ t.noticeMask = 0 ∧
      (∀ p : PortNo, t.ports[p] = { s.ports[p] with sendList := t.ports[p].sendList } ∧
        t.ports[p].sendList = s.ports[p].sendList ++
          (match s.printers[p].page with
           | some pg => if UpWith .printer p s then [.pageAbandon pg.page] else []
           | none => [])) ∧
      (s.part = .quiet ∨ s.part = .running → t.part = .running) ∧
      (s.part = .stopped →
        t.part = if (handedValue 0 w).testBit 0 = true then .running else .stopped) ∧
      t.wake = s.wake ∧ t.time = s.time ∧ t.pending = s.pending ∧
      t.printMode = .running ∧ t.scanMode = .running ∧ t.touchMode = .running ∧
      (∀ p : PortNo, t.portCount[p] = 0) ∧ (∀ j : JobNo, t.jobCount[j] = 0) ∧
      (∀ st : StationNo, t.stationCount[st] = 0) ∧ t.poolCount = 0 ∧
      t.panels = s.panels ∧ t.toPrint = s.toPrint ∧ t.toScan = s.toScan ∧ t.toTouch = s.toTouch ∧
      t.wakeReports = s.wakeReports ∧ t.quietPrint = [] ∧ t.quietScan = [] ∧ t.quietTouch = [] ∧
      t.openCount = s.openCount

/-- HOST_WRITE, REGISTER_WRITE_DISCARDED and POOL_BLOCK_WRITE (R151, R153, R24): a discarded write leaves no trace; a write to
the pool is accepted in a RESERVED block, where the bytes take the written values, and discarded in a FREE or COMMITTED
one. -/
def Obligations.DiscardedAndGuardedWrites : Prop :=
  (∀ (w : HostWrite) (s : State), WellFormed (.hostWrite w) = true → exec (.hostWrite w) s = .next s) ∧
  (∀ (w : HostWrite) (s : State), WellFormed (.registerWriteDiscarded w) = true →
    exec (.registerWriteDiscarded w) s = .next s) ∧
  ∀ (w : HostWrite) (s : State) (b : BlockNo), MemoryOk s → WellFormed (.poolBlockWrite w) = true →
    b.val = (w.address - 0x9000) / 256 →
    (∀ st, s.blocks[b] = .reserved st → ∃ t, exec (.poolBlockWrite w) s = .next t ∧ t = { s with mem := t.mem } ∧
      ∀ x, readMem t.mem x =
        match w with
        | .byte a v => if x = a.toNat then v else readMem s.mem x
        | .word a v =>
          if x = a.toNat / 2 * 2 then v.setWidth 8
          else if x = a.toNat / 2 * 2 + 1 then (v >>> 8).setWidth 8
          else readMem s.mem x) ∧
    ((∀ st, s.blocks[b] ≠ .reserved st) → exec (.poolBlockWrite w) s = .next s)

/-- NOTICE_WRITE and NOTICE_MASK_WRITE (R151, R174, R175): a write to NOTICE clears each bit written as 1, a byte write in
its own byte alone; a write to NOTICE MASK stores the value, a byte write its own byte; and the interrupt line is
asserted exactly while some station's bit is set in both. What the host reads (R183–R185): the identification, the port, job,
station and pool mirrors with their change counts, the station headers with their status copies, and the registers, every
field at its offset and 00H beside them; in a card its state's code (R155) and the bytes behind it, in a ring and in the pool
the bytes as they stand (R151, R153, R154, R24), in the unmapped range 00H; and in a word the byte at the even address and,
above it, the next. That a field of an absent item, other than a station's or a job's number, reads 00H
is DEDUCED (log 7). -/
def Obligations.NoticeRegistersAndInterrupt : Prop :=
  (∀ (a v : Half) (s : State), a = 0xFFFC ∨ a = 0xFFFD →
    exec (.noticeWrite (.word a v)) s = .next { s with notice := s.notice &&& ~~~v }) ∧
  (∀ (v : Byte) (s : State),
    exec (.noticeWrite (.byte 0xFFFC v)) s = .next { s with notice := s.notice &&& ~~~(v.setWidth 16) } ∧
    exec (.noticeWrite (.byte 0xFFFD v)) s = .next { s with notice := s.notice &&& ~~~(v.setWidth 16 <<< 8) }) ∧
  (∀ (a v : Half) (s : State), a = 0xFFFE ∨ a = 0xFFFF →
    exec (.noticeMaskWrite (.word a v)) s = .next { s with noticeMask := v }) ∧
  (∀ (v : Byte) (s : State),
    exec (.noticeMaskWrite (.byte 0xFFFE v)) s =
      .next { s with noticeMask := (s.noticeMask &&& 0xFF00) ||| v.setWidth 16 } ∧
    exec (.noticeMaskWrite (.byte 0xFFFF v)) s =
      .next { s with noticeMask := (s.noticeMask &&& 0x00FF) ||| (v.setWidth 16 <<< 8) }) ∧
  (∀ s : State, s.interrupt = true ↔
    ∃ st : StationNo, s.notice.getLsbD st.val = true ∧ s.noticeMask.getLsbD st.val = true) ∧
  (∀ s : State, s.readWord 0x0000 = 0x1B4C ∧ s.readWord 0x0002 = 0x0816 ∧ s.readByte 0x0004 = 0x03 ∧
    (∀ a, 5 ≤ a ∧ a < 0x10 ∨ 0x572 ≤ a ∧ a < 0x1000 → s.readByte a = 0) ∧
    s.readWord 0xFFF8 = (if s.part = .stopped then 0 else 1) ∧
    (s.readWord 0xFFFA).toNat =
      (match s.part with | .stopped => 0 | .running => 1 | .quiet => 2) +
      (match s.wake with | .none => 0 | .request => 16 | .touch z => 32 + 256 * z.val) ∧
    s.readWord 0xFFFC = s.notice ∧ s.readWord 0xFFFE = s.noticeMask ∧
    s.readByte 0x510 = s.poolCount ∧ s.readByte 0x511 = byteOf s.free.length ∧
    ∀ b : BlockNo, s.readByte (0x512 + b.val) = blockCode s.blocks[b]) ∧
  (∀ (c : CardNo) (s : State),
    let a := 0x1040 + 0x800 * (c.val / 2) + 0x60 * (c.val % 2)
    s.readByte a = (match s.cards[c] with | .empty => 0 | .posted => 1 | .taken => 2 | .answered => 3) ∧
    ∀ k, 1 ≤ k → k < 96 → s.readByte (a + k) = readMem s.mem (a + k)) ∧
  (∀ (st : StationNo) (k : Nat) (s : State), 0x100 ≤ k → k < 0x800 →
    s.readByte (0x1000 + 0x800 * st.val + k) = readMem s.mem (0x1000 + 0x800 * st.val + k)) ∧
  (∀ (a : Nat) (s : State), 0x9000 ≤ a → a < 0xF000 → s.readByte a = readMem s.mem a) ∧
  (∀ (a : Nat) (s : State), 0xF000 ≤ a → a < 0xFFF8 → s.readByte a = 0) ∧
  (∀ (a : Nat) (s : State),
    (s.readWord a).toNat = (s.readByte (a / 2 * 2)).toNat + 256 * (s.readByte (a / 2 * 2 + 1)).toNat) ∧
  (∀ (j : JobNo) (s : State),
    let a := 0x210 + 0x10 * j.val
    let job := s.jobs[j]
    s.readByte a = s.jobCount[j] ∧ s.readByte (a + 1) = jobCode job.state ∧ s.readByte (a + 2) = numberByte job.owner ∧
    s.readByte (a + 3) = byteOf job.port.val ∧ s.readByte (a + 4) = classCode job.cls ∧
    (s.readByte (a + 5)).toNat = (if job.notices then 1 else 0) + (if job.cancelPending then 2 else 0) ∧
    s.readByte (a + 6) = byteOf job.pagesDone ∧ s.readByte (a + 7) = byteOf job.pageCount ∧
    s.readByte (a + 8) = byteOf job.suspensions ∧ hostHalf s (a + 9) = job.serial ∧
    s.readByte (a + 11) = reasonCode job.reason ∧ ∀ k, 12 ≤ k → k < 16 → s.readByte (a + k) = 0) ∧
  (∀ (st : StationNo) (s : State),
    let a := 0x410 + 0x10 * st.val
    let h := 0x1000 + 0x800 * st.val
    let r := s.stations[st]
    let d := s.delivery[st]
    s.readByte a = s.stationCount[st] ∧ s.readByte (a + 1) = serviceCode r.service ∧ s.readByte (a + 2) = r.permits ∧
    s.readByte (a + 3) = byteOf r.quota ∧ s.readByte (a + 4) = byteOf r.holdings ∧
    s.readByte (a + 5) = byteOf ((List.finRange 96).countP fun b => s.blocks[b] = .reserved st) ∧
    (∀ k, 6 ≤ k → k < 16 → s.readByte (a + k) = 0) ∧
    hostHalf s h = halfOfNat d.t ∧ hostHalf s (h + 2) = halfOfNat d.w ∧
    (s.readByte (h + 4)).toNat = (if d.gap then 1 else 0) ∧ s.readByte (h + 5) = 0 ∧ hostHalf s (h + 6) = d.seq ∧
    (∀ k < 6, s.readByte (h + 8 + k) = s.readByte (a + k)) ∧
    ∀ k, 14 ≤ k → k < 0x40 → s.readByte (h + k) = 0) ∧
  ∀ (p : PortNo) (s : State),
    let a := 0x10 + 0x40 * p.val
    let port := s.ports[p]
    let r := s.printers[p]
    let v := s.scanners[p]
    let flag := fun (k : Nat) (b : Bool) => (s.readByte (a + k)).toNat = if b then 1 else 0
    let inCondition := fun (test : Contact.Condition → Bool) => byteOf ((List.finRange 32).countP fun n =>
      s.contacts[n].any fun c => c.port = p && test c.cond)
    s.readByte a = s.portCount[p] ∧ s.readByte (a + 1) = linkCode port.link ∧
    (port.profile = none → ∀ k < 5, s.readByte (a + 2 + k) = 0) ∧
    (∀ d, port.profile = some d → s.readByte (a + 2) = kindCode d.kind ∧
      s.readByte (a + 3) = d.paces.setWidth 8 ∧ hostHalf s (a + 4) = d.model ∧ s.readByte (a + 6) = d.further) ∧
    s.readByte (a + 7) = byteOf (port.resolved.getD 0) ∧ s.readByte (a + 8) = port.advertised.setWidth 8 ∧
    flag 9 port.lost ∧ s.readByte (a + 10) = byteOf port.babbleCount ∧
    s.readByte (a + 11) = printerCode r.state ∧ s.readByte (a + 12) = numberByte r.current ∧
    s.readByte (a + 13) = numberByte r.suspended ∧ s.readByte (a + 14) = byteOf r.queue.length ∧
    (∀ k < 12, s.readByte (a + 15 + k) = match r.queue[k]? with | some j => byteOf j.val | none => 0) ∧
    flag 27 r.suspendPending ∧
    s.readByte (a + 28) = (match r.page with | some pg => byteOf pg.page | none => 0) ∧
    s.readByte (a + 29) = (match r.hold with | some cause => causeCode cause | none => 0) ∧ flag 30 r.paperLow ∧
    s.readByte (a + 31) = byteOf s.printerSet[p].pageTimeout ∧
    s.readByte (a + 32) = byteOf s.printerSet[p].reconnectWindow ∧ flag 33 s.printerSet[p].suspendAllowed ∧
    s.readByte (a + 34) = scannerCode v.state ∧
    (∀ claim, v.state = .held claim → s.readByte (a + 35) = byteOf claim.holder.val ∧
      hostHalf s (a + 36) = claim.serial ∧ hostHalf s (a + 38) = halfOfNat claim.hold ∧
      s.readByte (a + 40) = byteOf claim.count) ∧
    ((∀ claim, v.state ≠ .held claim) → s.readByte (a + 35) = 0xFF ∧ ∀ k < 5, s.readByte (a + 36 + k) = 0) ∧
    s.readByte (a + 41) = byteOf v.queue.length ∧
    (∀ k < 4, s.readByte (a + 42 + k) = match v.queue[k]? with | some w => byteOf w.station.val | none => 0) ∧
    hostHalf s (a + 46) = v.grants ∧
    (∀ why serial, v.lastEnd = some (why, serial) →
      s.readByte (a + 48) = claimEndCode why ∧ hostHalf s (a + 49) = serial) ∧
    (v.lastEnd = none → ∀ k < 3, s.readByte (a + 48 + k) = 0) ∧
    hostHalf s (a + 51) = halfOfNat s.scannerSet[p].defaultHold ∧
    hostHalf s (a + 53) = halfOfNat s.scannerSet[p].maximumHold ∧
    s.readByte (a + 55) = numberByte s.scannerSet[p].defaultStation ∧
    s.readByte (a + 56) = byteOf s.scannerSet[p].repeatWindow ∧
    (∀ z : ZoneNo, (hostHalf s (a + 57)).getLsbD z.val = s.zones[z].any fun zone => zone.port = p) ∧
    s.readByte (a + 59) = inCondition isLive ∧ s.readByte (a + 60) = inCondition isClosing ∧
    s.readByte (a + 61) = inCondition isSuppressed ∧ s.readByte (a + 62) = inCondition isIgnored ∧
    s.readByte (a + 63) = 0

/-- CARD_BYTE_WRITE and CARD_STATE_WRITE (R156, R157, R158): card bytes 1–95 are written in EMPTY and ANSWERED and kept in POSTED
and TAKEN; the state byte alone, and the state and kind bytes together, are judged by the card's state before the access,
and a posting joins the tail of the posting list. -/
def Obligations.CardWrites : Prop :=
  ((∀ (a : Half) (v : Byte) (s : State) (c : CardNo) (k : Nat), MemoryOk s → 1 ≤ k → k < 96 →
     a.toNat = cardAddress c + k →
     (s.cards[c] = .empty ∨ s.cards[c] = .answered → ∃ t, exec (.cardByteWrite (.byte a v)) s = .next t ∧
       t = { s with mem := t.mem } ∧ cardByte t c k = v ∧ MemoryKept s t (· = cardAddress c + k)) ∧
     (s.cards[c] = .posted ∨ s.cards[c] = .taken → exec (.cardByteWrite (.byte a v)) s = .next s)) ∧
   ∀ (a v : Half) (s : State) (c : CardNo) (k : Nat), MemoryOk s → 1 ≤ k → 2 * k < 96 →
     a.toNat / 2 * 2 = cardAddress c + 2 * k →
     (s.cards[c] = .empty ∨ s.cards[c] = .answered → ∃ t, exec (.cardByteWrite (.word a v)) s = .next t ∧
       t = { s with mem := t.mem } ∧ cardHalf t c (2 * k) = v ∧
       MemoryKept s t fun x => x = cardAddress c + 2 * k ∨ x = cardAddress c + 2 * k + 1) ∧
     (s.cards[c] = .posted ∨ s.cards[c] = .taken → exec (.cardByteWrite (.word a v)) s = .next s)) ∧
  (∀ (a : Half) (v : Byte) (s : State) (c : CardNo), a.toNat = cardAddress c →
    exec (.cardStateWrite (.byte a v)) s =
      .next (if (s.cards[c] = .empty ∨ s.cards[c] = .answered) ∧ v = 1 then
          { s with cards := put s.cards c .posted, posting := s.posting ++ [c] }
        else if s.cards[c] = .answered ∧ v = 0 then { s with cards := put s.cards c .empty }
        else s)) ∧
  ∀ (a v : Half) (s : State) (c : CardNo), MemoryOk s → a.toNat / 2 * 2 = cardAddress c →
    (s.cards[c] = .empty ∨ s.cards[c] = .answered → ∃ t, exec (.cardStateWrite (.word a v)) s = .next t ∧
      cardByte t c 1 = (v >>> 8).setWidth 8 ∧ MemoryKept s t (· = cardAddress c + 1) ∧
      t = { s with
        mem := t.mem
        cards := if v.setWidth 8 = 1#8 then put s.cards c .posted
          else if s.cards[c] = .answered ∧ v.setWidth 8 = 0#8 then put s.cards c .empty else s.cards
        posting := if v.setWidth 8 = 1#8 then s.posting ++ [c] else s.posting }) ∧
    (s.cards[c] = .posted ∨ s.cards[c] = .taken → exec (.cardStateWrite (.word a v)) s = .next s)

/-- TAKEN_MARK_WRITE (R171, R172, R121): discarded OUT OF SERVICE; otherwise T moves by the table, and the flush offers the
owed records, then the pending ends, then the pending moves, the contacts in ascending number. Each that fits is written and
leaves the queue, frees its contact or becomes its last delivered position; the first that does not fit ends the flush, and
nothing else changes. The stamp of a held CANCEL is the model's choice (log 10). -/
def Obligations.TakenMarkWriteMovesAndFlushes : Prop :=
  ∀ (w : HostWrite) (s : State) (st : StationNo), MemoryOk s → RingsOk s → ServiceOk s →
    WellFormed (.takenMarkWrite w) = true → st.val = (w.address - 0x1000) / 0x800 →
    (inService s st = false → exec (.takenMarkWrite w) s = .next s) ∧
    (inService s st = true → ∃ t, exec (.takenMarkWrite w) s = .next t ∧
      t.delivery[st].t =
        (let v := handedValue s.delivery[st].t w
         if v < 1792 ∧ (v / 8 * 8 + 1792 - s.delivery[st].t) % 1792 ≤ usedBytes s.delivery[st] then v / 8 * 8
         else s.delivery[st].w) ∧
      (t.delivery[st].owed = [] ∨
        ∃ o rest, t.delivery[st].owed = o :: rest ∧ fits t.delivery[st] (recordLength o.record) = false) ∧
      t.delivery[st].owed <:+ s.delivery[st].owed ∧ RingOk t.delivery[st] ∧
      (∃ u, Flushed st (heldItems st s)
          { s with delivery := put s.delivery st { s.delivery[st] with t := t.delivery[st].t } } u ∧
        t = { u with portCount := t.portCount }) ∧
      (∀ other : StationNo, other ≠ st → t.delivery[other] = s.delivery[other]) ∧
      MemoryKept s t (InRing st) ∧
      t = { s with mem := t.mem, delivery := t.delivery, contacts := t.contacts, notice := t.notice,
                   portCount := t.portCount })

/-! ### The Request Unit -/

/-- TAKE_CARD (R160, R161): the head card of the posting list is TAKEN when the part is not STOPPED and the Request Unit is
IDLE; the first common check that fails answers it at once; otherwise it is served. While the part is STOPPED, while the
Request Unit is serving, and with an empty posting list, no card is taken. -/
def Obligations.TakeCardAppliesTheCommonChecks : Prop :=
  (∀ s : State, s.part = .stopped ∨ s.serving ≠ none ∨ s.posting = [] → exec .takeCard s = .next s) ∧
  ∀ (c : CardNo) (rest : List CardNo) (s : State), MemoryOk s → s.posting = c :: rest → s.part ≠ .stopped →
    s.serving = none →
    ∃ t, exec .takeCard s = .next t ∧ t.posting = rest ∧
      match requestKind? (cardByte s c 1) with
      | none => OnlyAnswered c { outcome := .badKind } { s with posting := rest } t
      | some k =>
        if inService s (cardStation c) = false then OnlyAnswered c { outcome := .outOfService } { s with posting := rest } t
        else if supervisorKind k = true ∧ cardStation c ≠ 0 then
          OnlyAnswered c { outcome := .notSupervisor } { s with posting := rest } t
        else t = { s with posting := rest, cards := put s.cards c .taken, serving := some c }

/-- R162, R163: the owning block's event answers the card being served, whatever the request: every answer field is written,
the card is ANSWERED, its NOTICE bit raised and the Request Unit IDLE; the kind and the tag are not written. A request row
does nothing while no card of its kind is served (log 1). -/
def Obligations.ServedRequestsAreAnswered : Prop :=
  (∀ (k : RequestKind) (c : CardNo) (s : State), MemoryOk s → RingsOk s → Serving k c s →
    ∃ t a, exec (requestRow k) s = .next t ∧ AnswerStands c a t ∧ List.Sublist t.posting s.posting ∧
      ∀ n, 1 ≤ n → n < 4 → cardByte t c n = cardByte s c n) ∧
  ∀ (k : RequestKind) (s : State), (∀ c, ¬ Serving k c s) → exec (requestRow k) s = .next s

/-! ### The block pool -/

/-- RESERVE accepted (R22): blocks leave the head of the free list, are RESERVED by the station and read 00H; holdings grow
by the count; the answer carries the free count and the block numbers from offset 8. -/
def Obligations.ReserveTakesTheHead : Prop :=
  ∀ (c : CardNo) (s : State), MemoryOk s → PoolOk s → Serving .reserve c s →
    1 ≤ cardNum s c 8 → cardNum s c 8 ≤ 32 →
    s.stations[cardStation c].holdings + cardNum s c 8 ≤ s.stations[cardStation c].quota →
    cardNum s c 8 ≤ s.free.length →
    ∃ t, exec .reserve s = .next t ∧
      AnswerStands c { outcome := .ok, value := s.free.length - cardNum s c 8 } t ∧
      t.free = s.free.drop (cardNum s c 8) ∧
      (∀ b ∈ s.free.take (cardNum s c 8), t.blocks[b] = .reserved (cardStation c) ∧
        ∀ a, InBlock b a → readMem t.mem a = 0) ∧
      (∀ b ∉ s.free.take (cardNum s c 8), t.blocks[b] = s.blocks[b]) ∧
      (∀ (i : Nat) (b : BlockNo), i < cardNum s c 8 → s.free[i]? = some b → cardNum t c (8 + i) = b.val) ∧
      t.stations = put s.stations (cardStation c)
        { s.stations[cardStation c] with holdings := s.stations[cardStation c].holdings + cardNum s c 8 } ∧
      MemoryKept s t (fun a => AnswerField c a ∨ (cardAddress c + 8 ≤ a ∧ a < cardAddress c + 8 + cardNum s c 8) ∨
        ∃ b ∈ s.free.take (cardNum s c 8), InBlock b a) ∧
      t = { s with mem := t.mem, cards := put s.cards c .answered, serving := none, notice := s.notice ||| stationBit (cardStation c), stations := t.stations,
                   blocks := t.blocks, free := t.free, stationCount := t.stationCount, poolCount := t.poolCount }

/-- RESERVE refused (R21): the checks in their order, the first that fails answered, nothing else changed. -/
def Obligations.ReserveRefusals : Prop :=
  ∀ (c : CardNo) (s : State), MemoryOk s → Serving .reserve c s →
    (¬ (1 ≤ cardNum s c 8 ∧ cardNum s c 8 ≤ 32) →
      ∃ t, exec .reserve s = .next t ∧ OnlyAnswered c { outcome := .badArgument } s t) ∧
    (1 ≤ cardNum s c 8 ∧ cardNum s c 8 ≤ 32 →
      s.stations[cardStation c].quota < s.stations[cardStation c].holdings + cardNum s c 8 →
      ∃ t, exec .reserve s = .next t ∧
        OnlyAnswered c
          { outcome := .overQuota
            value := if s.stations[cardStation c].quota ≤ s.stations[cardStation c].holdings then 0
              else s.stations[cardStation c].quota - s.stations[cardStation c].holdings } s t) ∧
    (1 ≤ cardNum s c 8 ∧ cardNum s c 8 ≤ 32 →
      s.stations[cardStation c].holdings + cardNum s c 8 ≤ s.stations[cardStation c].quota →
      s.free.length < cardNum s c 8 →
      ∃ t, exec .reserve s = .next t ∧ OnlyAnswered c { outcome := .noRoom, value := s.free.length } s t)

/-- UNRESERVE (R23): a list of distinct blocks RESERVED by the station joins the tail of the free list in its order, with
contents kept; a bad count, or a first bad entry at index i, is answered BAD ARGUMENT and changes nothing. -/
def Obligations.UnreserveReturnsBlocks : Prop :=
  (∀ (c : CardNo) (s : State) (bs : List BlockNo), MemoryOk s → Serving .unreserve c s → 1 ≤ bs.length →
    bs.length ≤ 32 → cardNum s c 8 = bs.length → cardList s c 9 bs.length = bs.map Fin.val → bs.Nodup →
    (∀ b ∈ bs, s.blocks[b] = .reserved (cardStation c)) →
    ∃ t, exec .unreserve s = .next t ∧
      AnswerStands c { outcome := .ok, value := s.free.length + bs.length } t ∧
      t.free = s.free ++ bs ∧ (∀ b ∈ bs, t.blocks[b] = .free) ∧ (∀ b ∉ bs, t.blocks[b] = s.blocks[b]) ∧
      t.stations = put s.stations (cardStation c)
        { s.stations[cardStation c] with holdings := s.stations[cardStation c].holdings - bs.length } ∧
      MemoryKept s t (AnswerField c) ∧
      t = { s with mem := t.mem, cards := put s.cards c .answered, serving := none, notice := s.notice ||| stationBit (cardStation c), stations := t.stations,
                   blocks := t.blocks, free := t.free, stationCount := t.stationCount, poolCount := t.poolCount }) ∧
  (∀ (c : CardNo) (s : State), MemoryOk s → Serving .unreserve c s → cardNum s c 8 = 0 ∨ 32 < cardNum s c 8 →
    ∃ t, exec .unreserve s = .next t ∧ OnlyAnswered c { outcome := .badArgument, detail := 0xFF } s t) ∧
  ∀ (c : CardNo) (s : State) (bs : List BlockNo) (e : Nat), MemoryOk s → Serving .unreserve c s →
    cardNum s c 8 ≤ 32 → bs.length < cardNum s c 8 →
    cardList s c 9 (bs.length + 1) = bs.map Fin.val ++ [e] → bs.Nodup →
    (∀ b ∈ bs, s.blocks[b] = .reserved (cardStation c)) →
    (∀ b : BlockNo, b.val = e → s.blocks[b] = .reserved (cardStation c) → b ∈ bs) →
    ∃ t, exec .unreserve s = .next t ∧ OnlyAnswered c { outcome := .badArgument, detail := bs.length } s t

/-! ### The print scheduler -/

/-- SUBMIT (R34, R38–R42, R26): the first check that fails answers. An accepted one makes the lowest FREE record a WAITING job
with the next serial and commits its blocks; it joins the queue by rank, and the answer carries job number and serial. At an
IDLE printer the printer then chooses; at another the job waits, and the suspend-pending flag is set when due. That the record
keeps the end reason it had is the model's choice (log 9). That a page's frames join the send list of a port with a printer
alone is the model's choice (log 20). -/
def Obligations.SubmitQueuesAJob : Prop :=
  (∀ (c : CardNo) (s : State) (p : PortNo) (cls : JobClass) (j : JobNo) (bs : List BlockNo),
    MemoryOk s → Serving .submit c s →
    cardNum s c 8 = p.val → attached s.printers[p] = true →
    permitted s (cardStation c) p = true → class? (cardNum s c 9) = some cls →
    (cls = .priority → cardStation c = 0) → cardNum s c 11 = bs.length → 1 ≤ bs.length → bs.length ≤ 32 →
    cardList s c 15 bs.length = bs.map Fin.val → bs.Nodup → (∀ b ∈ bs, s.blocks[b] = .reserved (cardStation c)) →
    (bs.length - 1) * 256 < cardHalfNum s c 12 → cardHalfNum s c 12 ≤ bs.length * 256 →
    1 ≤ cardNum s c 14 → cardNum s c 14 ≤ 64 →
    pageWalk s.mem bs (cardHalfNum s c 12) (cardNum s c 14) (cardNum s c 14) 0 0 = none →
    s.jobs[j].state = .free → (∀ i < j, s.jobs[i].state ≠ .free) → s.printers[p].queue.length < 12 →
    let made : Job :=
      { state := .waiting, owner := some (cardStation c), port := p, cls := cls,
        notices := (cardByte s c 10).getLsbD 0, blocks := bs, length := cardHalfNum s c 12,
        pageCount := cardNum s c 14, pagesDone := 0, restart := 0, suspensions := 0, transients := 0,
        accepted := s.acceptance + 1, serial := s.acceptance + 1, cancelPending := false,
        reason := s.jobs[j].reason }
    let jobs := put s.jobs j made
    ∃ t l r, exec .submit s = .next t ∧ AnswerStands c { outcome := .ok, value := j.val } t ∧
      t.acceptance = s.acceptance + 1 ∧ cardHalf t c 8 = s.acceptance + 1 ∧
      (∀ b ∈ bs, t.blocks[b] = .committed j) ∧ (∀ b ∉ bs, t.blocks[b] = s.blocks[b]) ∧
      s.printers[p].queue = l ++ r ∧ (∀ i ∈ l, rank jobs[i].cls ≤ rank cls) ∧
      (∀ i, r.head? = some i → rank cls < rank jobs[i].cls) ∧
      (s.printers[p].state ≠ .idle →
        t.jobs = jobs ∧ t.ports = s.ports ∧
        t.printers = put s.printers p
          { s.printers[p] with queue := l ++ j :: r, suspendPending := t.printers[p].suspendPending } ∧
        (t.printers[p].suspendPending = true ↔ s.printers[p].suspendPending = true ∨
          ∃ cur, s.printers[p].current = some cur ∧ rank cls < 2 ∧ t.jobs[cur].cls = .long ∧
            t.jobs[cur].suspensions < 4 ∧ s.printerSet[p].suspendAllowed = true ∧ s.printers[p].suspended = none)) ∧
      (s.printers[p].state = .idle →
        let m := { s with jobs := jobs, printers := put s.printers p { s.printers[p] with queue := l ++ j :: r } }
        Chose p m t ∧ t.jobs = chosenJobs p m ∧
        (∀ q : PortNo, q ≠ p → t.printers[q] = s.printers[q] ∧ t.ports[q] = s.ports[q]) ∧
        (s.printers[p].queue = [] → s.printers[p].suspended = none →
          t.printers[p].current = some j ∧ t.printers[p].queue = [] ∧
          t.jobs = put s.jobs j { made with state := .printing })) ∧
      MemoryKept s t (fun a => AnswerField c a ∨ a = cardAddress c + 8 ∨ a = cardAddress c + 9) ∧
      t = { s with mem := t.mem, cards := put s.cards c .answered, serving := none, notice := s.notice ||| stationBit (cardStation c), acceptance := t.acceptance,
                   jobs := t.jobs, blocks := t.blocks, printers := t.printers, ports := t.ports,
                   portCount := t.portCount, jobCount := t.jobCount, stationCount := t.stationCount,
                   poolCount := t.poolCount }) ∧
  ∀ (c : CardNo) (s : State), MemoryOk s → Serving .submit c s →
    let st := cardStation c
    let entries := cardList s c 15 (cardNum s c 11)
    FirstFailureAnswers .submit c s
      [check (∃ p : PortNo, cardNum s c 8 = p.val ∧ attached s.printers[p] = true) { outcome := .noDevice },
       check (∃ p : PortNo, cardNum s c 8 = p.val ∧ permitted s st p = true) { outcome := .notPermitted },
       check (cardNum s c 9 ≤ 2) { outcome := .badArgument, detail := 0xFC },
       check (cardNum s c 9 ≠ 0 ∨ st = 0) { outcome := .notPermitted, detail := 1 },
       check (1 ≤ cardNum s c 11 ∧ cardNum s c 11 ≤ 32) { outcome := .badArgument, detail := 0xFF },
       (∀ i, ¬ BadEntry s st entries i, fun a => ∃ i, BadEntry s st entries i ∧ (∀ k < i, ¬ BadEntry s st entries k) ∧
         a = { outcome := .badArgument, detail := i }),
       check ((cardNum s c 11 - 1) * 256 < cardHalfNum s c 12 ∧ cardHalfNum s c 12 ≤ cardNum s c 11 * 256)
         { outcome := .badArgument, detail := 0xFE },
       check (1 ≤ cardNum s c 14 ∧ cardNum s c 14 ≤ 64) { outcome := .badArgument, detail := 0xFD },
       (∀ (bs : List BlockNo) d, bs.map Fin.val = entries →
          ¬ WalkFails s.mem bs (cardHalfNum s c 12) (cardNum s c 14) d,
        fun a => ∃ (bs : List BlockNo) (d : Nat), bs.map Fin.val = entries ∧
          WalkFails s.mem bs (cardHalfNum s c 12) (cardNum s c 14) d ∧ a = { outcome := .format, detail := d }),
       check (∃ j : JobNo, s.jobs[j].state = .free) { outcome := .queueFull },
       check (∃ p : PortNo, cardNum s c 8 = p.val ∧ s.printers[p].queue.length < 12)
         { outcome := .queueFull, detail := 1 }]

/-- CANCEL JOB (R46–R49): the first check that fails answers. A WAITING or SUSPENDED job ends CANCELLED, leaves its place, its
blocks join the free list, its owner is given JOB ENDED, and the answer value is 0. So does a PRINTING job at a HELD, QUIESCED
or DETACHED printer with no page in flight, and a HELD or QUIESCED printer then chooses. A PRINTING job whose page runs on
only becomes cancel-pending, and the value is 1; a second cancel of it changes nothing. That a page's frames join the send
list of a port with a printer alone is the model's choice (log 20). -/
def Obligations.CancelEndsOrMarksAJob : Prop :=
  (∀ (c : CardNo) (s : State) (j : JobNo), MemoryOk s → RingsOk s → JobsOk s → Serving .cancelJob c s →
    cardNum s c 8 = j.val → cardHalf s c 9 = s.jobs[j].serial →
    s.jobs[j].owner = some (cardStation c) ∨ cardStation c = 0 →
    let why := if s.jobs[j].cancelPending then s.jobs[j].reason else .cancelled
    let p := s.jobs[j].port
    (s.jobs[j].state = .waiting ∨ s.jobs[j].state = .suspended →
      ∃ t, exec .cancelJob s = .next t ∧ AnswerStands c { outcome := .ok } t ∧
        t.jobs = put s.jobs j { s.jobs[j] with state := .free, reason := why } ∧
        t.printers = put s.printers p
          { s.printers[p] with
            queue := s.printers[p].queue.filter (· ≠ j)
            suspended := if s.jobs[j].state = .suspended then none else s.printers[p].suspended } ∧
        Freed s.jobs[j] s t ∧
        ToldThenAnswered c (giveStatusTo s.jobs[j].owner
          (.jobEnded j p s.jobs[j].serial s.jobs[j].pagesDone s.jobs[j].pageCount why) s) t ∧
        MemoryKept s t (fun a => AnswerField c a ∨ ∃ st, s.jobs[j].owner = some st ∧ InRing st a) ∧
        t = { s with mem := t.mem, cards := put s.cards c .answered, serving := none, notice := t.notice, stations := t.stations,
                     blocks := t.blocks, free := t.free, jobs := t.jobs, printers := t.printers, delivery := t.delivery,
                     portCount := t.portCount, jobCount := t.jobCount, stationCount := t.stationCount,
                     poolCount := t.poolCount }) ∧
    (s.jobs[j].state = .printing → s.printers[p].state = .held ∨ s.printers[p].state = .detached ∨
        s.printers[p].state = .quiesced ∧ s.printers[p].page = none →
      ∃ t, exec .cancelJob s = .next t ∧ AnswerStands c { outcome := .ok } t ∧
        let m := { s with
          mem := t.mem
          jobs := put s.jobs j { s.jobs[j] with state := .free, reason := why }
          printers := put s.printers p
            { s.printers[p] with
              current := none, suspendPending := false
              hold := if s.printers[p].state = .held then none else s.printers[p].hold } }
        (s.printers[p].state ≠ .detached → Chose p m t ∧ t.jobs = chosenJobs p m) ∧
        (s.printers[p].state = .detached → t.printers = m.printers ∧ t.jobs = m.jobs ∧ t.ports = s.ports) ∧
        (∀ q : PortNo, q ≠ p → t.printers[q] = s.printers[q] ∧ t.ports[q] = s.ports[q]) ∧
        Freed s.jobs[j] s t ∧
        ToldThenAnswered c (giveStatusTo s.jobs[j].owner
          (.jobEnded j p s.jobs[j].serial s.jobs[j].pagesDone s.jobs[j].pageCount why) s) t ∧
        MemoryKept s t (fun a => AnswerField c a ∨ ∃ st, s.jobs[j].owner = some st ∧ InRing st a) ∧
        t = { s with mem := t.mem, cards := put s.cards c .answered, serving := none, notice := t.notice, stations := t.stations,
                     blocks := t.blocks, free := t.free, jobs := t.jobs, printers := t.printers, ports := t.ports,
                     delivery := t.delivery, portCount := t.portCount, jobCount := t.jobCount,
                     stationCount := t.stationCount, poolCount := t.poolCount }) ∧
    (s.jobs[j].state = .printing → s.jobs[j].cancelPending = true →
        s.printers[p].state = .sending ∨ s.printers[p].state = .quiesced ∧ s.printers[p].page ≠ none →
      ∃ t, exec .cancelJob s = .next t ∧ OnlyAnswered c { outcome := .ok, value := 1 } s t) ∧
    (s.jobs[j].state = .printing → s.jobs[j].cancelPending = false →
        s.printers[p].state = .sending ∨ s.printers[p].state = .quiesced ∧ s.printers[p].page ≠ none →
      ∃ t, exec .cancelJob s = .next t ∧ AnswerStands c { outcome := .ok, value := 1 } t ∧
        t.jobs = put s.jobs j { s.jobs[j] with cancelPending := true, reason := .cancelled } ∧
        MemoryKept s t (AnswerField c) ∧
        t = { s with mem := t.mem, cards := put s.cards c .answered, serving := none, notice := s.notice ||| stationBit (cardStation c), jobs := t.jobs,
                     jobCount := t.jobCount })) ∧
  ∀ (c : CardNo) (s : State), MemoryOk s → Serving .cancelJob c s →
    FirstFailureAnswers .cancelJob c s
      [check (cardNum s c 8 ≤ 31) { outcome := .badArgument },
       check (∃ j : JobNo, cardNum s c 8 = j.val ∧ s.jobs[j].state ≠ .free ∧ s.jobs[j].serial = cardHalf s c 9)
         { outcome := .tooLate },
       check (∃ j : JobNo, cardNum s c 8 = j.val ∧ (s.jobs[j].owner = some (cardStation c) ∨ cardStation c = 0))
         { outcome := .notPermitted }]

/-- CLEAR PRINTER (R72): the first check that fails answers. An accepted one: the hold cause becomes none and the transient
count 0; in RUNNING the printer is SENDING and the page at the restart point is opened again, in QUIET it is QUIESCED with the
page owed. Pages done and the restart point are kept. That a page's frames join the send list of a port with a printer alone
is the model's choice (log 20). -/
def Obligations.ClearPrinterSendsAgain : Prop :=
  (∀ (c : CardNo) (s : State) (p : PortNo) (j : JobNo), MemoryOk s → Serving .clearPrinter c s →
    cardNum s c 8 = p.val → s.printers[p].state = .held → s.printers[p].current = some j →
    s.jobs[j].owner = some (cardStation c) ∨ cardStation c = 0 →
    ∃ t, exec .clearPrinter s = .next t ∧ AnswerStands c { outcome := .ok } t ∧
      t.jobs = put s.jobs j { s.jobs[j] with transients := 0 } ∧
      (s.printMode = .running →
        PageOpened p s.jobs[j] { s.printers[p] with state := .sending, hold := none } s t) ∧
      (s.printMode = .quiet →
        t.printers[p] = { s.printers[p] with state := .quiesced, hold := none } ∧ t.ports = s.ports) ∧
      (∀ q : PortNo, q ≠ p → t.printers[q] = s.printers[q] ∧ t.ports[q] = s.ports[q]) ∧
      MemoryKept s t (AnswerField c) ∧
      t = { s with mem := t.mem, cards := put s.cards c .answered, serving := none, notice := s.notice ||| stationBit (cardStation c), jobs := t.jobs,
                   printers := t.printers, ports := t.ports, portCount := t.portCount }) ∧
  ∀ (c : CardNo) (s : State), MemoryOk s → Serving .clearPrinter c s →
    FirstFailureAnswers .clearPrinter c s
      [check (∃ p : PortNo, cardNum s c 8 = p.val ∧ s.printers[p].state ≠ .absent) { outcome := .noDevice },
       check (∃ p : PortNo, cardNum s c 8 = p.val ∧ s.printers[p].state = .held) { outcome := .badState },
       check (cardStation c = 0 ∨ ∃ (p : PortNo) (j : JobNo), cardNum s c 8 = p.val ∧ s.printers[p].current = some j ∧
           s.jobs[j].owner = some (cardStation c))
         { outcome := .notPermitted }]

/-! ### The scan router -/

/-- CLAIM (R89, R90): the first check that fails answers: in QUIET, without a scanner, without a permit, or by a station that
holds it or waits for it. Otherwise a FREE scanner is granted with the next grant serial; a HELD one lets the station wait when it asks to and the queue has
room, and answers BUSY or QUEUE FULL otherwise. The hold time is the default for 0, else brought into 5..maximum. -/
def Obligations.ClaimGrantsOrWaits : Prop :=
  (∀ (c : CardNo) (s : State) (p : PortNo), MemoryOk s → Serving .claim c s → s.scanMode = .running →
    cardNum s c 8 = p.val → permitted s (cardStation c) p = true →
    let st := cardStation c
    let hold := if cardHalfNum s c 9 = 0 then s.scannerSet[p].defaultHold
      else min (max (cardHalfNum s c 9) 5) s.scannerSet[p].maximumHold
    (s.scanners[p].state = .free → st ∉ s.scanners[p].queue.map Wait.station →
      ∃ t, exec .claim s = .next t ∧
        AnswerStands c { outcome := .ok, value := (s.scanners[p].grants + 1).toNat } t ∧
        MemoryKept s t (AnswerField c) ∧
        t = { s with
          mem := t.mem, cards := put s.cards c .answered, serving := none, notice := s.notice ||| stationBit st
          portCount := t.portCount
          scanners := put s.scanners p
            { s.scanners[p] with
              grants := s.scanners[p].grants + 1
              state := .held
                { holder := st, hold := hold, idle := { start := s.time, length := hold * 1000 }
                  count := cardNum s c 11, serial := s.scanners[p].grants + 1 } } }) ∧
    ∀ held, s.scanners[p].state = .held held → held.holder ≠ st → st ∉ s.scanners[p].queue.map Wait.station →
      (cardNum s c 12 ≠ 0 → s.scanners[p].queue.length < 4 →
        ∃ t, exec .claim s = .next t ∧
          AnswerStands c { outcome := .waiting, value := s.scanners[p].queue.length + 1 } t ∧
          MemoryKept s t (AnswerField c) ∧
          t = { s with
            mem := t.mem, cards := put s.cards c .answered, serving := none, notice := s.notice ||| stationBit st
            portCount := t.portCount
            scanners := put s.scanners p
              { s.scanners[p] with
                queue := s.scanners[p].queue ++ [{ station := st, hold := hold, count := cardNum s c 11 }] } }) ∧
      (cardNum s c 12 ≠ 0 → 4 ≤ s.scanners[p].queue.length →
        ∃ t, exec .claim s = .next t ∧ OnlyAnswered c { outcome := .queueFull } s t) ∧
      (cardNum s c 12 = 0 → ∃ t, exec .claim s = .next t ∧ OnlyAnswered c { outcome := .busy } s t)) ∧
  ∀ (c : CardNo) (s : State), MemoryOk s → Serving .claim c s →
    FirstFailureAnswers .claim c s
      [check (s.scanMode = .running) { outcome := .quiet },
       check (∃ p : PortNo, cardNum s c 8 = p.val ∧ s.scanners[p].state ≠ .absent) { outcome := .noDevice },
       check (∃ p : PortNo, cardNum s c 8 = p.val ∧ permitted s (cardStation c) p = true) { outcome := .notPermitted },
       check (∃ p : PortNo, cardNum s c 8 = p.val ∧ cardStation c ∉ s.scanners[p].queue.map Wait.station ∧
           ∀ held, s.scanners[p].state = .held held → held.holder ≠ cardStation c)
         { outcome := .badState }]

/-- RELEASE (R91, R92): a port above 7 is refused with BAD ARGUMENT, and a FREE or ABSENT scanner's answer is NOT HOLDER. Of a
HELD scanner: by the holder, the claim ends RELEASED without a record and the head waiter, if any, is granted and
given CLAIM GRANTED; by a waiter, it leaves the queue; by anyone else it is answered NOT HOLDER. -/
def Obligations.ReleasePassesTheScannerOn : Prop :=
  (∀ (c : CardNo) (s : State), MemoryOk s → Serving .release c s →
    (7 < cardNum s c 8 → ∃ t, exec .release s = .next t ∧ OnlyAnswered c { outcome := .badArgument } s t) ∧
    ∀ p : PortNo, cardNum s c 8 = p.val → s.scanners[p].state = .free ∨ s.scanners[p].state = .absent →
      ∃ t, exec .release s = .next t ∧ OnlyAnswered c { outcome := .notHolder } s t) ∧
  ∀ (c : CardNo) (s : State) (p : PortNo) (claim : Claim), MemoryOk s → RingsOk s → Serving .release c s →
    cardNum s c 8 = p.val → s.scanners[p].state = .held claim →
    (claim.holder = cardStation c →
      ∃ t, exec .release s = .next t ∧ AnswerStands c { outcome := .ok, value := claim.serial.toNat } t ∧
        t.scanners[p].lastEnd = some (.released, claim.serial) ∧
        (s.scanners[p].queue = [] → t.scanners[p].state = .free ∧ t.scanners[p].grants = s.scanners[p].grants ∧
          ToldThenAnswered c s t) ∧
        (∀ w rest, s.scanners[p].queue = w :: rest →
          t.scanners[p].queue = rest ∧ t.scanners[p].grants = s.scanners[p].grants + 1 ∧
          t.scanners[p].state = .held
            { holder := w.station, hold := w.hold, idle := { start := s.time, length := w.hold * 1000 }
              count := w.count, serial := s.scanners[p].grants + 1 } ∧
          ToldThenAnswered c (giveStatus w.station
            (.claimGranted p (s.scanners[p].grants + 1) w.hold w.count) s) t ∧
          MemoryKept s t (fun a => AnswerField c a ∨ InRing w.station a)) ∧
        (∀ q : PortNo, q ≠ p → t.scanners[q] = s.scanners[q]) ∧ t.scanners[p].lastCode = s.scanners[p].lastCode ∧
        t = { s with mem := t.mem, cards := put s.cards c .answered, serving := none, notice := t.notice,
                     scanners := t.scanners, delivery := t.delivery, portCount := t.portCount }) ∧
    (claim.holder ≠ cardStation c → cardStation c ∈ s.scanners[p].queue.map Wait.station →
      ∃ t, exec .release s = .next t ∧ AnswerStands c { outcome := .ok, detail := 1 } t ∧
        MemoryKept s t (AnswerField c) ∧
        t = { s with
          mem := t.mem, cards := put s.cards c .answered, serving := none
          notice := s.notice ||| stationBit (cardStation c), portCount := t.portCount
          scanners := put s.scanners p
            { s.scanners[p] with queue := s.scanners[p].queue.filter fun w => w.station ≠ cardStation c } }) ∧
    (claim.holder ≠ cardStation c → cardStation c ∉ s.scanners[p].queue.map Wait.station →
      ∃ t, exec .release s = .next t ∧ OnlyAnswered c { outcome := .notHolder } s t)

/-! ### The station table -/

/-- SET PERMITS (R5, R6): the set is replaced and the old one answered; the station no longer holds or awaits the scanner of a
withdrawn port, a head waiter is granted it, and in ascending port order CLAIM ENDED and CLAIM GRANTED are given; the scanners
of the other ports are untouched. A station number above 15 is refused. The answer's detail, and a refusal's answer value, are
free values (log 5). -/
def Obligations.SetPermitsWithdrawsScanners : Prop :=
  (∀ (c : CardNo) (s : State) (st : StationNo), MemoryOk s → RingsOk s → ScannersOk s → Serving .setPermits c s →
    cardNum s c 8 = st.val →
    ∃ t, exec .setPermits s = .next t ∧
      AnswerStands c (openAnswer s .ok s.stations[st].permits.toNat) t ∧
      t.stations = put s.stations st { s.stations[st] with permits := cardByte s c 9 } ∧
      (∀ p : PortNo, s.stations[st].permits.getLsbD p.val = true → (cardByte s c 9).getLsbD p.val = false →
        holds t.scanners[p] st = false ∧ waits t.scanners[p] st = false ∧
        (∀ claim, s.scanners[p].state = .held claim → claim.holder = st →
          t.scanners[p].lastEnd = some (.permitWithdrawn, claim.serial))) ∧
      (∀ p : PortNo, s.stations[st].permits.getLsbD p.val = false ∨ (cardByte s c 9).getLsbD p.val = true →
        t.scanners[p] = s.scanners[p]) ∧
      (∀ p : PortNo, s.stations[st].permits.getLsbD p.val = true → (cardByte s c 9).getLsbD p.val = false →
        t.scanners[p] = withdrawn .permitWithdrawn st s.time s.scanners[p]) ∧
      (let told := given (((List.finRange 8).filter fun p : PortNo =>
          s.stations[st].permits.getLsbD p.val && !(cardByte s c 9).getLsbD p.val).flatMap fun p =>
            withdrawalRecords st p s.scanners[p]) s
       ToldThenAnswered c told t) ∧
      MemoryKept s t (fun a => AnswerField c a ∨ ∃ other, InRing other a) ∧
      t = { s with mem := t.mem, cards := put s.cards c .answered, serving := none, notice := t.notice,
                   stations := t.stations, scanners := t.scanners, delivery := t.delivery, portCount := t.portCount,
                   stationCount := t.stationCount, openCount := s.openCount + 1 }) ∧
  ∀ (c : CardNo) (s : State), MemoryOk s → Serving .setPermits c s → 15 < cardNum s c 8 →
    ∃ t, exec .setPermits s = .next t ∧
      OnlyAnswered c (openAnswer s .badArgument (Config.openValue s.openCount)) (useOpen s) t

/-- SET SERVICE of value 0 (R10–R14): the station is OUT OF SERVICE with holdings 0; its POSTED cards are answered OUT OF
SERVICE; its RESERVED blocks, then those of its WAITING and SUSPENDED jobs, then those of its PRINTING jobs ended at once,
join the free list in that order. Every one of its PRINTING jobs is cancel-pending RETIRED and belongs to no station: it runs
on to its boundary at a SENDING printer, or a QUIESCED one with a page in flight, and ends at once elsewhere, where a HELD or
QUIESCED printer then chooses. Each scanner it held passes on with CLAIM GRANTED to the head waiter, and its waits and
contacts are gone. Its ring is frozen as it stands with nothing owed and its NOTICE bit is clear. Every other station, card,
job, scanner, contact and ring is as it was. The answer value tells the growth of the free list (its detail is a free value,
log 5); that the PRINTING jobs go in ascending number is DEDUCED (log 11). That a page's frames join the send list of a port
with a printer alone is the model's choice (log 20). -/
def Obligations.RetirementGivesEverythingUp : Prop :=
  ∀ (c : CardNo) (s : State) (st : StationNo), MemoryOk s → RingsOk s → CardsOk s → JobsOk s → PrintersOk s → ScannersOk s →
    Serving .setService c s → cardStation c = 0 → st ≠ 0 → cardNum s c 8 = st.val → cardNum s c 9 = 0 →
    inService s st = true →
    let posted := fun x : CardNo => s.cards[x] = .posted ∧ cardStation x = st
    let jobs := retiredJobs st s
    let told := given (retirementGrants st s) s
    ∃ t, exec .setService s = .next t ∧
      AnswerStands c (openAnswer s .ok (t.free.length - s.free.length)) t ∧
      t.stations = put s.stations st { s.stations[st] with service := .outOfService, holdings := 0 } ∧
      (∀ x : CardNo, t.cards[x] = if x = c ∨ posted x then .answered else s.cards[x]) ∧
      (∀ x : CardNo, posted x → cardByte t x 4 = 0x06 ∧ cardByte t x 5 = 0 ∧ cardHalf t x 6 = 0) ∧
      t.posting = s.posting.filter (cardStation · ≠ st) ∧
      Joined (retiredBlocks st s) s t ∧
      (∀ b : BlockNo, t.blocks[b] = if b ∈ retiredBlocks st s then .free else s.blocks[b]) ∧
      (∀ j : JobNo, t.jobs[j] =
        if t.printers[s.jobs[j].port].current = some j then { jobs[j] with state := .printing } else jobs[j]) ∧
      (∀ p : PortNo,
        let r := retiredPrinter st s s.printers[p]
        let ends := ∃ j ∈ stoppedJobs st s, s.printers[p].current = some j
        (¬ ends ∨ s.printers[p].state = .detached → t.printers[p] = r ∧ t.ports[p] = s.ports[p]) ∧
        (ends → s.printers[p].state = .held →
          Chose p { s with jobs := jobs, printers := put s.printers p { r with hold := none } } t) ∧
        (ends → s.printers[p].state = .quiesced →
          Chose p { s with jobs := jobs, printers := put s.printers p r } t)) ∧
      (∀ p : PortNo, t.scanners[p] = withdrawn .retired st s.time s.scanners[p]) ∧
      (∀ n : ContactNo, t.contacts[n] = s.contacts[n].filter fun r => contactStation r ≠ some st) ∧
      t.delivery[st] = { s.delivery[st] with owed := [], frozen := true } ∧
      (∀ other : StationNo, other ≠ st → t.delivery[other] = told.delivery[other]) ∧
      t.notice = (told.notice &&& ~~~stationBit st) ||| stationBit 0 ∧
      MemoryKept told t (fun a => AnswerField c a ∨ ∃ x, posted x ∧ AnswerField x a) ∧
      t = { s with
        mem := t.mem, cards := t.cards, posting := t.posting, serving := none, stations := t.stations, blocks := t.blocks
        free := t.free, jobs := t.jobs, printers := t.printers, ports := t.ports, scanners := t.scanners
        contacts := t.contacts, delivery := t.delivery, notice := t.notice, portCount := t.portCount
        jobCount := t.jobCount, stationCount := t.stationCount, poolCount := t.poolCount, openCount := s.openCount + 1 }

/-- SET SERVICE of value 1 (R9, R16): the station is IN SERVICE again, its marks 0, no gap owed and its ring unfrozen; the
sequence counter, the cards and the ring bytes are kept. A request naming the state the station has is answered BAD
STATE; one that would retire station 0, or a value above 1, BAD ARGUMENT. Details, and a refusal's answer value, are free
values (log 5). -/
def Obligations.ReinstatementRestartsTheRing : Prop :=
  (∀ (c : CardNo) (s : State) (st : StationNo), MemoryOk s → Serving .setService c s → cardNum s c 8 = st.val →
    cardNum s c 9 = 1 → inService s st = false →
    ∃ t, exec .setService s = .next t ∧ AnswerStands c (openAnswer s .ok 0) t ∧ MemoryKept s t (AnswerField c) ∧
      t = { s with
        mem := t.mem, cards := put s.cards c .answered, serving := none
        notice := s.notice ||| stationBit (cardStation c), stationCount := t.stationCount
        openCount := s.openCount + 1
        stations := put s.stations st { s.stations[st] with service := .inService }
        delivery := put s.delivery st { s.delivery[st] with w := 0, t := 0, gap := false, frozen := false } }) ∧
  (∀ (c : CardNo) (s : State) (st : StationNo), MemoryOk s → Serving .setService c s → cardNum s c 8 = st.val →
    (cardNum s c 9 = 1 ∧ inService s st = true ∨ cardNum s c 9 = 0 ∧ inService s st = false ∧ st ≠ 0) →
    ∃ t, exec .setService s = .next t ∧
      OnlyAnswered c (openAnswer s .badState (Config.openValue s.openCount)) (useOpen s) t) ∧
  ∀ (c : CardNo) (s : State), MemoryOk s → Serving .setService c s →
    (15 < cardNum s c 8 ∨ 1 < cardNum s c 9 ∨ cardNum s c 8 = 0 ∧ cardNum s c 9 = 0) →
    ∃ t, exec .setService s = .next t ∧
      OnlyAnswered c (openAnswer s .badArgument (Config.openValue s.openCount)) (useOpen s) t

/-! ### Settings and zones -/

/-- SET QUOTA (R8), SET PRINTER (R44, R45) and SET SCANNER (R87) store their values within the limits; no block leaves a station
for its quota; suspend allowed no clears the suspend-pending flag; the port's mirror entry is rewritten. A station above 15,
a port above 7, or a default station that is neither 0–15 nor FFH, is refused. The details of SET QUOTA, and the value of
its refusal, are free values (log 5). That the rewriting raises the entry's change count even where the stored values were
the same is the model's choice (log 4). -/
def Obligations.SettingsAreStoredWithinLimits : Prop :=
  ((∀ (c : CardNo) (s : State) (st : StationNo), MemoryOk s → Serving .setQuota c s → cardNum s c 8 = st.val →
     ∃ t, exec .setQuota s = .next t ∧
       AnswerStands c (openAnswer s .ok s.stations[st].holdings) t ∧ MemoryKept s t (AnswerField c) ∧
       t = { s with
         mem := t.mem, cards := put s.cards c .answered, serving := none
         notice := s.notice ||| stationBit (cardStation c), stationCount := t.stationCount
         openCount := s.openCount + 1
         stations := put s.stations st
           { s.stations[st] with quota := if 96 < cardHalfNum s c 9 then 96 else cardHalfNum s c 9 } }) ∧
   ∀ (c : CardNo) (s : State), MemoryOk s → Serving .setQuota c s → 15 < cardNum s c 8 →
     ∃ t, exec .setQuota s = .next t ∧
       OnlyAnswered c (openAnswer s .badArgument (Config.openValue s.openCount)) (useOpen s) t) ∧
  (∀ (c : CardNo) (s : State) (p : PortNo), MemoryOk s → Serving .setPrinter c s → cardNum s c 8 = p.val →
    ∃ t, exec .setPrinter s = .next t ∧ AnswerStands c { outcome := .ok } t ∧ MemoryKept s t (AnswerField c) ∧
      t.portCount[p] = s.portCount[p] + 1 ∧
      t = { s with
        mem := t.mem, cards := put s.cards c .answered, serving := none
        notice := s.notice ||| stationBit (cardStation c), portCount := t.portCount
        printers := put s.printers p
          { s.printers[p] with
            suspendPending := s.printers[p].suspendPending && decide (cardNum s c 11 ≠ 0) }
        printerSet := put s.printerSet p
          { pageTimeout := if cardNum s c 9 < 5 then 5 else cardNum s c 9
            reconnectWindow := cardNum s c 10, suspendAllowed := decide (cardNum s c 11 ≠ 0) } }) ∧
  (∀ (c : CardNo) (s : State) (p : PortNo) (d : Option StationNo), MemoryOk s → Serving .setScanner c s →
    cardNum s c 8 = p.val → (match d with | some st => cardNum s c 13 = st.val | none => cardNum s c 13 = 0xFF) →
    let maximum := min (max (cardHalfNum s c 11) 5) 600
    ∃ t, exec .setScanner s = .next t ∧ AnswerStands c { outcome := .ok } t ∧ MemoryKept s t (AnswerField c) ∧
      t.portCount[p] = s.portCount[p] + 1 ∧
      t = { s with
        mem := t.mem, cards := put s.cards c .answered, serving := none
        notice := s.notice ||| stationBit (cardStation c), portCount := t.portCount
        scannerSet := put s.scannerSet p
          { defaultHold := min (min (max (cardHalfNum s c 9) 5) 600) maximum, maximumHold := maximum
            defaultStation := d, repeatWindow := min (cardNum s c 14) 10 } }) ∧
  ∀ (c : CardNo) (s : State), MemoryOk s →
    (Serving .setPrinter c s → 7 < cardNum s c 8 →
      ∃ t, exec .setPrinter s = .next t ∧ OnlyAnswered c { outcome := .noDevice } s t) ∧
    (Serving .setScanner c s → 7 < cardNum s c 8 →
      ∃ t, exec .setScanner s = .next t ∧ OnlyAnswered c { outcome := .noDevice } s t) ∧
    (Serving .setScanner c s → cardNum s c 8 ≤ 7 → 15 < cardNum s c 13 → cardNum s c 13 ≠ 0xFF →
      ∃ t, exec .setScanner s = .next t ∧ OnlyAnswered c { outcome := .badArgument } s t)

/-- SET ZONE (R104–R106): the first check that fails answers. An accepted one: within its limits, on a port with fewer than eight other ACTIVE zones, none of which it
overlaps, the zone takes the rectangle, station, orientation, target, threshold and wake flag given; the answer value
tells whether it was ACTIVE. Contacts are untouched. That the port entry's change count rises even where it shows the same is
the model's choice (log 4). -/
def Obligations.SetZoneMakesAZoneActive : Prop :=
  (∀ (c : CardNo) (s : State) (z : ZoneNo) (p : PortNo) (st : StationNo) (o : Orientation) (m : Mapping),
    MemoryOk s → Serving .setZone c s → cardNum s c 8 = z.val → cardNum s c 9 = p.val → cardNum s c 18 = st.val →
    cardNum s c 19 = (match o with | .r0 => 0 | .r90 => 1 | .r180 => 2 | .r270 => 3) →
    m = { x0 := cardHalfNum s c 10, y0 := cardHalfNum s c 12, x1 := cardHalfNum s c 14, y1 := cardHalfNum s c 16
          orientation := o, width := cardHalfNum s c 20, height := cardHalfNum s c 22, threshold := cardNum s c 24 } →
    MappingOk m → ((activeZones s p).filter (· ≠ z)).length < 8 →
    (∀ y a, s.zones[(y : ZoneNo)] = some a → y ≠ z → a.port = p →
      ¬ (m.x0 < a.map.x1 ∧ a.map.x0 < m.x1 ∧ m.y0 < a.map.y1 ∧ a.map.y0 < m.y1)) →
    ∃ t, exec .setZone s = .next t ∧
      AnswerStands c { outcome := .ok, value := if s.zones[z] = none then 0 else 1 } t ∧
      MemoryKept s t (AnswerField c) ∧ t.portCount[p] = s.portCount[p] + 1 ∧
      t = { s with
        mem := t.mem, cards := put s.cards c .answered, serving := none
        notice := s.notice ||| stationBit (cardStation c), portCount := t.portCount
        zones := put s.zones z (some { port := p, map := m, station := st, wake := decide (cardNum s c 25 ≠ 0) }) }) ∧
  ∀ (c : CardNo) (s : State), MemoryOk s → Serving .setZone c s →
    let rivals := (List.finRange 16).filter fun y : ZoneNo =>
      y.val ≠ cardNum s c 8 && s.zones[y].any fun a => a.port.val = cardNum s c 9
    let overlap := fun y : ZoneNo => y ∈ rivals ∧ ∃ a, s.zones[y] = some a ∧
      cardHalfNum s c 10 < a.map.x1 ∧ a.map.x0 < cardHalfNum s c 14 ∧
      cardHalfNum s c 12 < a.map.y1 ∧ a.map.y0 < cardHalfNum s c 16
    FirstFailureAnswers .setZone c s
      [check (cardNum s c 8 ≤ 15) { outcome := .badArgument },
       check (cardNum s c 9 ≤ 7) { outcome := .badArgument, detail := 1 },
       check (cardHalfNum s c 10 < cardHalfNum s c 14 ∧ cardHalfNum s c 14 ≤ 4096 ∧
           cardHalfNum s c 12 < cardHalfNum s c 16 ∧ cardHalfNum s c 16 ≤ 4096)
         { outcome := .badArgument, detail := 2 },
       check (cardNum s c 18 ≤ 15) { outcome := .badArgument, detail := 3 },
       check (cardNum s c 19 ≤ 3) { outcome := .badArgument, detail := 4 },
       check (1 ≤ cardHalfNum s c 20 ∧ cardHalfNum s c 20 ≤ 4096 ∧ 1 ≤ cardHalfNum s c 22 ∧ cardHalfNum s c 22 ≤ 4096)
         { outcome := .badArgument, detail := 5 },
       check (rivals.length < 8) { outcome := .queueFull },
       (∀ y, ¬ overlap y, fun a => ∃ y, overlap y ∧ (∀ z < y, ¬ overlap z) ∧ a = { outcome := .overlap, detail := y.val })]

/-- CLEAR ZONE (R107): an index above 15 is refused; an UNUSED zone is answered with value 0; an ACTIVE one becomes UNUSED,
its port's mirror entry is rewritten, and the value is 1. Contacts go on as they were. -/
def Obligations.ClearZoneMakesAZoneUnused : Prop :=
  ∀ (c : CardNo) (s : State), MemoryOk s → Serving .clearZone c s →
    (15 < cardNum s c 8 → ∃ t, exec .clearZone s = .next t ∧ OnlyAnswered c { outcome := .badArgument } s t) ∧
    ∀ z : ZoneNo, cardNum s c 8 = z.val →
      (s.zones[z] = none → ∃ t, exec .clearZone s = .next t ∧ OnlyAnswered c { outcome := .ok } s t) ∧
      ∀ old, s.zones[z] = some old →
        ∃ t, exec .clearZone s = .next t ∧ AnswerStands c { outcome := .ok, value := 1 } t ∧
          MemoryKept s t (AnswerField c) ∧ t.portCount[old.port] = s.portCount[old.port] + 1 ∧
          t = { s with
            mem := t.mem, cards := put s.cards c .answered, serving := none
            notice := s.notice ||| stationBit (cardStation c), portCount := t.portCount, zones := put s.zones z none }

/-- SET PORT (R148): a port above 7, or a set with its four lowest flags clear, is refused; otherwise the advertised set takes
those flags, the previous set is answered, and an introduction in progress and an UP link keep what they have. That the
change count rises even where the set given is the one stored (log 4), and that a request with both faults is answered
detail 0, for its port (log 22), are the model's choice. -/
def Obligations.SetPortStoresThePaceSet : Prop :=
  ∀ (c : CardNo) (s : State), MemoryOk s → Serving .setPort c s →
    (7 < cardNum s c 8 → ∃ t, exec .setPort s = .next t ∧ OnlyAnswered c { outcome := .badArgument } s t) ∧
    ∀ p : PortNo, cardNum s c 8 = p.val →
      (cardNum s c 9 % 16 = 0 →
        ∃ t, exec .setPort s = .next t ∧ OnlyAnswered c { outcome := .badArgument, detail := 1 } s t) ∧
      (cardNum s c 9 % 16 ≠ 0 →
        ∃ t, exec .setPort s = .next t ∧
          AnswerStands c { outcome := .ok, value := s.ports[p].advertised.toNat } t ∧ MemoryKept s t (AnswerField c) ∧
          t.portCount[p] = s.portCount[p] + 1 ∧ (t.ports[p].advertised).toNat = cardNum s c 9 % 16 ∧
          t = { s with
            mem := t.mem, cards := put s.cards c .answered, serving := none
            notice := s.notice ||| stationBit (cardStation c), portCount := t.portCount
            ports := put s.ports p { s.ports[p] with advertised := t.ports[p].advertised } })

/-- ACK PORT (R149): a port above 7 is refused; otherwise the lost latch is cleared; a FAILED or QUARANTINED port becomes
DOWN with its profile kept and its babble count and times cleared (value 1), any other keeps its link state (value 0); no
PORT CHANGE arises and the mirror entry is rewritten. That its change count rises even where it shows the same is the model's
choice (log 4). -/
def Obligations.AckPortClearsTheLatch : Prop :=
  ∀ (c : CardNo) (s : State), MemoryOk s → Serving .ackPort c s →
    (7 < cardNum s c 8 → ∃ t, exec .ackPort s = .next t ∧ OnlyAnswered c { outcome := .badArgument } s t) ∧
    ∀ p : PortNo, cardNum s c 8 = p.val →
      ∃ t, exec .ackPort s = .next t ∧ MemoryKept s t (AnswerField c) ∧ t.portCount[p] = s.portCount[p] + 1 ∧
        t.ports[p].lost = false ∧ t.ports[p].profile = s.ports[p].profile ∧
        t.ports[p].advertised = s.ports[p].advertised ∧ (∀ q : PortNo, q ≠ p → t.ports[q] = s.ports[q]) ∧
        (s.ports[p].link = .failed ∨ s.ports[p].link = .quarantined →
          AnswerStands c { outcome := .ok, value := 1 } t ∧ t.ports[p].link = .down ∧ t.ports[p].babbleCount = 0 ∧
          t.ports[p].babbleTimes = []) ∧
        (s.ports[p].link = .down ∨ s.ports[p].link = .introducing ∨ s.ports[p].link = .up →
          AnswerStands c { outcome := .ok } t ∧ t.ports[p] = { s.ports[p] with lost := false }) ∧
        t = { s with mem := t.mem, cards := put s.cards c .answered, serving := none, ports := t.ports,
                     notice := s.notice ||| stationBit (cardStation c), portCount := t.portCount }

/-! ### Quiet hours -/

/-- QUIET, WAKE and WAKE_TOUCH (R179, R180, R181): an accepted one moves the part state, gives station 0 its PART STATE
record and tells the three routers; a wake records its cause, QUIET keeps the last one. One taken in the wrong part state
is answered BAD STATE, and a wake-touch report is then ignored. That of several reports the oldest is taken first is the
model's choice (log 23). -/
def Obligations.QuietAndWakeMoveThePartState : Prop :=
  (∀ (c : CardNo) (s : State), MemoryOk s → RingsOk s → Serving .quiet c s →
    (s.part = .running → ∃ t, exec .quiet s = .next t ∧ AnswerStands c { outcome := .ok } t ∧
      ToldThenAnswered c (giveStatus 0 (.partState .running .quiet s.wake) s) t ∧
      MemoryKept s t (fun a => AnswerField c a ∨ InRing 0 a) ∧
      t = { s with
        mem := t.mem, cards := put s.cards c .answered, serving := none, notice := t.notice, delivery := t.delivery
        part := .quiet, quietPrint := s.quietPrint ++ [.enter], quietScan := s.quietScan ++ [.enter]
        quietTouch := s.quietTouch ++ [.enter] }) ∧
    (s.part = .quiet → ∃ t, exec .quiet s = .next t ∧ OnlyAnswered c { outcome := .badState } s t)) ∧
  (∀ (c : CardNo) (s : State), MemoryOk s → RingsOk s → Serving .wake c s →
    (s.part = .quiet → ∃ t, exec .wake s = .next t ∧ AnswerStands c { outcome := .ok } t ∧
      ToldThenAnswered c (giveStatus 0 (.partState .quiet .running .request) s) t ∧
      MemoryKept s t (fun a => AnswerField c a ∨ InRing 0 a) ∧
      t = { s with
        mem := t.mem, cards := put s.cards c .answered, serving := none, notice := t.notice, delivery := t.delivery
        part := .running, wake := .request, quietPrint := s.quietPrint ++ [.leave]
        quietScan := s.quietScan ++ [.leave], quietTouch := s.quietTouch ++ [.leave] }) ∧
    (s.part = .running → ∃ t, exec .wake s = .next t ∧ OnlyAnswered c { outcome := .badState } s t)) ∧
  ∀ (z : ZoneNo) (rest : List ZoneNo) (s : State), RingsOk s → s.wakeReports = z :: rest →
    (s.part = .quiet → ∃ t, exec .wakeTouch s = .next t ∧
      Told (giveStatus 0 (.partState .quiet .running (.touch z)) s) t ∧
      MemoryKept s t (InRing 0) ∧
      t = { s with
        mem := t.mem, notice := t.notice, delivery := t.delivery, part := .running, wake := .touch z
        wakeReports := rest, quietPrint := s.quietPrint ++ [.leave], quietScan := s.quietScan ++ [.leave]
        quietTouch := s.quietTouch ++ [.leave] }) ∧
    (s.part ≠ .quiet → exec .wakeTouch s = .next { s with wakeReports := rest })

/-- PRINTERS_ENTER_QUIET and PRINTERS_LEAVE_QUIET (R78, R80): SENDING and IDLE printers become QUIESCED, and every printer
keeps its jobs and its page in flight. At the wake a QUIESCED printer with a page in flight goes on with it, one with a job
opens its page at its restart point, one without chooses (R63): the chosen job's page opens, or it is IDLE; no other printer
and no job but the chosen ones changes. That a page's frames join the send list of a port with a printer alone is the model's choice (log 20). -/
def Obligations.PrintersTakeTheirQuietNotices : Prop :=
  (∀ (s : State) (rest : List QuietNotice), s.quietPrint = .enter :: rest →
    ∃ t, exec .printersEnterQuiet s = .next t ∧
      (∀ p : PortNo, t.printers[p] =
        { s.printers[p] with
          state := if s.printers[p].state = .sending ∨ s.printers[p].state = .idle then .quiesced
            else s.printers[p].state }) ∧
      t = { s with quietPrint := rest, printMode := .quiet, printers := t.printers, portCount := t.portCount }) ∧
  ∀ (s : State) (rest : List QuietNotice), s.quietPrint = .leave :: rest →
    ∃ t, exec .printersLeaveQuiet s = .next t ∧
      (∀ p : PortNo, s.printers[p].state ≠ .quiesced → t.printers[p] = s.printers[p] ∧ t.ports[p] = s.ports[p]) ∧
      (∀ p : PortNo, s.printers[p].state = .quiesced →
        (s.printers[p].current ≠ none → s.printers[p].page ≠ none →
          t.printers[p] = { s.printers[p] with state := .sending } ∧ t.ports[p] = s.ports[p]) ∧
        (∀ j, s.printers[p].current = some j → s.printers[p].page = none →
          t.printers[p].state = .sending ∧ t.printers[p].current = some j ∧ t.printers[p].page ≠ none ∧
          PageOpened p s.jobs[j] { s.printers[p] with state := .sending } s t) ∧
        (s.printers[p].current = none → s.printers[p].suspended ≠ none ∨ s.printers[p].queue ≠ [] →
          t.printers[p].state = .sending ∧ t.printers[p].page ≠ none ∧
          ∃ j, t.printers[p].current = some j ∧ t.jobs[j].state = .printing ∧
            nextJob? s s.printers[p] = some j ∧ t.jobs[j] = { s.jobs[j] with state := .printing }) ∧
        (s.printers[p].current = none → Chose p { s with printMode := .running } t) ∧
        (s.printers[p].current = none → s.printers[p].suspended = none → s.printers[p].queue = [] →
          t.printers[p] = { s.printers[p] with state := .idle } ∧ t.ports[p] = s.ports[p])) ∧
      (∀ j : JobNo, (∀ p : PortNo, s.printers[p].state = .quiesced → s.printers[p].current = none →
          nextJob? s s.printers[p] ≠ some j) → t.jobs[j] = s.jobs[j]) ∧
      t = { s with quietPrint := rest, printMode := .running, printers := t.printers, ports := t.ports, jobs := t.jobs,
                   portCount := t.portCount, jobCount := t.jobCount }

/-- SCANNERS_ENTER_QUIET, SCANNERS_LEAVE_QUIET, TOUCH_ENTER_QUIET and TOUCH_LEAVE_QUIET (R100, R123): at the entry every claim
ends with reason QUIET and no one waits, each holder and waiter being given CLAIM ENDED in port and queue order; and every
contact that holds its key ends, in ascending number: its CANCEL is written and the record freed where the ring takes it, and
held where it does not. At the wake nothing is restored. -/
def Obligations.ScannersAndTouchTakeTheirQuietNotices : Prop :=
  (∀ (s : State) (rest : List QuietNotice), s.quietScan = .enter :: rest →
    ∃ t, exec .scannersEnterQuiet s = .next t ∧
      (∀ p : PortNo, t.scanners[p].queue = [] ∧ t.scanners[p].grants = s.scanners[p].grants ∧
        t.scanners[p].lastCode = s.scanners[p].lastCode ∧
        (∀ claim, s.scanners[p].state = .held claim →
          t.scanners[p].state = .free ∧ t.scanners[p].lastEnd = some (.quiet, claim.serial)) ∧
        ((∀ claim, s.scanners[p].state ≠ .held claim) →
          t.scanners[p].state = s.scanners[p].state ∧ t.scanners[p].lastEnd = s.scanners[p].lastEnd)) ∧
      (let told := given ((List.finRange 8).flatMap fun p => teardownRecords p .quiet s.scanners[p]) s
       Told told t) ∧
      MemoryKept s t (fun a => ∃ st, InRing st a) ∧
      t = { s with quietScan := rest, scanMode := .quiet, scanners := t.scanners, mem := t.mem, delivery := t.delivery,
                   notice := t.notice, portCount := t.portCount }) ∧
  (∀ (s : State) (rest : List QuietNotice), s.quietScan = .leave :: rest →
    exec .scannersLeaveQuiet s = .next { s with quietScan := rest, scanMode := .running }) ∧
  (∀ (s : State) (rest : List QuietNotice), s.quietTouch = .enter :: rest →
    ∃ t, exec .touchEnterQuiet s = .next t ∧
      (∀ n : ContactNo,
        (s.contacts[n] = none → t.contacts[n] = none) ∧
        ∀ c, s.contacts[n] = some c →
          match c.cond with
          | .closing _ _ => t.contacts[n] = some c
          | .suppressed _ _ | .ignored _ => t.contacts[n] = none
          | .live b _ => t.contacts[n] = none ∨ t.contacts[n] = some { c with cond := .closing b .cancel }) ∧
      (let told := cancelAll (fun _ => true) s
       t.contacts = told.contacts ∧ Told told t) ∧
      MemoryKept s t (fun a => ∃ st, InRing st a) ∧
      t = { s with quietTouch := rest, touchMode := .quiet, contacts := t.contacts, mem := t.mem, delivery := t.delivery,
                   notice := t.notice, portCount := t.portCount }) ∧
  ∀ (s : State) (rest : List QuietNotice), s.quietTouch = .leave :: rest →
    exec .touchLeaveQuiet s = .next { s with quietTouch := rest, touchMode := .running }

/-! ### Device links -/

/-- VALID_GROUP_RECEIVED and SYMBOL_GROUP_RECEIVED (R132, R133, R135, R138, R140, R189): sixteen data groups and the groups
FILL, OPEN, SHUT and FAULT are valid, and no other. A valid group on a DOWN port starts an introduction, unless the part is
STOPPED; every other group on an unlinked port changes nothing. On a linked port every valid group restarts the silence timer:
FILL does no more; OPEN begins a frame in place of one being received; FAULT discards the frame; a data group adds its four
bits, the last of the 101st byte babbling the frame, and has no effect outside one; SHUT ends the frame, which does what its
command does when it is good and of a known kind, and nothing otherwise, and has no effect outside one. An invalid group only
discards the frame being received. -/
def Obligations.AValidGroupStartsAnIntroduction : Prop :=
  (∀ d : BitVec 4, some (dataGroup d) =
    [0b11110, 0b01001, 0b10100, 0b10101, 0b01010, 0b01011, 0b01110, 0b01111,
     0b10010, 0b10011, 0b10110, 0b10111, 0b11010, 0b11011, 0b11100, 0b11101][d.toNat]?) ∧
  (∀ g : Group, validGroup g = true ↔
    g = 0b11111 ∨ g = 0b11000 ∨ g = 0b01101 ∨ g = 0b00111 ∨ ∃ d, g = dataGroup d) ∧
  ∀ (p : PortNo) (g : Group) (s : State), PortsOk s →
    (s.ports[p].link = .down → validGroup g = true → s.part ≠ .stopped →
      ∃ t, exec (.validGroupReceived p g) s = .next t ∧ exec (.symbolGroupReceived p g) s = .next t ∧
        t.portCount[p] = s.portCount[p] + 1 ∧
        t = { s with
          portCount := t.portCount
          ports := put s.ports p
            { s.ports[p] with
              link := .introducing, profile := none, resolved := none, pace := 1
              intro := some
                { advertised := s.ports[p].advertised, count := 0, stored := none, seenSent := false
                  seenReceived := false, attempt := { start := s.time, length := 500 }, handed := s.time }
              silence := some { start := s.time, length := 20 }
              sendList := [.profile s.ports[p].advertised]
              line := t.ports[p].line
              rx := if g = 0b11000 then some [] else none } }) ∧
    (s.ports[p].link = .down ∧ (validGroup g = false ∨ s.part = .stopped) ∨ s.ports[p].link = .failed ∨
        s.ports[p].link = .quarantined →
      exec (.validGroupReceived p g) s = .next s ∧ exec (.symbolGroupReceived p g) s = .next s) ∧
    (s.ports[p].link = .introducing ∨ s.ports[p].link = .up →
      let gives := fun (o : Out) => exec (.validGroupReceived p g) s = o ∧ exec (.symbolGroupReceived p g) s = o
      let receiving := fun (frame : List (BitVec 4)) =>
        { s with ports := put s.ports p { (heard p s).ports[p] with rx := some frame } }
      (g = 0b11111 → gives (.next (heard p s))) ∧
      (g = 0b11000 → gives (.next (receiving []))) ∧
      (g = 0b00111 → gives (.next (framed p s))) ∧
      (∀ d : BitVec 4, g = dataGroup d →
        (s.ports[p].rx = none → gives (.next (heard p s))) ∧
        ∀ frame, s.ports[p].rx = some frame →
          (frame.length < 201 → gives (.next (receiving (frame ++ [d])))) ∧
          (201 ≤ frame.length → gives (exec (.babbledFrame p) s))) ∧
      (g = 0b01101 →
        (s.ports[p].rx = none → gives (.next (heard p s))) ∧
        ∀ frame, s.ports[p].rx = some frame →
          (∀ kind payload i, GoodFrame frame kind payload → (i, kind) ∈ frameCommands p payload → gives (exec i s)) ∧
          ((∀ kind payload i, GoodFrame frame kind payload → (i, kind) ∉ frameCommands p payload) →
            gives (.next (framed p s)))) ∧
      (validGroup g = false →
        exec (.symbolGroupReceived p g) s =
          .next { s with ports := put s.ports p { s.ports[p] with rx := none } }))

/-- R132, R133: the groups of a good frame, received one after the other on a linked port, inside a frame or outside one, do what
the frame's command does whole (log 13). -/
def Obligations.FramesByGroupsAreFramesWhole : Prop :=
  ∀ (p : PortNo) (payload : List Byte) (i : Instr) (kind : Byte) (s : State), (i, kind) ∈ frameCommands p payload →
    payload.length ≤ 96 → s.ports[p].link = .introducing ∨ s.ports[p].link = .up →
    receiveGroups p
      (groupsOf (frameBody kind payload ++ halfBytes (checkOf (frameBody kind payload)))) s = exec i s

/-- R134: a frame's check is correct when the sum of its bytes plus the check is 0 modulo 65,536; a frame with any other
check leaves no trace but the restarted silence timer and the end of the frame being received; every frame the part sends
carries a correct check; and the frame of kind 31H with payload 05H, 40H is checked by 88H, FFH. -/
def Obligations.FrameCheckIsTheSum : Prop :=
  (∀ (kind : Byte) (payload : List Byte) (c0 c1 : Byte), payload.length ≤ 96 →
    goodFrame? ((frameBody kind payload ++ [c0, c1]).flatMap fun b : Byte =>
        [(b.setWidth 4 : BitVec 4), (b >>> 4).setWidth 4]) =
      if (kind.toNat + payload.length + (payload.map BitVec.toNat).sum + (c0.toNat + 256 * c1.toNat)) % 65536 = 0
      then some (kind, payload) else none) ∧
  (∀ (p : PortNo) (kind : Byte) (payload : List Byte) (c0 c1 : Byte) (s : State), payload.length ≤ 96 →
    s.ports[p].link = .introducing ∨ s.ports[p].link = .up →
    (kind.toNat + payload.length + (payload.map BitVec.toNat).sum + (c0.toNat + 256 * c1.toNat)) % 65536 ≠ 0 →
    receiveGroups p (groupsOf (frameBody kind payload ++ [c0, c1])) s = .next (framed p s)) ∧
  (∀ f : OutFrame, ∃ body c0 c1, frameBytes f = body ++ [c0, c1] ∧
    ((body.map BitVec.toNat).sum + (c0.toNat + 256 * c1.toNat)) % 65536 = 0) ∧
  frameBody 0x31 [0x05, 0x40] ++ halfBytes (checkOf (frameBody 0x31 [0x05, 0x40])) =
    [0x31, 0x02, 0x05, 0x40, 0x88, 0xFF]

/-- PROFILE (R141, R142, R145, R147): an invalid profile sets the count to 0, one unlike the stored one sets it to 1, an equal
one raises it to at most 3, and at 3 PROFILE SEEN is handed, or, when the device's PROFILE SEEN has come already, the
introduction completes as it does at that frame. On an UP port it is a loss followed by a new introduction; on any other
port, and with a payload of another length, it changes no more than the silence timer. That clearing seen-sent keeps the time
of the last handing is the model's choice (log 14). -/
def Obligations.ProfilesAreCounted : Prop :=
  (∀ (p : PortNo) (payload : List Byte) (s : State), payload.length = 5 →
    (∀ i, s.ports[p].link = .introducing → s.ports[p].intro = some i → i.seenReceived = true →
      profile? payload ≠ none → i.stored = some payload → 2 ≤ i.count → i.seenSent = false →
      exec (.profile p payload) s = exec (.profileSeen p []) { s with
        ports := put s.ports p { s.ports[p] with intro := some { i with count := 3, seenSent := true } } }) ∧
    (∀ i, s.ports[p].link = .introducing → s.ports[p].intro = some i →
        i.seenReceived = false ∨
          i.seenSent = false ∧ (profile? payload = none ∨ i.stored ≠ some payload ∨ i.count < 2) →
      ∃ t, exec (.profile p payload) s = .next t ∧ t = { framed p s with ports := t.ports } ∧
        (∀ q : PortNo, q ≠ p → t.ports[q] = s.ports[q]) ∧
        (profile? payload = none →
          t.ports[p] = { (framed p s).ports[p] with
            intro := some { i with count := 0, stored := none, seenSent := false } }) ∧
        (profile? payload ≠ none → i.stored ≠ some payload →
          t.ports[p] = { (framed p s).ports[p] with
            intro := some { i with count := 1, stored := some payload, seenSent := false } }) ∧
        (profile? payload ≠ none → i.stored = some payload → i.count < 2 ∨ i.seenSent = true →
          t.ports[p] = { (framed p s).ports[p] with intro := some { i with count := min (i.count + 1) 3 } }) ∧
        (profile? payload ≠ none → i.stored = some payload → 2 ≤ i.count → i.seenSent = false →
          t.ports[p] = { (framed p s).ports[p] with
            intro := some { i with count := 3, seenSent := true, handed := s.time }
            sendList := s.ports[p].sendList ++ [.profileSeen false] })) ∧
    (∀ d, s.ports[p].link = .up → s.ports[p].profile = some d →
      ∃ t, exec (.profile p payload) s = .next t ∧
        Told (giveStatus 0 (.portChange p .up .introducing .profileWhileUp true none) s) t ∧
        noticesOf d.kind p t = noticesOf d.kind p s ++ [.loss] ∧
        MemoryKept s t (InRing 0) ∧
        t = { s with
          ports := put s.ports p
            { s.ports[p] with
              link := .introducing, profile := none, resolved := none, pace := 1, lost := true, babbleTimes := []
              babbleCount := 0
              intro := some
                { advertised := s.ports[p].advertised
                  count := if profile? payload = none then 0 else 1
                  stored := if profile? payload = none then none else some payload
                  seenSent := false, seenReceived := false, attempt := { start := s.time, length := 500 }
                  handed := s.time }
              silence := some { start := s.time, length := 20 }
              sendList := [.profile s.ports[p].advertised], rx := none
              line := t.ports[p].line }
          mem := t.mem, delivery := t.delivery, notice := t.notice, toPrint := t.toPrint, toScan := t.toScan
          toTouch := t.toTouch, portCount := t.portCount }) ∧
    (s.ports[p].link = .down ∨ s.ports[p].link = .failed ∨ s.ports[p].link = .quarantined →
      exec (.profile p payload) s = .next s)) ∧
  ∀ (p : PortNo) (payload : List Byte) (s : State), payload.length ≠ 5 → payload.length ≤ 96 →
    exec (.profile p payload) s =
      .next (if s.ports[p].link = .introducing ∨ s.ports[p].link = .up then framed p s else s)

/-- PROFILE_SEEN (R142, R146, R147): with seen-sent clear it only sets seen-received; with seen-sent set the introduction
completes. The port becomes UP at the highest common pace, station 0 is given PORT CHANGE, and the arrival is handed, after a
kind change where a printer was DETACHED; without a common pace it becomes FAILED. On an UP port it only restarts
the silence timer and ends a frame being received; on any other port it changes nothing. -/
def Obligations.IntroductionsComplete : Prop :=
  ∀ (p : PortNo) (payload : List Byte) (s : State), payload.length ≤ 96 →
    (∀ i, s.ports[p].link = .introducing → s.ports[p].intro = some i →
      (i.seenSent = false → exec (.profileSeen p payload) s =
        .next { framed p s with
          ports := put s.ports p
            { (framed p s).ports[p] with intro := some { i with seenReceived := true } } }) ∧
      ∀ stored d, i.seenSent = true → i.stored = some stored → profile? stored = some d →
        (∀ k : Fin 4, (i.advertised &&& d.paces).getLsbD k.val = true →
          (∀ m : Fin 4, k < m → (i.advertised &&& d.paces).getLsbD m.val = false) →
          ∃ t, exec (.profileSeen p payload) s = .next t ∧
            Told (giveStatus 0 (.portChange p .introducing .up .introduced s.ports[p].lost
              (some (d.kind, k.val + 1, d.model))) s) t ∧
            noticesOf d.kind p t = noticesOf d.kind p s ++ [.arrival d] ∧
            (d.kind ≠ .printer → s.printers[p].state = .detached → t.toPrint[p] = s.toPrint[p] ++ [.kindChange]) ∧
            MemoryKept s t (InRing 0) ∧
            t = { s with
              ports := put s.ports p
                { (framed p s).ports[p] with
                  link := .up, profile := some d, resolved := some (k.val + 1), intro := none
                  sendList := [.profileSeen true] }
              mem := t.mem, delivery := t.delivery, notice := t.notice, toPrint := t.toPrint, toScan := t.toScan
              toTouch := t.toTouch, portCount := t.portCount }) ∧
        (i.advertised &&& d.paces = 0 →
          ∃ t, exec (.profileSeen p payload) s = .next t ∧
            Told (giveStatus 0 (.portChange p .introducing .failed .noCommonPace s.ports[p].lost none)
              s) t ∧
            MemoryKept s t (InRing 0) ∧
            t = { s with
              ports := put s.ports p
                { s.ports[p] with
                  link := .failed, profile := some d, resolved := none, silence := none, intro := none
                  sendList := [], line := .silent, pace := 1, rx := none }
              mem := t.mem, delivery := t.delivery, notice := t.notice, portCount := t.portCount })) ∧
    (s.ports[p].link = .up → exec (.profileSeen p payload) s = .next (framed p s)) ∧
    (s.ports[p].link = .down ∨ s.ports[p].link = .failed ∨ s.ports[p].link = .quarantined →
      exec (.profileSeen p payload) s = .next s)

/-- ATTEMPT_TIMER_EXPIRY and SILENCE_TIMER_EXPIRY (R143, R144, R146): an attempt that has lasted 500 ms starts anew under the
same advertised set; a port silent for 20 ms becomes DOWN with its latch set and its profile kept, station 0 is given PORT
CHANGE, and a device that was UP is reported lost. A timer that is not due does nothing (log 8), and a new attempt keeps the
time of the last handing (log 14): both are the model's choice. -/
def Obligations.AttemptAndSilenceTimers : Prop :=
  (∀ (p : PortNo) (i : Intro) (s : State), s.ports[p].link = .introducing → s.ports[p].intro = some i →
    exec (.attemptTimerExpiry p) s = .next
      (if (s.time - i.attempt.start).toNat < i.attempt.length then s
       else { s with
        ports := put s.ports p
          { s.ports[p] with
            intro := some
              { advertised := i.advertised, count := 0, stored := none, seenSent := false, seenReceived := false
                attempt := { start := s.time, length := 500 }, handed := i.handed } } })) ∧
  ∀ (p : PortNo) (timer : Timer) (s : State), s.ports[p].link = .introducing ∨ s.ports[p].link = .up →
    s.ports[p].silence = some timer →
    ((s.time - timer.start).toNat < timer.length → exec (.silenceTimerExpiry p) s = .next s) ∧
    (timer.length ≤ (s.time - timer.start).toNat →
      ∃ t, exec (.silenceTimerExpiry p) s = .next t ∧
        Told (giveStatus 0 (.portChange p s.ports[p].link .down .silence true none) s) t ∧
        (∀ d, s.ports[p].link = .up → s.ports[p].profile = some d →
          noticesOf d.kind p t = noticesOf d.kind p s ++ [.loss]) ∧
        (s.ports[p].link = .introducing →
          t.toPrint = s.toPrint ∧ t.toScan = s.toScan ∧ t.toTouch = s.toTouch) ∧
        MemoryKept s t (InRing 0) ∧
        t = { s with
          ports := put s.ports p
            { s.ports[p] with
              link := .down, lost := true, resolved := none, silence := none, intro := none, sendList := []
              line := .silent, pace := 1, rx := none, babbleTimes := [], babbleCount := 0 }
          mem := t.mem, delivery := t.delivery, notice := t.notice, toPrint := t.toPrint, toScan := t.toScan
          toTouch := t.toTouch, portCount := t.portCount })

/-- SEND_FRAME, PACE_SWITCH, PROFILE_RESEND and PROFILE_SEEN_RESEND (R136, R140, R142): frames leave the send list in order,
and FILL when it is empty; an unlinked port sends nothing. The pace switches after the last PROFILE SEEN of an
UP link. PROFILE, or PROFILE SEEN once seen-sent is set, is handed again 10 ms after the last handing. FILL stands before
each frame, and a group's bits go out from the most significant (R189). That the frame on the line ends where the next
SEND_FRAME or PACE_SWITCH is taken (log 15), and that the 10 ms run from the last handing of either frame (log 14), are the
model's choice. -/
def Obligations.FramesAreSentInOrder : Prop :=
  (∀ f : OutFrame, lineGroups (.frame f) = 0b11111 :: groupsOf (frameBytes f) ∧
    lineBits (.frame f) = (lineGroups (.frame f)).flatMap fun g =>
      [g.getLsbD 4, g.getLsbD 3, g.getLsbD 2, g.getLsbD 1, g.getLsbD 0]) ∧
  ∀ (p : PortNo) (s : State),
    (s.ports[p].link = .introducing ∨ s.ports[p].link = .up → s.ports[p].line ≠ .frame (.profileSeen true) →
      (s.ports[p].sendList = [] →
        exec (.sendFrame p) s = .next { s with ports := put s.ports p { s.ports[p] with line := .fill } }) ∧
      ∀ f rest, s.ports[p].sendList = f :: rest →
        exec (.sendFrame p) s =
          .next { s with ports := put s.ports p { s.ports[p] with line := .frame f, sendList := rest } }) ∧
    (s.ports[p].link = .down ∨ s.ports[p].link = .failed ∨ s.ports[p].link = .quarantined →
      exec (.sendFrame p) s = .next s ∧ exec (.paceSwitch p) s = .next s) ∧
    (∀ k, s.ports[p].link = .up → s.ports[p].line = .frame (.profileSeen true) → s.ports[p].resolved = some k →
      exec (.sendFrame p) s = .next s ∧
      exec (.paceSwitch p) s =
        .next { s with ports := put s.ports p { s.ports[p] with pace := k, line := .fill } }) ∧
    ∀ i, s.ports[p].link = .introducing → s.ports[p].intro = some i →
      exec (.profileResend p) s = .next
        (if i.seenSent = false ∧ 10 ≤ (s.time - i.handed).toNat then
          { s with
            ports := put s.ports p
              { s.ports[p] with
                sendList := s.ports[p].sendList ++ [.profile i.advertised]
                intro := some { i with handed := s.time } } }
         else s) ∧
      exec (.profileSeenResend p) s = .next
        (if i.seenSent = true ∧ 10 ≤ (s.time - i.handed).toNat then
          { s with
            ports := put s.ports p
              { s.ports[p] with
                sendList := s.ports[p].sendList ++ [.profileSeen false]
                intro := some { i with handed := s.time } } }
         else s)

/-- BABBLED_FRAME (R135, R136, R139, R146): on a linked port it is counted, and its time kept; the third within 1 s
QUARANTINES the port, whose count, times and profile are kept, whose frame on the line is cut with FAULT, and whose device,
when UP, is reported lost. An OPEN and 202 data groups, the last of them that of the frame's 101st byte, received one after
the other do the same as the command. On any other port it changes nothing. -/
def Obligations.BabbleQuarantinesAPort : Prop :=
  ∀ (p : PortNo) (s : State),
    (s.ports[p].link = .introducing ∨ s.ports[p].link = .up →
      ((∀ older newer, s.ports[p].babbleTimes = [older, newer] → 1000 ≤ (s.time - older).toNat) →
        s.ports[p].babbleTimes.length ≤ 2 →
        ∃ t, exec (.babbledFrame p) s = .next t ∧
          t = { s with
            portCount := t.portCount
            ports := put s.ports p
              { (heard p s).ports[p] with
                rx := none, babbleCount := min (s.ports[p].babbleCount + 1) 255
                babbleTimes := s.ports[p].babbleTimes.drop (s.ports[p].babbleTimes.length - 1) ++ [s.time] } }) ∧
      ∀ older newer, s.ports[p].babbleTimes = [older, newer] → (s.time - older).toNat < 1000 →
        ∃ t, exec (.babbledFrame p) s = .next t ∧
          Told (giveStatus 0 (.portChange p s.ports[p].link .quarantined .babble true none) s) t ∧
          (∀ d, s.ports[p].link = .up → s.ports[p].profile = some d →
            noticesOf d.kind p t = noticesOf d.kind p s ++ [.loss]) ∧
          MemoryKept s t (InRing 0) ∧
          t = { s with
            ports := put s.ports p
              { s.ports[p] with
                link := .quarantined, lost := true, resolved := none, silence := none, intro := none, sendList := []
                line := match s.ports[p].line with
                  | .frame _ => .cut
                  | _ => .silent
                pace := 1, rx := none, babbleCount := min (s.ports[p].babbleCount + 1) 255 }
            mem := t.mem, delivery := t.delivery, notice := t.notice, toPrint := t.toPrint, toScan := t.toScan
            toTouch := t.toTouch, portCount := t.portCount }) ∧
    (∀ frame : List (BitVec 4), s.ports[p].link = .introducing ∨ s.ports[p].link = .up → frame.length = 202 →
      receiveGroups p (openGroup :: frame.map dataGroup) s = exec (.babbledFrame p) s) ∧
    (s.ports[p].link = .down ∨ s.ports[p].link = .failed ∨ s.ports[p].link = .quarantined →
      exec (.babbledFrame p) s = .next s)

/-! ### Devices that leave and come back -/

/-- PRINTER_LINK_LOSS, SCANNER_LINK_LOSS and PANEL_LINK_LOSS (R74, R99, R122), taken as the oldest notice handed: an attached
printer is DETACHED with its page dropped and the reconnect timer started, and its current job ends if it was cancel-pending;
a scanner becomes ABSENT, its claim ending DEVICE LOST and no one waiting, and its holder, then its waiters, are given CLAIM
ENDED; a panel's contacts that hold their keys end in ascending number, each CANCEL written and the record freed where the ring
takes it, and held where it does not. That page bytes sent is 0 when the page is dropped is the model's choice (log 21). -/
def Obligations.LinkLossesReachTheOwners : Prop :=
  (∀ (p : PortNo) (rest : List PortNotice) (s : State), s.toPrint[p] = .loss :: rest →
    (attached s.printers[p] = true → (∀ j, s.printers[p].current = some j → s.jobs[j].cancelPending = false) →
      ∃ t, exec (.printerLinkLoss p) s = .next t ∧
        t = { s with
          toPrint := put s.toPrint p rest, portCount := t.portCount
          printers := put s.printers p
            { s.printers[p] with
              state := .detached, hold := none, page := none, sent := 0, credits := 0, pageTimer := none
              reconnect := some { start := s.time, length := s.printerSet[p].reconnectWindow * 1000 } } }) ∧
    (∀ j, attached s.printers[p] = true → s.printers[p].current = some j → s.jobs[j].cancelPending = true →
      s.jobs[j].port = p →
      ∃ t, exec (.printerLinkLoss p) s = .next t ∧
        t.printers = put s.printers p
          { s.printers[p] with
            state := .detached, hold := none, page := none, sent := 0, credits := 0, pageTimer := none
            reconnect := some { start := s.time, length := s.printerSet[p].reconnectWindow * 1000 }
            current := none, suspended := s.printers[p].suspended.filter (· ≠ j)
            queue := s.printers[p].queue.filter (· ≠ j), suspendPending := false } ∧
        t.jobs = put s.jobs j { s.jobs[j] with state := .free } ∧
        Told (giveStatusTo s.jobs[j].owner (.jobEnded j p s.jobs[j].serial s.jobs[j].pagesDone
          s.jobs[j].pageCount s.jobs[j].reason) s) t ∧
        Freed s.jobs[j] s t ∧
        MemoryKept s t (fun a => ∃ st, s.jobs[j].owner = some st ∧ InRing st a) ∧
        t = { s with
          toPrint := put s.toPrint p rest, printers := t.printers, jobs := t.jobs, blocks := t.blocks, free := t.free
          stations := t.stations, mem := t.mem, delivery := t.delivery, notice := t.notice, portCount := t.portCount
          jobCount := t.jobCount, stationCount := t.stationCount, poolCount := t.poolCount }) ∧
    (attached s.printers[p] = false →
      exec (.printerLinkLoss p) s = .next { s with toPrint := put s.toPrint p rest })) ∧
  (∀ (p : PortNo) (rest : List PortNotice) (s : State), s.toScan[p] = .loss :: rest →
    (s.scanners[p].state ≠ .absent →
      ∃ t, exec (.scannerLinkLoss p) s = .next t ∧
        (let told := given (teardownRecords p .deviceLost s.scanners[p]) s
         Told told t) ∧
        MemoryKept s t (fun a => ∃ st, InRing st a) ∧
        t = { s with
          toScan := put s.toScan p rest
          scanners := put s.scanners p
            { s.scanners[p] with
              state := .absent, queue := [], lastCode := none
              lastEnd := match s.scanners[p].state with
                | .held claim => some (.deviceLost, claim.serial)
                | _ => s.scanners[p].lastEnd }
          mem := t.mem, delivery := t.delivery, notice := t.notice, portCount := t.portCount }) ∧
    (s.scanners[p].state = .absent →
      exec (.scannerLinkLoss p) s = .next { s with toScan := put s.toScan p rest })) ∧
  ∀ (p : PortNo) (rest : List PortNotice) (s : State), s.toTouch[p] = .loss :: rest →
    ∃ t, exec (.panelLinkLoss p) s = .next t ∧
      (∀ n : ContactNo, ∀ c, s.contacts[n] = some c →
        (c.port ≠ p → t.contacts[n] = some c) ∧
        (c.port = p →
          match c.cond with
          | .closing _ _ => t.contacts[n] = some c
          | .suppressed _ _ | .ignored _ => t.contacts[n] = none
          | .live b _ => t.contacts[n] = none ∨ t.contacts[n] = some { c with cond := .closing b .cancel })) ∧
      (let told := cancelAll (fun q => decide (q = p)) s
       t.contacts = told.contacts ∧ Told told t) ∧
      MemoryKept s t (fun a => ∃ st, InRing st a) ∧
      t = { s with
        toTouch := put s.toTouch p rest, panels := put s.panels p none, contacts := t.contacts, mem := t.mem
        delivery := t.delivery, notice := t.notice, portCount := t.portCount }

/-- PRINTER_ARRIVAL, PRINTER_RETURN, SCANNER_ARRIVAL and PANEL_ARRIVAL (R57, R75, R83, R146), taken as the oldest notice
handed: an ABSENT printer comes up IDLE, or QUIESCED in QUIET; a DETACHED one takes the new window and resumes its current
job's page, owed in QUIET, or without a current job chooses; an ABSENT scanner becomes FREE; a panel's contact limit is taken.
That a page's frames join the send list of a port with a printer alone (log 20), and that page bytes sent is 0 in the record
that comes up (log 21), are the model's choice. -/
def Obligations.ArrivalsReachTheOwners : Prop :=
  (∀ (p : PortNo) (d : DevProfile) (rest : List PortNotice) (s : State), s.toPrint[p] = .arrival d :: rest →
    (s.printers[p].state = .absent →
      ∃ t, exec (.printerArrival p) s = .next t ∧
        t = { s with
          toPrint := put s.toPrint p rest, portCount := t.portCount
          printers := put s.printers p
            { state := if s.printMode = .running then .idle else .quiesced, current := none, suspended := none
              queue := [], suspendPending := false, page := none, sent := 0, credits := 0
              window := d.further.toNat, pageTimer := none, reconnect := none, hold := none, paperLow := false } }) ∧
    (s.printers[p].state = .detached →
      let back : Printer := { s.printers[p] with reconnect := none, window := d.further.toNat, credits := 0, paperLow := false }
      ∃ t, exec (.printerReturn p) s = .next t ∧
        (∀ j, s.printers[p].current = some j →
          t.jobs = put s.jobs j { s.jobs[j] with transients := 0 } ∧
          (s.printMode = .running → PageOpened p s.jobs[j] { back with state := .sending } s t) ∧
          (s.printMode = .quiet → t.printers[p] = { back with state := .quiesced } ∧ t.ports = s.ports)) ∧
        (s.printers[p].current = none →
          let m := { s with printers := put s.printers p back }
          Chose p m t ∧ t.jobs = chosenJobs p m) ∧
        (∀ q : PortNo, q ≠ p → t.printers[q] = s.printers[q] ∧ t.ports[q] = s.ports[q]) ∧
        t = { s with
          toPrint := put s.toPrint p rest, jobs := t.jobs, ports := t.ports, printers := t.printers
          portCount := t.portCount, jobCount := t.jobCount })) ∧
  (∀ (p : PortNo) (d : DevProfile) (rest : List PortNotice) (s : State), s.toScan[p] = .arrival d :: rest →
    s.scanners[p].state = .absent →
    ∃ t, exec (.scannerArrival p) s = .next t ∧
      t = { s with
        toScan := put s.toScan p rest, portCount := t.portCount
        scanners := put s.scanners p { s.scanners[p] with state := .free, lastCode := none } }) ∧
  ∀ (p : PortNo) (d : DevProfile) (rest : List PortNotice) (s : State), s.toTouch[p] = .arrival d :: rest →
    exec (.panelArrival p) s =
      .next { s with toTouch := put s.toTouch p rest, panels := put s.panels p (some d.further.toNat) }

/-- KIND_CHANGE and RECONNECT_TIMER_EXPIRY (R51, R52, R76): at a DETACHED printer a device of another kind, or the end of its
reconnect window, ends every job of the printer DEVICE LOST, or with its pending reason: the current job, the suspended one,
then the queue from head to tail. In that order their blocks join the free list and their owners are given JOB ENDED; the
owners' holdings fall, and the record becomes ABSENT. That page bytes sent is 0 in the ABSENT record is the model's choice
(log 21). -/
def Obligations.LostPrintersGiveUpTheirJobs : Prop :=
  ∀ (p : PortNo) (i : Instr) (s : State), JobsOk s →
    (i = .kindChange p ∧ s.printers[p].state = .detached ∧ (∃ rest, s.toPrint[p] = .kindChange :: rest)) ∨
      (i = .reconnectTimerExpiry p ∧
        ∃ timer, s.printers[p].reconnect = some timer ∧ timer.length ≤ (s.time - timer.start).toNat) →
    let lost := s.printers[p].current.toList ++ s.printers[p].suspended.toList ++ s.printers[p].queue
    let told := given (endedRecords s .deviceLost lost) s
    ∃ t, exec i s = .next t ∧
      t.toPrint = (if i = .kindChange p then put s.toPrint p s.toPrint[p].tail else s.toPrint) ∧
      t.printers = put s.printers p
        { state := .absent, current := none, suspended := none, queue := [], suspendPending := false, page := none
          sent := 0, credits := 0, window := s.printers[p].window, pageTimer := none, reconnect := none, hold := none
          paperLow := false } ∧
      (∀ j : JobNo, s.jobs[j].state = .free ∨ s.jobs[j].port ≠ p → t.jobs[j] = s.jobs[j]) ∧
      (∀ j : JobNo, s.jobs[j].state ≠ .free → s.jobs[j].port = p →
        t.jobs[j] = { s.jobs[j] with
          state := .free, reason := if s.jobs[j].cancelPending then s.jobs[j].reason else .deviceLost }) ∧
      (∀ b : BlockNo, t.blocks[b] = if b ∈ lost.flatMap fun j => s.jobs[j].blocks then .free else s.blocks[b]) ∧
      Joined (lost.flatMap fun j => s.jobs[j].blocks) s t ∧
      (∀ st : StationNo, t.stations[st] = { s.stations[st] with
        holdings := s.stations[st].holdings -
          ((lost.filter fun j => s.jobs[j].owner = some st).map fun j => s.jobs[j].blocks.length).sum }) ∧
      Told told t ∧
      t = { s with
        toPrint := t.toPrint, printers := t.printers, jobs := t.jobs, blocks := t.blocks, free := t.free
        stations := t.stations, mem := t.mem, delivery := t.delivery, notice := t.notice, portCount := t.portCount
        jobCount := t.jobCount, stationCount := t.stationCount, poolCount := t.poolCount }

/-! ### Pages -/

/-- PAGE_DONE (R61–R63, R65, R66, R36): for the page in flight in stage CLOSED, and no other, the page is counted. Then a
cancel-pending job ends with its reason, a job out of pages ends COMPLETED, its blocks FREE, and the printer chooses; or, with
the suspend-pending flag set and an urgent queue head, the job is SUSPENDED and the printer chooses; or the next page is
opened at the restart point moved past the page, but not while QUIESCED. That page bytes sent is 0 while no page is in flight
(log 21), and that the frame of a re-introduced printer whose old loss still waits acts on the record as it stands (log 18),
are the model's choice. -/
def Obligations.PagesAreCounted : Prop :=
  ∀ (p : PortNo) (n : Byte) (j : JobNo) (pg : PageInFlight) (s : State), JobsOk s → UpWith .printer p s →
    s.printers[p].state = .sending ∨ s.printers[p].state = .quiesced →
    s.printers[p].current = some j → s.printers[p].page = some pg →
    let last := s.jobs[j].pagesDone + 1 = s.jobs[j].pageCount
    let counted : Job := { s.jobs[j] with
      pagesDone := s.jobs[j].pagesDone + 1, transients := 0
      restart := if last then s.jobs[j].restart
        else s.jobs[j].restart + 4 + pageLength s.mem s.jobs[j].blocks s.jobs[j].restart }
    let progress := match s.jobs[j].owner with
      | some st => if s.jobs[j].notices then giveProgress st (.jobProgress j p s.jobs[j].serial
          (s.jobs[j].pagesDone + 1) s.jobs[j].pageCount) s else s
      | none => s
    let urgent := ∃ h, s.printers[p].queue.head? = some h ∧ rank s.jobs[h].cls < 2
    (pg.stage ≠ .closed ∨ pg.page ≠ n.toNat → exec (.pageDone p [n]) s = .next (framed p s)) ∧
    (pg.stage = .closed → pg.page = n.toNat → s.jobs[j].cancelPending = true ∨
        s.jobs[j].pagesDone + 1 = s.jobs[j].pageCount →
      ∃ t, exec (.pageDone p [n]) s = .next t ∧
        t.jobs[j] = { s.jobs[j] with
          state := .free, pagesDone := s.jobs[j].pagesDone + 1, transients := 0, restart := t.jobs[j].restart
          reason := if s.jobs[j].cancelPending then s.jobs[j].reason else .completed } ∧
        (∀ b ∈ s.jobs[j].blocks, t.blocks[b] = .free) ∧ t.printers[p].current ≠ some j ∧
        t.printers[p].suspendPending = false ∧
        (let why := if s.jobs[j].cancelPending then s.jobs[j].reason else .completed
         let m := { s with
           mem := t.mem, ports := (framed p s).ports
           jobs := put s.jobs j { counted with state := .free, reason := why }
           printers := put s.printers p (emptied s.printers[p]) }
         Chose p m t ∧ t.jobs = chosenJobs p m ∧ Freed s.jobs[j] s t ∧
         Told (giveStatusTo s.jobs[j].owner (.jobEnded j p s.jobs[j].serial (s.jobs[j].pagesDone + 1)
           s.jobs[j].pageCount why) progress) t) ∧
        (∀ q : PortNo, q ≠ p → t.printers[q] = s.printers[q] ∧ t.ports[q] = s.ports[q]) ∧
        MemoryKept s t (fun a => ∃ st, s.jobs[j].owner = some st ∧ InRing st a) ∧
        t = { s with
          jobs := t.jobs, printers := t.printers, ports := t.ports, blocks := t.blocks, free := t.free
          stations := t.stations, mem := t.mem, delivery := t.delivery, notice := t.notice, portCount := t.portCount
          jobCount := t.jobCount, stationCount := t.stationCount, poolCount := t.poolCount }) ∧
    (pg.stage = .closed → pg.page = n.toNat → s.jobs[j].cancelPending = false → ¬ last →
      s.printers[p].suspendPending = true → urgent →
      ∃ t, exec (.pageDone p [n]) s = .next t ∧
        (let m := { s with
           mem := t.mem, ports := (framed p s).ports
           jobs := put s.jobs j { counted with state := .suspended, suspensions := s.jobs[j].suspensions + 1 }
           printers := put s.printers p { emptied s.printers[p] with suspended := some j } }
         Chose p m t ∧ t.jobs = chosenJobs p m) ∧
        Told progress t ∧
        (∀ q : PortNo, q ≠ p → t.printers[q] = s.printers[q] ∧ t.ports[q] = s.ports[q]) ∧
        MemoryKept s t (fun a => ∃ st, s.jobs[j].owner = some st ∧ InRing st a) ∧
        t = { s with
          jobs := t.jobs, printers := t.printers, ports := t.ports, mem := t.mem, delivery := t.delivery
          notice := t.notice, portCount := t.portCount, jobCount := t.jobCount }) ∧
    (pg.stage = .closed → pg.page = n.toNat → s.jobs[j].cancelPending = false → ¬ last →
      s.printers[p].suspendPending = false ∨ ¬ urgent → s.printers[p].state = .quiesced →
      ∃ t, exec (.pageDone p [n]) s = .next t ∧
        Told progress t ∧
        MemoryKept s t (fun a => ∃ st, s.jobs[j].owner = some st ∧ InRing st a) ∧
        t = { framed p s with
          jobs := put s.jobs j counted, printers := put s.printers p { emptied s.printers[p] with current := some j }
          mem := t.mem, delivery := t.delivery, notice := t.notice, portCount := t.portCount, jobCount := t.jobCount }) ∧
    (pg.stage = .closed → pg.page = n.toNat → s.jobs[j].cancelPending = false →
      s.jobs[j].pagesDone + 1 ≠ s.jobs[j].pageCount → s.printers[p].suspendPending = false ∨ ¬ urgent →
      s.printers[p].state = .sending →
      ∃ t, exec (.pageDone p [n]) s = .next t ∧ t.jobs = put s.jobs j counted ∧
        PageOpened p counted { s.printers[p] with suspendPending := false }
          { s with mem := t.mem, ports := (framed p s).ports } t ∧
        Told progress t ∧
        (∀ q : PortNo, q ≠ p → t.printers[q] = s.printers[q] ∧ t.ports[q] = s.ports[q]) ∧
        MemoryKept s t (fun a => ∃ st, s.jobs[j].owner = some st ∧ InRing st a) ∧
        t = { s with
          jobs := t.jobs, printers := t.printers, ports := t.ports, mem := t.mem, delivery := t.delivery
          notice := t.notice, portCount := t.portCount, jobCount := t.jobCount })

/-- CREDIT (R59, R60): credits rise to at most the window while a page is in flight. In stage DATA, with bytes remaining, one
PAGE DATA frame of min(64, rest) bytes goes out for each credit in offset order; after the last byte PAGE CLOSE follows, the
page is CLOSED and the page timer starts. Without a page in flight CREDIT is ignored. That the frame of a re-introduced
printer whose old loss still waits acts on the record as it stands is the model's choice (log 18). -/
def Obligations.CreditFeedsThePage : Prop :=
  ∀ (p : PortNo) (n : Byte) (s : State), UpWith .printer p s →
    s.printers[p].state = .sending ∨ s.printers[p].state = .quiesced →
    let credits := min (s.printers[p].credits + n.toNat) s.printers[p].window
    (s.printers[p].page = none → exec (.credit p [n]) s = .next (framed p s)) ∧
    (∀ pg, s.printers[p].page = some pg → pg.stage ≠ .data →
      exec (.credit p [n]) s =
        .next { framed p s with printers := put s.printers p { s.printers[p] with credits := credits } }) ∧
    ∀ j k, s.printers[p].current = some j → s.printers[p].page = some { page := k, stage := .data } →
      s.printers[p].sent < currentLength s j →
      let total := currentLength s j
      let frames := min credits ((total - s.printers[p].sent + 63) / 64)
      let data := (List.range frames).map fun i =>
        OutFrame.pageData s.jobs[j].serial k (s.printers[p].sent + 64 * i)
          (dataBytes s.mem s.jobs[j].blocks (s.jobs[j].restart + 4 + (s.printers[p].sent + 64 * i))
            (min 64 (total - (s.printers[p].sent + 64 * i))))
      let sent := min total (s.printers[p].sent + 64 * frames)
      exec (.credit p [n]) s =
        .next { framed p s with
          printers := put s.printers p
            { s.printers[p] with
              credits := credits - frames, sent := sent
              page := some { page := k, stage := if sent = total then .closed else .data }
              pageTimer := if sent = total then
                  some { start := s.time, length := s.printerSet[p].pageTimeout * 1000 }
                else s.printers[p].pageTimer }
          ports := put s.ports p
            { (framed p s).ports[p] with
              sendList := s.ports[p].sendList ++ data ++
                if sent = total then [.pageClose s.jobs[j].serial k] else [] } }

/-- PAGE_FAULT and PAGE_TIMER_EXPIRY (R67–R70, R59): a fault that needs a person, or a page not confirmed in time, makes the
printer HELD with its cause, the page uncounted and its frames not yet begun withdrawn, and gives PRINTER FAULT; a timeout sends
PAGE ABANDON first. HEAD HOT makes the page AWAITING READY, and the third time HELD. A cancel-pending job then ends with its
pending reason, and the printer leaves HELD and chooses (R49); a fault for another page, a HEAD HOT below the third, and one in
stage AWAITING READY leave it cancel-pending. That a page timer not yet due does nothing (log 8), that page bytes sent is 0
when the page is dropped (log 21), that PAGE ABANDON goes to a printer alone (log 20), and that the frame of a re-introduced
printer whose old loss still waits acts on the record as it stands (log 18) are the model's choice. -/
def Obligations.FaultsHoldThePrinter : Prop :=
  ∀ (p : PortNo) (j : JobNo) (pg : PageInFlight) (s : State), s.printers[p].current = some j →
    s.printers[p].page = some pg → pg.page = s.jobs[j].pagesDone + 1 →
    let kept := (s.ports[p].sendList).filter fun f => match f with
      | .pageData serial n _ _ => !(serial = s.jobs[j].serial && n = pg.page)
      | .pageClose serial n => !(serial = s.jobs[j].serial && n = pg.page)
      | _ => true
    let held := fun (cause : Cause) => { s.printers[p] with
      state := .held, hold := some cause, page := none, sent := 0, credits := 0, pageTimer := none }
    let told := fun (cause : Cause) =>
      reportFault (.printerFault p j s.jobs[j].serial pg.page cause) s.jobs[j].owner s
    let due := ∃ timer, s.printers[p].pageTimer = some timer ∧ timer.length ≤ (s.time - timer.start).toNat
    let timeoutPort := { s.ports[p] with
      sendList := kept ++ if UpWith .printer p s then [.pageAbandon pg.page] else [] }
    (JobsOk s → s.jobs[j].cancelPending = true → ∀ (i : Instr) (cause : Cause) (port : Port) (transients : Nat),
      (i = .pageTimerExpiry p ∧ due ∧ cause = .timeout ∧ port = timeoutPort ∧ transients = s.jobs[j].transients) ∨
        (∃ n code : Byte, i = .pageFault p [n, code] ∧ UpWith .printer p s ∧
          (s.printers[p].state = .sending ∨ s.printers[p].state = .quiesced) ∧ n.toNat = pg.page ∧
          port = { (framed p s).ports[p] with sendList := kept } ∧
          (code ≠ 4 ∧ transients = s.jobs[j].transients ∧
              cause = (if code = 1 then .paperOut else if code = 3 then .coverOpen else .jam) ∨
            code = 4 ∧ pg.stage ≠ .awaitingReady ∧ 2 ≤ s.jobs[j].transients ∧
              transients = s.jobs[j].transients + 1 ∧ cause = .headHot)) →
      ∃ t, exec i s = .next t ∧
        (let m := { s with
           mem := t.mem, ports := put s.ports p port
           jobs := put s.jobs j { s.jobs[j] with state := .free, transients := transients }
           printers := put s.printers p { emptied s.printers[p] with hold := none } }
         Chose p m t ∧ t.jobs = chosenJobs p m) ∧
        (∀ q : PortNo, q ≠ p → t.printers[q] = s.printers[q] ∧ t.ports[q] = s.ports[q]) ∧
        Freed s.jobs[j] s t ∧
        Told (giveStatusTo s.jobs[j].owner (.jobEnded j p s.jobs[j].serial s.jobs[j].pagesDone
          s.jobs[j].pageCount s.jobs[j].reason) (told cause)) t ∧
        MemoryKept s t (fun a => ∃ st, InRing st a) ∧
        t = { s with
          jobs := t.jobs, printers := t.printers, ports := t.ports, blocks := t.blocks, free := t.free
          stations := t.stations, mem := t.mem, delivery := t.delivery, notice := t.notice, portCount := t.portCount
          jobCount := t.jobCount, stationCount := t.stationCount, poolCount := t.poolCount }) ∧
    (∀ n code : Byte, UpWith .printer p s →
      s.printers[p].state = .sending ∨ s.printers[p].state = .quiesced →
      (n.toNat ≠ pg.page → exec (.pageFault p [n, code]) s = .next (framed p s)) ∧
      (n.toNat = pg.page → code ≠ 4 → s.jobs[j].cancelPending = false →
        ∃ t cause, exec (.pageFault p [n, code]) s = .next t ∧
          cause = (if code = 1 then .paperOut else if code = 3 then .coverOpen else .jam) ∧
          Told (told cause) t ∧ MemoryKept s t (fun a => ∃ st, InRing st a) ∧
          t = { s with
            printers := put s.printers p (held cause)
            ports := put s.ports p { (framed p s).ports[p] with sendList := kept }
            mem := t.mem, delivery := t.delivery, notice := t.notice, portCount := t.portCount }) ∧
      (n.toNat = pg.page → code = 4 → pg.stage = .awaitingReady →
        exec (.pageFault p [n, code]) s = .next (framed p s)) ∧
      (n.toNat = pg.page → code = 4 → pg.stage ≠ .awaitingReady → s.jobs[j].transients < 2 →
        ∃ t, exec (.pageFault p [n, code]) s = .next t ∧
          t = { s with
            jobs := put s.jobs j { s.jobs[j] with transients := s.jobs[j].transients + 1 }
            printers := put s.printers p
              { s.printers[p] with
                page := some { pg with stage := .awaitingReady }, credits := 0, pageTimer := none }
            ports := put s.ports p { (framed p s).ports[p] with sendList := kept } }) ∧
      (n.toNat = pg.page → code = 4 → pg.stage ≠ .awaitingReady → 2 ≤ s.jobs[j].transients →
        s.jobs[j].cancelPending = false →
        ∃ t, exec (.pageFault p [n, code]) s = .next t ∧ Told (told .headHot) t ∧
          MemoryKept s t (fun a => ∃ st, InRing st a) ∧
          t = { s with
            jobs := put s.jobs j { s.jobs[j] with transients := s.jobs[j].transients + 1 }
            printers := put s.printers p (held .headHot)
            ports := put s.ports p { (framed p s).ports[p] with sendList := kept }
            mem := t.mem, delivery := t.delivery, notice := t.notice, portCount := t.portCount })) ∧
    ∀ timer, s.printers[p].pageTimer = some timer →
      ((s.time - timer.start).toNat < timer.length → exec (.pageTimerExpiry p) s = .next s) ∧
      (timer.length ≤ (s.time - timer.start).toNat → s.jobs[j].cancelPending = false →
        ∃ t, exec (.pageTimerExpiry p) s = .next t ∧ Told (told .timeout) t ∧
          MemoryKept s t (fun a => ∃ st, InRing st a) ∧
          t = { s with
            printers := put s.printers p (held .timeout)
            ports := put s.ports p
              { s.ports[p] with
                sendList := kept ++ if UpWith .printer p s then [.pageAbandon pg.page] else [] }
            mem := t.mem, delivery := t.delivery, notice := t.notice, portCount := t.portCount })

/-- READY (R68, R58) opens a page AWAITING READY again, whole, at its restart point; PAPER (R77) is stored, and station 0 is
given PRINTER NOTE, when it differs from the last report. Both are ignored otherwise. PAGE DONE, PAGE FAULT, READY and CREDIT
are ignored by a printer that is neither SENDING nor QUIESCED or has no page in flight (R64). A frame of another device kind, or
of a payload length that does not fit its kind, is ignored, and so is every device's frame in INTRODUCING (R147): an ignored
frame restarts the silence timer, and leaves no other trace. That the frame of a re-introduced printer whose old loss still
waits acts on the record as it stands is the model's choice (log 18). -/
def Obligations.ReadyAndPaper : Prop :=
  (∀ (p : PortNo) (n code : Byte) (i : Instr) (s : State), UpWith .printer p s →
    s.printers[p].state ≠ .sending ∧ s.printers[p].state ≠ .quiesced ∨ s.printers[p].page = none →
    i ∈ [.pageDone p [n], .pageFault p [n, code], .ready p [], .credit p [n]] → exec i s = .next (framed p s)) ∧
  (∀ (p : PortNo) (payload : List Byte) (i : Instr) (kind : Byte) (sender : DeviceKind) (low high : Nat) (s : State),
    (i, kind) ∈ frameCommands p payload → deviceFrame? kind = some (sender, low, high) → payload.length ≤ 96 →
    (s.ports[p].link = .introducing → exec i s = .next (framed p s)) ∧
    (s.ports[p].link = .down ∨ s.ports[p].link = .failed ∨ s.ports[p].link = .quarantined → exec i s = .next s) ∧
    ∀ d, s.ports[p].link = .up → s.ports[p].profile = some d →
      d.kind ≠ sender ∨ payload.length < low ∨ high < payload.length → exec i s = .next (framed p s)) ∧
  ∀ (p : PortNo) (s : State), UpWith .printer p s →
    (∀ j pg, s.printers[p].current = some j → s.printers[p].page = some pg →
      s.printers[p].state = .sending ∨ s.printers[p].state = .quiesced →
      (pg.stage ≠ .awaitingReady → exec (.ready p []) s = .next (framed p s)) ∧
      (pg.stage = .awaitingReady →
        ∃ t, exec (.ready p []) s = .next t ∧ PageOpened p s.jobs[j] s.printers[p] (framed p s) t ∧
          t = { s with
            ports := put s.ports p t.ports[p], printers := put s.printers p t.printers[p], portCount := t.portCount })) ∧
    ∀ code : Byte,
      let low := decide (code ≠ 0)
      (attached s.printers[p] = true → s.printers[p].paperLow ≠ low →
        ∃ t, exec (.paper p [code]) s = .next t ∧
          Told (giveStatus 0 (.printerNote p low) s) t ∧ MemoryKept s t (InRing 0) ∧
          t = { framed p s with
            printers := put s.printers p { s.printers[p] with paperLow := low }
            mem := t.mem, delivery := t.delivery, notice := t.notice, portCount := t.portCount }) ∧
      (attached s.printers[p] = false ∨ s.printers[p].paperLow = low →
        exec (.paper p [code]) s = .next (framed p s))

/-! ### Scans -/

/-- SCAN (R95–R98) from an UP scanner: it is ignored at an ABSENT record, and with a code of length 0 or above 64. With a code
of 1 to 64 bytes a repeat is accepted and delivered to no one; on a HELD scanner a code that can be written is delivered with
ACCEPT, restarts the idle timer and lowers a count above 0, whose last ends the claim COUNT SPENT; one that cannot is answered
REJECT with a gap owed; on a FREE one it goes to the default station that can take it, in RUNNING, and is answered REJECT
otherwise. That the frame of a re-introduced scanner whose old loss still waits acts on the record as it stands is the model's
choice (log 18). -/
def Obligations.ScansAreDelivered : Prop :=
  (∀ (p : PortNo) (sym : Byte) (code : List Byte) (s : State), UpWith .scanner p s → code.length ≤ 95 →
    s.scanners[p].state = .absent ∨ code.length = 0 ∨ 64 < code.length →
    exec (.scan p (sym :: code)) s = .next (framed p s)) ∧
  ∀ (p : PortNo) (sym : Byte) (code : List Byte) (s : State), UpWith .scanner p s → RingsOk s →
    1 ≤ code.length → code.length ≤ 64 →
    let same := ∃ l, s.scanners[p].lastCode = some l ∧ l.symbology = sym ∧ l.code = code ∧
      (s.time - l.arrival).toNat < s.scannerSet[p].repeatWindow * 1000
    let answered := fun (accept : Bool) => put s.ports p
      { (framed p s).ports[p] with sendList := s.ports[p].sendList ++ [.verdict accept] }
    let code' := some { symbology := sym, code := code, arrival := s.time : LastCode }
    (s.scanners[p].state ≠ .absent → same →
      exec (.scan p (sym :: code)) s = .next { s with ports := answered true }) ∧
    (∀ claim, s.scanners[p].state = .held claim → ¬ same →
      (canWrite s claim.holder (.scan p sym code claim.serial false) = false →
        exec (.scan p (sym :: code)) s = .next { s with
          ports := answered false
          delivery := put s.delivery claim.holder { s.delivery[claim.holder] with gap := true } }) ∧
      (canWrite s claim.holder (.scan p sym code claim.serial false) = true → claim.count ≠ 1 →
        ∃ t, exec (.scan p (sym :: code)) s = .next t ∧
          Told (writeRecord claim.holder (.scan p sym code claim.serial false) (s.time.setWidth 16) s) t ∧
          MemoryKept s t (InRing claim.holder) ∧
          t = { s with
            ports := answered true
            scanners := put s.scanners p
              { s.scanners[p] with
                lastCode := code'
                state := .held { claim with
                  idle := { start := s.time, length := claim.hold * 1000 }, count := claim.count - 1 } }
            mem := t.mem, delivery := t.delivery, notice := t.notice, portCount := t.portCount }) ∧
      (canWrite s claim.holder (.scan p sym code claim.serial false) = true → claim.count = 1 →
        ∃ t, exec (.scan p (sym :: code)) s = .next t ∧
          t.scanners[p].lastEnd = some (.countSpent, claim.serial) ∧ t.scanners[p].lastCode = code' ∧
          t.scanners[p].queue = s.scanners[p].queue.tail ∧
          Told (given ((claim.holder, .claimEnded p false claim.serial .countSpent) ::
            grantRecords p s.scanners[p])
            (writeRecord claim.holder (.scan p sym code claim.serial false) (s.time.setWidth 16) s)) t ∧
          (match s.scanners[p].queue with
           | [] => t.scanners[p].state = .free
           | w :: _ => t.scanners[p].state = .held
              { holder := w.station, hold := w.hold, idle := { start := s.time, length := w.hold * 1000 }
                count := w.count, serial := s.scanners[p].grants + 1 }) ∧
          MemoryKept s t (fun a => ∃ st, InRing st a) ∧
          t = { s with
            ports := answered true, scanners := put s.scanners p t.scanners[p], mem := t.mem
            delivery := t.delivery, notice := t.notice, portCount := t.portCount })) ∧
    (s.scanners[p].state = .free → ¬ same →
      (s.scanMode = .quiet ∨ s.scannerSet[p].defaultStation = none ∨
          (∃ st, s.scannerSet[p].defaultStation = some st ∧ (inService s st = false ∨ permitted s st p = false)) →
        exec (.scan p (sym :: code)) s = .next { s with ports := answered false }) ∧
      ∀ st, s.scanMode = .running → s.scannerSet[p].defaultStation = some st → inService s st = true →
        permitted s st p = true →
        (canWrite s st (.scan p sym code 0 true) = false →
          exec (.scan p (sym :: code)) s = .next { s with
            ports := answered false, delivery := put s.delivery st { s.delivery[st] with gap := true } }) ∧
        (canWrite s st (.scan p sym code 0 true) = true →
          ∃ t, exec (.scan p (sym :: code)) s = .next t ∧
            Told (writeRecord st (.scan p sym code 0 true) (s.time.setWidth 16) s) t ∧
            MemoryKept s t (InRing st) ∧
            t = { s with
              ports := answered true, scanners := put s.scanners p { s.scanners[p] with lastCode := code' }
              mem := t.mem, delivery := t.delivery, notice := t.notice }))

/-- IDLE_TIMER_EXPIRY (R92, R93): a claim idle for its hold time ends EXPIRED, its holder is given CLAIM ENDED, and the head
waiter, if any, is granted; a timer that is not due does nothing (log 8). -/
def Obligations.IdleClaimsExpire : Prop :=
  ∀ (p : PortNo) (claim : Claim) (s : State), s.scanners[p].state = .held claim →
    ((s.time - claim.idle.start).toNat < claim.idle.length → exec (.idleTimerExpiry p) s = .next s) ∧
    (claim.idle.length ≤ (s.time - claim.idle.start).toNat →
      ∃ t, exec (.idleTimerExpiry p) s = .next t ∧
        t.scanners[p].lastEnd = some (.expired, claim.serial) ∧
        t.scanners[p].lastCode = s.scanners[p].lastCode ∧ t.scanners[p].queue = s.scanners[p].queue.tail ∧
        (let told := given ((claim.holder, .claimEnded p false claim.serial .expired) :: grantRecords p s.scanners[p]) s
         Told told t) ∧
        (match s.scanners[p].queue with
         | [] => t.scanners[p].state = .free ∧ t.scanners[p].grants = s.scanners[p].grants ∧
            Told (giveStatus claim.holder (.claimEnded p false claim.serial .expired) s) t
         | w :: _ => t.scanners[p].grants = s.scanners[p].grants + 1 ∧
            t.scanners[p].state = .held
              { holder := w.station, hold := w.hold, idle := { start := s.time, length := w.hold * 1000 }
                count := w.count, serial := s.scanners[p].grants + 1 }) ∧
        MemoryKept s t (fun a => ∃ st, InRing st a) ∧
        t = { s with
          scanners := put s.scanners p t.scanners[p], mem := t.mem, delivery := t.delivery, notice := t.notice
          portCount := t.portCount })

/-! ### Touches -/

/-- R126–R130: clamp, orient and scale, by orientation; a mapped position always lies on the station's screen; and a move
passes the filter when it differs from the last delivered position by the threshold, and at least by 1. -/
def Obligations.MappedPositionsStayOnScreen : Prop :=
  ∀ (m : Mapping) (x y : Nat), MappingOk m →
    let dx := min (max x m.x0) (m.x1 - 1) - m.x0
    let dy := min (max y m.y0) (m.y1 - 1) - m.y0
    let sx := m.x1 - m.x0
    let sy := m.y1 - m.y0
    (mapRaw m x y).x < m.width ∧ (mapRaw m x y).y < m.height ∧
    mapRaw m x y =
      (match m.orientation with
       | .r0 => { x := dx * m.width / sx, y := dy * m.height / sy }
       | .r90 => { x := dy * m.width / sy, y := (sx - 1 - dx) * m.height / sx }
       | .r180 => { x := (sx - 1 - dx) * m.width / sx, y := (sy - 1 - dy) * m.height / sy }
       | .r270 => { x := (sy - 1 - dy) * m.width / sy, y := dx * m.height / sx }) ∧
    ∀ last : Pos, movePasses m last (mapRaw m x y) = true ↔
      max (m.threshold : Int) 1 ≤
        max |((mapRaw m x y).x : Int) - last.x| |((mapRaw m x y).y : Int) - last.y|

/-- TOUCH, a DOWN entry (R114–R117). In RUNNING, where no record holds its key: it is bound to the zone's station when that is IN
SERVICE and permitted, live when TOUCH DOWN is written and suppressed with a gap owed when not; ignored in no zone or for
another station; and dropped when the table is full. In QUIET it is ignored or dropped, and in a wake zone the touch is
reported all the same. Where a record holds its key, that contact ends first, and the entry then acts on what is left. The
port entry is rewritten once for the frame (R111, R184). That its change count then rises even where the record freed and the
one made leave the entry showing the same (log 4), and that the frame of a re-introduced panel whose old loss and new arrival
still wait acts on the old records and by the old contact limit (log 18), are the model's choice. -/
def Obligations.TouchDownsAreBound : Prop :=
  (∀ (p : PortNo) (id : ContactId) (x y limit : Nat) (n : ContactNo) (c : Contact) (s : State), UpWith .panel p s →
    KeysOk s → s.panels[p] = some limit → id.val < limit → x ≤ 4095 → y ≤ 4095 →
    s.contacts[n] = some c → keyHeld c = true → c.port = p → c.id = id →
    ∃ t u, exec (.touch p (oneTouch id 0 x y)) s = .next t ∧
      exec (.touch p (oneTouch id 0 x y)) (cancelled s n) = .next u ∧ t = { u with portCount := t.portCount } ∧
      t.portCount[p] = s.portCount[p] + 1) ∧
  (∀ (p : PortNo) (id : ContactId) (x y limit : Nat) (s : State), UpWith .panel p s → ZonesOk s →
    s.panels[p] = some limit → id.val < limit → x ≤ 4095 → y ≤ 4095 → s.touchMode = .quiet →
    (∀ n c, s.contacts[(n : ContactNo)] = some c → keyHeld c = true → ¬ (c.port = p ∧ c.id = id)) →
    ∀ (place : Option (ZoneNo × StationNo)) (reports : List ZoneNo),
      (place = none ∧ reports = s.wakeReports ∧
          (∀ z a, s.zones[(z : ZoneNo)] = some a → a.port = p →
            ¬ (a.map.x0 ≤ x ∧ x < a.map.x1 ∧ a.map.y0 ≤ y ∧ y < a.map.y1))) ∨
        (∃ z a, s.zones[(z : ZoneNo)] = some a ∧ a.port = p ∧
          a.map.x0 ≤ x ∧ x < a.map.x1 ∧ a.map.y0 ≤ y ∧ y < a.map.y1 ∧
          place = some (z, a.station) ∧ reports = if a.wake then s.wakeReports ++ [z] else s.wakeReports) →
      ((∀ n : ContactNo, s.contacts[n] ≠ none) →
        exec (.touch p (oneTouch id 0 x y)) s = .next { framed p s with wakeReports := reports }) ∧
      ∀ n : ContactNo, s.contacts[n] = none → (∀ m < n, s.contacts[m] ≠ none) →
        ∃ t, exec (.touch p (oneTouch id 0 x y)) s = .next t ∧
          t = { framed p s with
            wakeReports := reports, portCount := t.portCount
            contacts := put s.contacts n (some { port := p, id := id, cond := .ignored place : Contact }) }) ∧
  ∀ (p : PortNo) (id : ContactId) (x y limit : Nat) (s : State), UpWith .panel p s → ZonesOk s →
    s.panels[p] = some limit → id.val < limit → x ≤ 4095 → y ≤ 4095 → s.touchMode = .running →
    (∀ n c, s.contacts[(n : ContactNo)] = some c → keyHeld c = true → ¬ (c.port = p ∧ c.id = id)) →
    ((∀ n : ContactNo, s.contacts[n] ≠ none) →
      exec (.touch p (oneTouch id 0 x y)) s = .next (framed p s)) ∧
    ∀ n : ContactNo, s.contacts[n] = none → (∀ m < n, s.contacts[m] ≠ none) →
      let made := fun cond => put s.contacts n (some { port := p, id := id, cond := cond : Contact })
      ((∀ z a, s.zones[(z : ZoneNo)] = some a → a.port = p →
          ¬ (a.map.x0 ≤ x ∧ x < a.map.x1 ∧ a.map.y0 ≤ y ∧ y < a.map.y1)) →
        ∃ t, exec (.touch p (oneTouch id 0 x y)) s = .next t ∧
          t = { framed p s with contacts := made (.ignored none), portCount := t.portCount }) ∧
      ∀ z a, s.zones[(z : ZoneNo)] = some a → a.port = p →
        a.map.x0 ≤ x → x < a.map.x1 → a.map.y0 ≤ y → y < a.map.y1 →
        let down := Record.touch .down p id n z (mapRaw a.map x y)
        (inService s a.station = false ∨ permitted s a.station p = false →
          ∃ t, exec (.touch p (oneTouch id 0 x y)) s = .next t ∧
            t = { framed p s with contacts := made (.ignored (some (z, a.station))), portCount := t.portCount }) ∧
        (inService s a.station = true → permitted s a.station p = true → canWrite s a.station down = true →
          ∃ t, exec (.touch p (oneTouch id 0 x y)) s = .next t ∧
            Told (writeRecord a.station down (s.time.setWidth 16) s) t ∧
            MemoryKept s t (InRing a.station) ∧
            t = { framed p s with
              contacts := made (.live
                { zone := z, station := a.station, map := a.map
                  last := { pos := mapRaw a.map x y, stamp := s.time.setWidth 16 } } none)
              mem := t.mem, delivery := t.delivery, notice := t.notice, portCount := t.portCount }) ∧
        (inService s a.station = true → permitted s a.station p = true → canWrite s a.station down = false →
          ∃ t, exec (.touch p (oneTouch id 0 x y)) s = .next t ∧
            t = { framed p s with
              contacts := made (.suppressed z a.station), portCount := t.portCount
              delivery := put s.delivery a.station { s.delivery[a.station] with gap := true } })

/-- TOUCH, a MOVE, UP or LOST entry (R113, R118, R119). For a live contact: a move that passes is written, or becomes the pending
move; one that does not clears it. A lift ends the contact UP at its mapped position and a LOST entry with CANCEL at the last
delivered one: written, and the record freed, or held, and the key released. On a suppressed or ignored record a move does
nothing and the others free it; without a record all do nothing. The entries of a frame act one after another (R112), an
entry with a bad id, phase or position does nothing, and so does a frame with no entry, more than ten, or another length.
That the frame of a re-introduced panel whose old loss and new arrival still wait acts on the old records and by the old
contact limit is the model's choice (log 18). -/
def Obligations.TouchMovesAndEnds : Prop :=
  (∀ (p : PortNo) (id : ContactId) (phase x y limit : Nat) (s : State), UpWith .panel p s → s.panels[p] = some limit →
    id.val < limit → x ≤ 4095 → y ≤ 4095 → 1 ≤ phase → phase ≤ 3 →
    ((∀ n c, s.contacts[(n : ContactNo)] = some c → keyHeld c = true → ¬ (c.port = p ∧ c.id = id)) →
      exec (.touch p (oneTouch id phase x y)) s = .next (framed p s)) ∧
    ∀ (n : ContactNo) (c : Contact), KeysOk s → s.contacts[n] = some c → c.port = p → c.id = id →
      (∃ z st, c.cond = .suppressed z st) ∨ (∃ place, c.cond = .ignored place) →
      (phase = 1 → exec (.touch p (oneTouch id phase x y)) s = .next (framed p s)) ∧
      (phase ≠ 1 → ∃ t, exec (.touch p (oneTouch id phase x y)) s = .next t ∧
        t.portCount[p] = s.portCount[p] + 1 ∧
        t = { framed p s with contacts := put s.contacts n none, portCount := t.portCount })) ∧
  (∀ (p : PortNo) (id phase : Byte) (x y : Half) (limit : Nat) (s : State), UpWith .panel p s →
    s.panels[p] = some limit →
    15 < id.toNat ∨ limit ≤ id.toNat ∨ 3 < phase.toNat ∨ 4095 < x.toNat ∨ 4095 < y.toNat →
    exec (.touch p (touchFrameOf [[id, phase] ++ halfBytes x ++ halfBytes y])) s = .next (framed p s)) ∧
  (∀ (p : PortNo) (payload : List Byte) (s : State), UpWith .panel p s → payload.length ≤ 96 →
    (∀ count rest, payload = count :: rest → count.toNat = 0 ∨ 10 < count.toNat ∨ rest.length ≠ 6 * count.toNat) →
    exec (.touch p payload) s = .next (framed p s)) ∧
  (∀ (p : PortNo) (first : List Byte) (others : List (List Byte)) (s : State), UpWith .panel p s →
    first.length = 6 → (∀ e ∈ others, e.length = 6) → 1 ≤ others.length → others.length ≤ 9 →
    ∃ t u v, exec (.touch p (touchFrameOf (first :: others))) s = .next t ∧
      exec (.touch p (touchFrameOf [first])) s = .next u ∧ exec (.touch p (touchFrameOf others)) u = .next v ∧
      t = { v with portCount := t.portCount }) ∧
  ∀ (p : PortNo) (id : ContactId) (x y limit : Nat) (n : ContactNo) (b : Bound) (move : Option Spot) (s : State),
    UpWith .panel p s → s.panels[p] = some limit → id.val < limit → x ≤ 4095 → y ≤ 4095 →
    s.contacts[n] = some { port := p, id := id, cond := .live b move } →
    (∀ m c, s.contacts[(m : ContactNo)] = some c → keyHeld c = true → c.port = p → c.id = id → m = n) →
    let pos := mapRaw b.map x y
    let spot : Spot := { pos := pos, stamp := s.time.setWidth 16 }
    let record := fun kind at' => Record.touch kind p id n b.zone at'
    let made := fun cond => put s.contacts n (some { port := p, id := id, cond := cond : Contact })
    (movePasses b.map b.last.pos pos = false →
      exec (.touch p (oneTouch id 1 x y)) s = .next { framed p s with contacts := made (.live b none) }) ∧
    (movePasses b.map b.last.pos pos = true →
      (canWrite s b.station (record .move pos) = false →
        exec (.touch p (oneTouch id 1 x y)) s = .next { framed p s with contacts := made (.live b (some spot)) }) ∧
      (canWrite s b.station (record .move pos) = true →
        ∃ t, exec (.touch p (oneTouch id 1 x y)) s = .next t ∧
          Told (writeRecord b.station (record .move pos) (s.time.setWidth 16) s) t ∧
          MemoryKept s t (InRing b.station) ∧
          t = { framed p s with
            contacts := made (.live { b with last := spot } none)
            mem := t.mem, delivery := t.delivery, notice := t.notice })) ∧
    ∀ phase kind at' ending, (phase = 2 ∧ kind = TouchKind.up ∧ at' = pos ∧ ending = ContactEnd.up spot ∨
        phase = 3 ∧ kind = TouchKind.cancel ∧ at' = b.last.pos ∧ ending = ContactEnd.cancel) →
      (canWrite s b.station (record kind at') = true →
        ∃ t, exec (.touch p (oneTouch id phase x y)) s = .next t ∧
          Told (writeRecord b.station (record kind at') (s.time.setWidth 16) s) t ∧
          MemoryKept s t (InRing b.station) ∧
          t = { framed p s with
            contacts := put s.contacts n none, mem := t.mem, delivery := t.delivery, notice := t.notice
            portCount := t.portCount }) ∧
      (canWrite s b.station (record kind at') = false →
        ∃ t, exec (.touch p (oneTouch id phase x y)) s = .next t ∧
          t = { framed p s with contacts := made (.closing b ending), portCount := t.portCount })

/-! ### Rings -/

/-- R14, R170: a record is written at once for a station IN SERVICE with nothing owed and room for it. Otherwise a status record
joins the tail of the owed queue with its stamp, or, with 16 there already, is discarded with a gap owed; a JOB PROGRESS is
discarded with a gap owed; and for a station OUT OF SERVICE everything is discarded, without a gap. R70, R173: PRINTER FAULT goes
to the owner and then to station 0, and to station 0 alone where it is the owner or there is none. R167–R169: a record that
fits stands whole at the write mark, or at the ring's start after a SKIP that fills the ring to its
end; its header carries its kind, length, the gap owed, the next sequence and its stamp; the mark moves past it, the gap is
no longer owed, the NOTICE bit is set, and nothing outside the ring changes. -/
def Obligations.RecordsEnterTheRing : Prop :=
  (∀ (st : StationNo) (r : Record) (s : State), ServiceOk s →
    let d := s.delivery[st]
    let now : Half := s.time.setWidth 16
    let need := if recordLength r ≤ 1792 - d.w then recordLength r else 1792 - d.w + recordLength r
    let room := d.owed = [] ∧ usedBytes d + need ≤ 1784
    let gapped := { s with delivery := put s.delivery st { d with gap := true } }
    (canWrite s st r = true ↔ inService s st = true ∧ room) ∧
    (inService s st = false → giveStatus st r s = s ∧ giveProgress st r s = s) ∧
    (inService s st = true → room → giveStatus st r s = writeRecord st r now s ∧
      giveProgress st r s = writeRecord st r now s) ∧
    (inService s st = true → ¬ room →
      (d.owed.length < 16 → giveStatus st r s =
        { s with delivery := put s.delivery st { d with owed := d.owed ++ [{ record := r, stamp := now }] } }) ∧
      (16 ≤ d.owed.length → giveStatus st r s = gapped) ∧
      giveProgress st r s = gapped)) ∧
  (∀ (r : Record) (s : State), giveStatusTo none r s = s ∧ reportFault r none s = giveStatus 0 r s ∧
    ∀ st : StationNo, giveStatusTo (some st) r s = giveStatus st r s ∧
      reportFault r (some st) s = if st = 0 then giveStatus 0 r s else giveStatus 0 r (giveStatus st r s)) ∧
  ∀ (st : StationNo) (r : Record) (stamp : Half) (s : State), MemoryOk s → RingOk s.delivery[st] →
    let d := s.delivery[st]
    let n := recordLength r
    let rest := 1792 - d.w
    let a := ringAddress st + if n ≤ rest then d.w else 0
    let t := writeRecord st r stamp s
    usedBytes d + (if n ≤ rest then n else rest + n) ≤ 1784 →
    t.delivery = put s.delivery st
      { d with
        w := if n ≤ rest then (if d.w + n = 1792 then 0 else d.w + n) else n
        seq := d.seq + 1, gap := false } ∧
    RingOk t.delivery[st] ∧ t.notice.getLsbD st.val = true ∧ MemoryKept s t (InRing st) ∧ MemoryOk t ∧
    readMem t.mem a = recordKind r ∧ (readMem t.mem (a + 1)).toNat * 8 = n ∧
    (readMem t.mem (a + 2)).getLsbD 0 = d.gap ∧ (readMem t.mem (a + 2)).getLsbD 1 = recordUnclaimed r ∧
    readHalf t.mem (a + 4) = d.seq + 1 ∧ readHalf t.mem (a + 6) = stamp ∧
    readBytes t.mem (a + 8) (n - 8) = recordContent r ∧
    (rest < n → readMem t.mem (ringAddress st + d.w) = 0 ∧
      (readMem t.mem (ringAddress st + d.w + 1)).toNat * 8 = rest ∧
      readMem t.mem (ringAddress st + d.w + 2) = 0 ∧ readHalf t.mem (ringAddress st + d.w + 4) = d.seq) ∧
    t = { s with mem := t.mem, delivery := t.delivery, notice := s.notice ||| stationBit st }
end

