-- ==== Sys2Proof/Laws/State.lean ====
section
/-! SUPPORT. What each small update of the state does to each field, true by unfolding, so that no proof opens a record
update. -/

namespace Sys2Proof.Machine

@[simp] theorem put_get {α : Type} {n : Nat} (v : Vector α n) (i : Fin n) (x : α) : (put v i x)[i.val] = x := by
  simp [put]

theorem put_get_ne {α : Type} {n : Nat} (v : Vector α n) (i j : Fin n) (x : α) (h : i ≠ j) :
    (put v i x)[j.val] = v[j.val] := by
  have : i.val ≠ j.val := fun e => h (Fin.ext e)
  simp [put, Vector.getElem_set_ne, this]

theorem put_get_eq {α : Type} {n : Nat} (v : Vector α n) (i j : Fin n) (x : α) :
    (put v i x)[j.val] = if i = j then x else v[j.val] := by
  split
  · subst_vars; simp
  · exact put_get_ne v i j x ‹_›

@[simp] theorem put_self {α : Type} {n : Nat} (v : Vector α n) (i : Fin n) : put v i v[i.val] = v := by
  simp [put]

@[simp] theorem put_put {α : Type} {n : Nat} (v : Vector α n) (i : Fin n) (x y : α) : put (put v i x) i y = put v i y := by
  simp [put]

@[simp] theorem updStation_mem (s : State) (st : StationNo) (f : Station → Station) : (updStation s st f).mem = s.mem := rfl
@[simp] theorem updStation_cards (s : State) (st : StationNo) (f : Station → Station) : (updStation s st f).cards = s.cards := rfl
@[simp] theorem updStation_posting (s : State) (st : StationNo) (f : Station → Station) : (updStation s st f).posting = s.posting := rfl
@[simp] theorem updStation_serving (s : State) (st : StationNo) (f : Station → Station) : (updStation s st f).serving = s.serving := rfl
@[simp] theorem updStation_stations (s : State) (st : StationNo) (f : Station → Station) : (updStation s st f).stations = put s.stations st (f s.stations[st]) := rfl
@[simp] theorem updStation_blocks (s : State) (st : StationNo) (f : Station → Station) : (updStation s st f).blocks = s.blocks := rfl
@[simp] theorem updStation_free (s : State) (st : StationNo) (f : Station → Station) : (updStation s st f).free = s.free := rfl
@[simp] theorem updStation_jobs (s : State) (st : StationNo) (f : Station → Station) : (updStation s st f).jobs = s.jobs := rfl
@[simp] theorem updStation_acceptance (s : State) (st : StationNo) (f : Station → Station) : (updStation s st f).acceptance = s.acceptance := rfl
@[simp] theorem updStation_printers (s : State) (st : StationNo) (f : Station → Station) : (updStation s st f).printers = s.printers := rfl
@[simp] theorem updStation_printerSet (s : State) (st : StationNo) (f : Station → Station) : (updStation s st f).printerSet = s.printerSet := rfl
@[simp] theorem updStation_printMode (s : State) (st : StationNo) (f : Station → Station) : (updStation s st f).printMode = s.printMode := rfl
@[simp] theorem updStation_scanners (s : State) (st : StationNo) (f : Station → Station) : (updStation s st f).scanners = s.scanners := rfl
@[simp] theorem updStation_scannerSet (s : State) (st : StationNo) (f : Station → Station) : (updStation s st f).scannerSet = s.scannerSet := rfl
@[simp] theorem updStation_scanMode (s : State) (st : StationNo) (f : Station → Station) : (updStation s st f).scanMode = s.scanMode := rfl
@[simp] theorem updStation_zones (s : State) (st : StationNo) (f : Station → Station) : (updStation s st f).zones = s.zones := rfl
@[simp] theorem updStation_contacts (s : State) (st : StationNo) (f : Station → Station) : (updStation s st f).contacts = s.contacts := rfl
@[simp] theorem updStation_panels (s : State) (st : StationNo) (f : Station → Station) : (updStation s st f).panels = s.panels := rfl
@[simp] theorem updStation_touchMode (s : State) (st : StationNo) (f : Station → Station) : (updStation s st f).touchMode = s.touchMode := rfl
@[simp] theorem updStation_delivery (s : State) (st : StationNo) (f : Station → Station) : (updStation s st f).delivery = s.delivery := rfl
@[simp] theorem updStation_notice (s : State) (st : StationNo) (f : Station → Station) : (updStation s st f).notice = s.notice := rfl
@[simp] theorem updStation_noticeMask (s : State) (st : StationNo) (f : Station → Station) : (updStation s st f).noticeMask = s.noticeMask := rfl
@[simp] theorem updStation_ports (s : State) (st : StationNo) (f : Station → Station) : (updStation s st f).ports = s.ports := rfl
@[simp] theorem updStation_toPrint (s : State) (st : StationNo) (f : Station → Station) : (updStation s st f).toPrint = s.toPrint := rfl
@[simp] theorem updStation_toScan (s : State) (st : StationNo) (f : Station → Station) : (updStation s st f).toScan = s.toScan := rfl
@[simp] theorem updStation_toTouch (s : State) (st : StationNo) (f : Station → Station) : (updStation s st f).toTouch = s.toTouch := rfl
@[simp] theorem updStation_quietPrint (s : State) (st : StationNo) (f : Station → Station) : (updStation s st f).quietPrint = s.quietPrint := rfl
@[simp] theorem updStation_quietScan (s : State) (st : StationNo) (f : Station → Station) : (updStation s st f).quietScan = s.quietScan := rfl
@[simp] theorem updStation_quietTouch (s : State) (st : StationNo) (f : Station → Station) : (updStation s st f).quietTouch = s.quietTouch := rfl
@[simp] theorem updStation_wakeReports (s : State) (st : StationNo) (f : Station → Station) : (updStation s st f).wakeReports = s.wakeReports := rfl
@[simp] theorem updStation_part (s : State) (st : StationNo) (f : Station → Station) : (updStation s st f).part = s.part := rfl
@[simp] theorem updStation_wake (s : State) (st : StationNo) (f : Station → Station) : (updStation s st f).wake = s.wake := rfl
@[simp] theorem updStation_time (s : State) (st : StationNo) (f : Station → Station) : (updStation s st f).time = s.time := rfl
@[simp] theorem updStation_portCount (s : State) (st : StationNo) (f : Station → Station) : (updStation s st f).portCount = s.portCount := rfl
@[simp] theorem updStation_jobCount (s : State) (st : StationNo) (f : Station → Station) : (updStation s st f).jobCount = s.jobCount := rfl
@[simp] theorem updStation_stationCount (s : State) (st : StationNo) (f : Station → Station) : (updStation s st f).stationCount = s.stationCount := rfl
@[simp] theorem updStation_poolCount (s : State) (st : StationNo) (f : Station → Station) : (updStation s st f).poolCount = s.poolCount := rfl
@[simp] theorem updStation_openCount (s : State) (st : StationNo) (f : Station → Station) : (updStation s st f).openCount = s.openCount := rfl
@[simp] theorem updStation_pending (s : State) (st : StationNo) (f : Station → Station) : (updStation s st f).pending = s.pending := rfl

@[simp] theorem updJob_mem (s : State) (j : JobNo) (f : Job → Job) : (updJob s j f).mem = s.mem := rfl
@[simp] theorem updJob_cards (s : State) (j : JobNo) (f : Job → Job) : (updJob s j f).cards = s.cards := rfl
@[simp] theorem updJob_posting (s : State) (j : JobNo) (f : Job → Job) : (updJob s j f).posting = s.posting := rfl
@[simp] theorem updJob_serving (s : State) (j : JobNo) (f : Job → Job) : (updJob s j f).serving = s.serving := rfl
@[simp] theorem updJob_stations (s : State) (j : JobNo) (f : Job → Job) : (updJob s j f).stations = s.stations := rfl
@[simp] theorem updJob_blocks (s : State) (j : JobNo) (f : Job → Job) : (updJob s j f).blocks = s.blocks := rfl
@[simp] theorem updJob_free (s : State) (j : JobNo) (f : Job → Job) : (updJob s j f).free = s.free := rfl
@[simp] theorem updJob_jobs (s : State) (j : JobNo) (f : Job → Job) : (updJob s j f).jobs = put s.jobs j (f s.jobs[j]) := rfl
@[simp] theorem updJob_acceptance (s : State) (j : JobNo) (f : Job → Job) : (updJob s j f).acceptance = s.acceptance := rfl
@[simp] theorem updJob_printers (s : State) (j : JobNo) (f : Job → Job) : (updJob s j f).printers = s.printers := rfl
@[simp] theorem updJob_printerSet (s : State) (j : JobNo) (f : Job → Job) : (updJob s j f).printerSet = s.printerSet := rfl
@[simp] theorem updJob_printMode (s : State) (j : JobNo) (f : Job → Job) : (updJob s j f).printMode = s.printMode := rfl
@[simp] theorem updJob_scanners (s : State) (j : JobNo) (f : Job → Job) : (updJob s j f).scanners = s.scanners := rfl
@[simp] theorem updJob_scannerSet (s : State) (j : JobNo) (f : Job → Job) : (updJob s j f).scannerSet = s.scannerSet := rfl
@[simp] theorem updJob_scanMode (s : State) (j : JobNo) (f : Job → Job) : (updJob s j f).scanMode = s.scanMode := rfl
@[simp] theorem updJob_zones (s : State) (j : JobNo) (f : Job → Job) : (updJob s j f).zones = s.zones := rfl
@[simp] theorem updJob_contacts (s : State) (j : JobNo) (f : Job → Job) : (updJob s j f).contacts = s.contacts := rfl
@[simp] theorem updJob_panels (s : State) (j : JobNo) (f : Job → Job) : (updJob s j f).panels = s.panels := rfl
@[simp] theorem updJob_touchMode (s : State) (j : JobNo) (f : Job → Job) : (updJob s j f).touchMode = s.touchMode := rfl
@[simp] theorem updJob_delivery (s : State) (j : JobNo) (f : Job → Job) : (updJob s j f).delivery = s.delivery := rfl
@[simp] theorem updJob_notice (s : State) (j : JobNo) (f : Job → Job) : (updJob s j f).notice = s.notice := rfl
@[simp] theorem updJob_noticeMask (s : State) (j : JobNo) (f : Job → Job) : (updJob s j f).noticeMask = s.noticeMask := rfl
@[simp] theorem updJob_ports (s : State) (j : JobNo) (f : Job → Job) : (updJob s j f).ports = s.ports := rfl
@[simp] theorem updJob_toPrint (s : State) (j : JobNo) (f : Job → Job) : (updJob s j f).toPrint = s.toPrint := rfl
@[simp] theorem updJob_toScan (s : State) (j : JobNo) (f : Job → Job) : (updJob s j f).toScan = s.toScan := rfl
@[simp] theorem updJob_toTouch (s : State) (j : JobNo) (f : Job → Job) : (updJob s j f).toTouch = s.toTouch := rfl
@[simp] theorem updJob_quietPrint (s : State) (j : JobNo) (f : Job → Job) : (updJob s j f).quietPrint = s.quietPrint := rfl
@[simp] theorem updJob_quietScan (s : State) (j : JobNo) (f : Job → Job) : (updJob s j f).quietScan = s.quietScan := rfl
@[simp] theorem updJob_quietTouch (s : State) (j : JobNo) (f : Job → Job) : (updJob s j f).quietTouch = s.quietTouch := rfl
@[simp] theorem updJob_wakeReports (s : State) (j : JobNo) (f : Job → Job) : (updJob s j f).wakeReports = s.wakeReports := rfl
@[simp] theorem updJob_part (s : State) (j : JobNo) (f : Job → Job) : (updJob s j f).part = s.part := rfl
@[simp] theorem updJob_wake (s : State) (j : JobNo) (f : Job → Job) : (updJob s j f).wake = s.wake := rfl
@[simp] theorem updJob_time (s : State) (j : JobNo) (f : Job → Job) : (updJob s j f).time = s.time := rfl
@[simp] theorem updJob_portCount (s : State) (j : JobNo) (f : Job → Job) : (updJob s j f).portCount = s.portCount := rfl
@[simp] theorem updJob_jobCount (s : State) (j : JobNo) (f : Job → Job) : (updJob s j f).jobCount = s.jobCount := rfl
@[simp] theorem updJob_stationCount (s : State) (j : JobNo) (f : Job → Job) : (updJob s j f).stationCount = s.stationCount := rfl
@[simp] theorem updJob_poolCount (s : State) (j : JobNo) (f : Job → Job) : (updJob s j f).poolCount = s.poolCount := rfl
@[simp] theorem updJob_openCount (s : State) (j : JobNo) (f : Job → Job) : (updJob s j f).openCount = s.openCount := rfl
@[simp] theorem updJob_pending (s : State) (j : JobNo) (f : Job → Job) : (updJob s j f).pending = s.pending := rfl

@[simp] theorem updPrinter_mem (s : State) (p : PortNo) (f : Printer → Printer) : (updPrinter s p f).mem = s.mem := rfl
@[simp] theorem updPrinter_cards (s : State) (p : PortNo) (f : Printer → Printer) : (updPrinter s p f).cards = s.cards := rfl
@[simp] theorem updPrinter_posting (s : State) (p : PortNo) (f : Printer → Printer) : (updPrinter s p f).posting = s.posting := rfl
@[simp] theorem updPrinter_serving (s : State) (p : PortNo) (f : Printer → Printer) : (updPrinter s p f).serving = s.serving := rfl
@[simp] theorem updPrinter_stations (s : State) (p : PortNo) (f : Printer → Printer) : (updPrinter s p f).stations = s.stations := rfl
@[simp] theorem updPrinter_blocks (s : State) (p : PortNo) (f : Printer → Printer) : (updPrinter s p f).blocks = s.blocks := rfl
@[simp] theorem updPrinter_free (s : State) (p : PortNo) (f : Printer → Printer) : (updPrinter s p f).free = s.free := rfl
@[simp] theorem updPrinter_jobs (s : State) (p : PortNo) (f : Printer → Printer) : (updPrinter s p f).jobs = s.jobs := rfl
@[simp] theorem updPrinter_acceptance (s : State) (p : PortNo) (f : Printer → Printer) : (updPrinter s p f).acceptance = s.acceptance := rfl
@[simp] theorem updPrinter_printers (s : State) (p : PortNo) (f : Printer → Printer) : (updPrinter s p f).printers = put s.printers p (f s.printers[p]) := rfl
@[simp] theorem updPrinter_printerSet (s : State) (p : PortNo) (f : Printer → Printer) : (updPrinter s p f).printerSet = s.printerSet := rfl
@[simp] theorem updPrinter_printMode (s : State) (p : PortNo) (f : Printer → Printer) : (updPrinter s p f).printMode = s.printMode := rfl
@[simp] theorem updPrinter_scanners (s : State) (p : PortNo) (f : Printer → Printer) : (updPrinter s p f).scanners = s.scanners := rfl
@[simp] theorem updPrinter_scannerSet (s : State) (p : PortNo) (f : Printer → Printer) : (updPrinter s p f).scannerSet = s.scannerSet := rfl
@[simp] theorem updPrinter_scanMode (s : State) (p : PortNo) (f : Printer → Printer) : (updPrinter s p f).scanMode = s.scanMode := rfl
@[simp] theorem updPrinter_zones (s : State) (p : PortNo) (f : Printer → Printer) : (updPrinter s p f).zones = s.zones := rfl
@[simp] theorem updPrinter_contacts (s : State) (p : PortNo) (f : Printer → Printer) : (updPrinter s p f).contacts = s.contacts := rfl
@[simp] theorem updPrinter_panels (s : State) (p : PortNo) (f : Printer → Printer) : (updPrinter s p f).panels = s.panels := rfl
@[simp] theorem updPrinter_touchMode (s : State) (p : PortNo) (f : Printer → Printer) : (updPrinter s p f).touchMode = s.touchMode := rfl
@[simp] theorem updPrinter_delivery (s : State) (p : PortNo) (f : Printer → Printer) : (updPrinter s p f).delivery = s.delivery := rfl
@[simp] theorem updPrinter_notice (s : State) (p : PortNo) (f : Printer → Printer) : (updPrinter s p f).notice = s.notice := rfl
@[simp] theorem updPrinter_noticeMask (s : State) (p : PortNo) (f : Printer → Printer) : (updPrinter s p f).noticeMask = s.noticeMask := rfl
@[simp] theorem updPrinter_ports (s : State) (p : PortNo) (f : Printer → Printer) : (updPrinter s p f).ports = s.ports := rfl
@[simp] theorem updPrinter_toPrint (s : State) (p : PortNo) (f : Printer → Printer) : (updPrinter s p f).toPrint = s.toPrint := rfl
@[simp] theorem updPrinter_toScan (s : State) (p : PortNo) (f : Printer → Printer) : (updPrinter s p f).toScan = s.toScan := rfl
@[simp] theorem updPrinter_toTouch (s : State) (p : PortNo) (f : Printer → Printer) : (updPrinter s p f).toTouch = s.toTouch := rfl
@[simp] theorem updPrinter_quietPrint (s : State) (p : PortNo) (f : Printer → Printer) : (updPrinter s p f).quietPrint = s.quietPrint := rfl
@[simp] theorem updPrinter_quietScan (s : State) (p : PortNo) (f : Printer → Printer) : (updPrinter s p f).quietScan = s.quietScan := rfl
@[simp] theorem updPrinter_quietTouch (s : State) (p : PortNo) (f : Printer → Printer) : (updPrinter s p f).quietTouch = s.quietTouch := rfl
@[simp] theorem updPrinter_wakeReports (s : State) (p : PortNo) (f : Printer → Printer) : (updPrinter s p f).wakeReports = s.wakeReports := rfl
@[simp] theorem updPrinter_part (s : State) (p : PortNo) (f : Printer → Printer) : (updPrinter s p f).part = s.part := rfl
@[simp] theorem updPrinter_wake (s : State) (p : PortNo) (f : Printer → Printer) : (updPrinter s p f).wake = s.wake := rfl
@[simp] theorem updPrinter_time (s : State) (p : PortNo) (f : Printer → Printer) : (updPrinter s p f).time = s.time := rfl
@[simp] theorem updPrinter_portCount (s : State) (p : PortNo) (f : Printer → Printer) : (updPrinter s p f).portCount = s.portCount := rfl
@[simp] theorem updPrinter_jobCount (s : State) (p : PortNo) (f : Printer → Printer) : (updPrinter s p f).jobCount = s.jobCount := rfl
@[simp] theorem updPrinter_stationCount (s : State) (p : PortNo) (f : Printer → Printer) : (updPrinter s p f).stationCount = s.stationCount := rfl
@[simp] theorem updPrinter_poolCount (s : State) (p : PortNo) (f : Printer → Printer) : (updPrinter s p f).poolCount = s.poolCount := rfl
@[simp] theorem updPrinter_openCount (s : State) (p : PortNo) (f : Printer → Printer) : (updPrinter s p f).openCount = s.openCount := rfl
@[simp] theorem updPrinter_pending (s : State) (p : PortNo) (f : Printer → Printer) : (updPrinter s p f).pending = s.pending := rfl

@[simp] theorem updScanner_mem (s : State) (p : PortNo) (f : Scanner → Scanner) : (updScanner s p f).mem = s.mem := rfl
@[simp] theorem updScanner_cards (s : State) (p : PortNo) (f : Scanner → Scanner) : (updScanner s p f).cards = s.cards := rfl
@[simp] theorem updScanner_posting (s : State) (p : PortNo) (f : Scanner → Scanner) : (updScanner s p f).posting = s.posting := rfl
@[simp] theorem updScanner_serving (s : State) (p : PortNo) (f : Scanner → Scanner) : (updScanner s p f).serving = s.serving := rfl
@[simp] theorem updScanner_stations (s : State) (p : PortNo) (f : Scanner → Scanner) : (updScanner s p f).stations = s.stations := rfl
@[simp] theorem updScanner_blocks (s : State) (p : PortNo) (f : Scanner → Scanner) : (updScanner s p f).blocks = s.blocks := rfl
@[simp] theorem updScanner_free (s : State) (p : PortNo) (f : Scanner → Scanner) : (updScanner s p f).free = s.free := rfl
@[simp] theorem updScanner_jobs (s : State) (p : PortNo) (f : Scanner → Scanner) : (updScanner s p f).jobs = s.jobs := rfl
@[simp] theorem updScanner_acceptance (s : State) (p : PortNo) (f : Scanner → Scanner) : (updScanner s p f).acceptance = s.acceptance := rfl
@[simp] theorem updScanner_printers (s : State) (p : PortNo) (f : Scanner → Scanner) : (updScanner s p f).printers = s.printers := rfl
@[simp] theorem updScanner_printerSet (s : State) (p : PortNo) (f : Scanner → Scanner) : (updScanner s p f).printerSet = s.printerSet := rfl
@[simp] theorem updScanner_printMode (s : State) (p : PortNo) (f : Scanner → Scanner) : (updScanner s p f).printMode = s.printMode := rfl
@[simp] theorem updScanner_scanners (s : State) (p : PortNo) (f : Scanner → Scanner) : (updScanner s p f).scanners = put s.scanners p (f s.scanners[p]) := rfl
@[simp] theorem updScanner_scannerSet (s : State) (p : PortNo) (f : Scanner → Scanner) : (updScanner s p f).scannerSet = s.scannerSet := rfl
@[simp] theorem updScanner_scanMode (s : State) (p : PortNo) (f : Scanner → Scanner) : (updScanner s p f).scanMode = s.scanMode := rfl
@[simp] theorem updScanner_zones (s : State) (p : PortNo) (f : Scanner → Scanner) : (updScanner s p f).zones = s.zones := rfl
@[simp] theorem updScanner_contacts (s : State) (p : PortNo) (f : Scanner → Scanner) : (updScanner s p f).contacts = s.contacts := rfl
@[simp] theorem updScanner_panels (s : State) (p : PortNo) (f : Scanner → Scanner) : (updScanner s p f).panels = s.panels := rfl
@[simp] theorem updScanner_touchMode (s : State) (p : PortNo) (f : Scanner → Scanner) : (updScanner s p f).touchMode = s.touchMode := rfl
@[simp] theorem updScanner_delivery (s : State) (p : PortNo) (f : Scanner → Scanner) : (updScanner s p f).delivery = s.delivery := rfl
@[simp] theorem updScanner_notice (s : State) (p : PortNo) (f : Scanner → Scanner) : (updScanner s p f).notice = s.notice := rfl
@[simp] theorem updScanner_noticeMask (s : State) (p : PortNo) (f : Scanner → Scanner) : (updScanner s p f).noticeMask = s.noticeMask := rfl
@[simp] theorem updScanner_ports (s : State) (p : PortNo) (f : Scanner → Scanner) : (updScanner s p f).ports = s.ports := rfl
@[simp] theorem updScanner_toPrint (s : State) (p : PortNo) (f : Scanner → Scanner) : (updScanner s p f).toPrint = s.toPrint := rfl
@[simp] theorem updScanner_toScan (s : State) (p : PortNo) (f : Scanner → Scanner) : (updScanner s p f).toScan = s.toScan := rfl
@[simp] theorem updScanner_toTouch (s : State) (p : PortNo) (f : Scanner → Scanner) : (updScanner s p f).toTouch = s.toTouch := rfl
@[simp] theorem updScanner_quietPrint (s : State) (p : PortNo) (f : Scanner → Scanner) : (updScanner s p f).quietPrint = s.quietPrint := rfl
@[simp] theorem updScanner_quietScan (s : State) (p : PortNo) (f : Scanner → Scanner) : (updScanner s p f).quietScan = s.quietScan := rfl
@[simp] theorem updScanner_quietTouch (s : State) (p : PortNo) (f : Scanner → Scanner) : (updScanner s p f).quietTouch = s.quietTouch := rfl
@[simp] theorem updScanner_wakeReports (s : State) (p : PortNo) (f : Scanner → Scanner) : (updScanner s p f).wakeReports = s.wakeReports := rfl
@[simp] theorem updScanner_part (s : State) (p : PortNo) (f : Scanner → Scanner) : (updScanner s p f).part = s.part := rfl
@[simp] theorem updScanner_wake (s : State) (p : PortNo) (f : Scanner → Scanner) : (updScanner s p f).wake = s.wake := rfl
@[simp] theorem updScanner_time (s : State) (p : PortNo) (f : Scanner → Scanner) : (updScanner s p f).time = s.time := rfl
@[simp] theorem updScanner_portCount (s : State) (p : PortNo) (f : Scanner → Scanner) : (updScanner s p f).portCount = s.portCount := rfl
@[simp] theorem updScanner_jobCount (s : State) (p : PortNo) (f : Scanner → Scanner) : (updScanner s p f).jobCount = s.jobCount := rfl
@[simp] theorem updScanner_stationCount (s : State) (p : PortNo) (f : Scanner → Scanner) : (updScanner s p f).stationCount = s.stationCount := rfl
@[simp] theorem updScanner_poolCount (s : State) (p : PortNo) (f : Scanner → Scanner) : (updScanner s p f).poolCount = s.poolCount := rfl
@[simp] theorem updScanner_openCount (s : State) (p : PortNo) (f : Scanner → Scanner) : (updScanner s p f).openCount = s.openCount := rfl
@[simp] theorem updScanner_pending (s : State) (p : PortNo) (f : Scanner → Scanner) : (updScanner s p f).pending = s.pending := rfl

@[simp] theorem updDelivery_mem (s : State) (st : StationNo) (f : Delivery → Delivery) : (updDelivery s st f).mem = s.mem := rfl
@[simp] theorem updDelivery_cards (s : State) (st : StationNo) (f : Delivery → Delivery) : (updDelivery s st f).cards = s.cards := rfl
@[simp] theorem updDelivery_posting (s : State) (st : StationNo) (f : Delivery → Delivery) : (updDelivery s st f).posting = s.posting := rfl
@[simp] theorem updDelivery_serving (s : State) (st : StationNo) (f : Delivery → Delivery) : (updDelivery s st f).serving = s.serving := rfl
@[simp] theorem updDelivery_stations (s : State) (st : StationNo) (f : Delivery → Delivery) : (updDelivery s st f).stations = s.stations := rfl
@[simp] theorem updDelivery_blocks (s : State) (st : StationNo) (f : Delivery → Delivery) : (updDelivery s st f).blocks = s.blocks := rfl
@[simp] theorem updDelivery_free (s : State) (st : StationNo) (f : Delivery → Delivery) : (updDelivery s st f).free = s.free := rfl
@[simp] theorem updDelivery_jobs (s : State) (st : StationNo) (f : Delivery → Delivery) : (updDelivery s st f).jobs = s.jobs := rfl
@[simp] theorem updDelivery_acceptance (s : State) (st : StationNo) (f : Delivery → Delivery) : (updDelivery s st f).acceptance = s.acceptance := rfl
@[simp] theorem updDelivery_printers (s : State) (st : StationNo) (f : Delivery → Delivery) : (updDelivery s st f).printers = s.printers := rfl
@[simp] theorem updDelivery_printerSet (s : State) (st : StationNo) (f : Delivery → Delivery) : (updDelivery s st f).printerSet = s.printerSet := rfl
@[simp] theorem updDelivery_printMode (s : State) (st : StationNo) (f : Delivery → Delivery) : (updDelivery s st f).printMode = s.printMode := rfl
@[simp] theorem updDelivery_scanners (s : State) (st : StationNo) (f : Delivery → Delivery) : (updDelivery s st f).scanners = s.scanners := rfl
@[simp] theorem updDelivery_scannerSet (s : State) (st : StationNo) (f : Delivery → Delivery) : (updDelivery s st f).scannerSet = s.scannerSet := rfl
@[simp] theorem updDelivery_scanMode (s : State) (st : StationNo) (f : Delivery → Delivery) : (updDelivery s st f).scanMode = s.scanMode := rfl
@[simp] theorem updDelivery_zones (s : State) (st : StationNo) (f : Delivery → Delivery) : (updDelivery s st f).zones = s.zones := rfl
@[simp] theorem updDelivery_contacts (s : State) (st : StationNo) (f : Delivery → Delivery) : (updDelivery s st f).contacts = s.contacts := rfl
@[simp] theorem updDelivery_panels (s : State) (st : StationNo) (f : Delivery → Delivery) : (updDelivery s st f).panels = s.panels := rfl
@[simp] theorem updDelivery_touchMode (s : State) (st : StationNo) (f : Delivery → Delivery) : (updDelivery s st f).touchMode = s.touchMode := rfl
@[simp] theorem updDelivery_delivery (s : State) (st : StationNo) (f : Delivery → Delivery) : (updDelivery s st f).delivery = put s.delivery st (f s.delivery[st]) := rfl
@[simp] theorem updDelivery_notice (s : State) (st : StationNo) (f : Delivery → Delivery) : (updDelivery s st f).notice = s.notice := rfl
@[simp] theorem updDelivery_noticeMask (s : State) (st : StationNo) (f : Delivery → Delivery) : (updDelivery s st f).noticeMask = s.noticeMask := rfl
@[simp] theorem updDelivery_ports (s : State) (st : StationNo) (f : Delivery → Delivery) : (updDelivery s st f).ports = s.ports := rfl
@[simp] theorem updDelivery_toPrint (s : State) (st : StationNo) (f : Delivery → Delivery) : (updDelivery s st f).toPrint = s.toPrint := rfl
@[simp] theorem updDelivery_toScan (s : State) (st : StationNo) (f : Delivery → Delivery) : (updDelivery s st f).toScan = s.toScan := rfl
@[simp] theorem updDelivery_toTouch (s : State) (st : StationNo) (f : Delivery → Delivery) : (updDelivery s st f).toTouch = s.toTouch := rfl
@[simp] theorem updDelivery_quietPrint (s : State) (st : StationNo) (f : Delivery → Delivery) : (updDelivery s st f).quietPrint = s.quietPrint := rfl
@[simp] theorem updDelivery_quietScan (s : State) (st : StationNo) (f : Delivery → Delivery) : (updDelivery s st f).quietScan = s.quietScan := rfl
@[simp] theorem updDelivery_quietTouch (s : State) (st : StationNo) (f : Delivery → Delivery) : (updDelivery s st f).quietTouch = s.quietTouch := rfl
@[simp] theorem updDelivery_wakeReports (s : State) (st : StationNo) (f : Delivery → Delivery) : (updDelivery s st f).wakeReports = s.wakeReports := rfl
@[simp] theorem updDelivery_part (s : State) (st : StationNo) (f : Delivery → Delivery) : (updDelivery s st f).part = s.part := rfl
@[simp] theorem updDelivery_wake (s : State) (st : StationNo) (f : Delivery → Delivery) : (updDelivery s st f).wake = s.wake := rfl
@[simp] theorem updDelivery_time (s : State) (st : StationNo) (f : Delivery → Delivery) : (updDelivery s st f).time = s.time := rfl
@[simp] theorem updDelivery_portCount (s : State) (st : StationNo) (f : Delivery → Delivery) : (updDelivery s st f).portCount = s.portCount := rfl
@[simp] theorem updDelivery_jobCount (s : State) (st : StationNo) (f : Delivery → Delivery) : (updDelivery s st f).jobCount = s.jobCount := rfl
@[simp] theorem updDelivery_stationCount (s : State) (st : StationNo) (f : Delivery → Delivery) : (updDelivery s st f).stationCount = s.stationCount := rfl
@[simp] theorem updDelivery_poolCount (s : State) (st : StationNo) (f : Delivery → Delivery) : (updDelivery s st f).poolCount = s.poolCount := rfl
@[simp] theorem updDelivery_openCount (s : State) (st : StationNo) (f : Delivery → Delivery) : (updDelivery s st f).openCount = s.openCount := rfl
@[simp] theorem updDelivery_pending (s : State) (st : StationNo) (f : Delivery → Delivery) : (updDelivery s st f).pending = s.pending := rfl

@[simp] theorem updPort_mem (s : State) (p : PortNo) (f : Port → Port) : (updPort s p f).mem = s.mem := rfl
@[simp] theorem updPort_cards (s : State) (p : PortNo) (f : Port → Port) : (updPort s p f).cards = s.cards := rfl
@[simp] theorem updPort_posting (s : State) (p : PortNo) (f : Port → Port) : (updPort s p f).posting = s.posting := rfl
@[simp] theorem updPort_serving (s : State) (p : PortNo) (f : Port → Port) : (updPort s p f).serving = s.serving := rfl
@[simp] theorem updPort_stations (s : State) (p : PortNo) (f : Port → Port) : (updPort s p f).stations = s.stations := rfl
@[simp] theorem updPort_blocks (s : State) (p : PortNo) (f : Port → Port) : (updPort s p f).blocks = s.blocks := rfl
@[simp] theorem updPort_free (s : State) (p : PortNo) (f : Port → Port) : (updPort s p f).free = s.free := rfl
@[simp] theorem updPort_jobs (s : State) (p : PortNo) (f : Port → Port) : (updPort s p f).jobs = s.jobs := rfl
@[simp] theorem updPort_acceptance (s : State) (p : PortNo) (f : Port → Port) : (updPort s p f).acceptance = s.acceptance := rfl
@[simp] theorem updPort_printers (s : State) (p : PortNo) (f : Port → Port) : (updPort s p f).printers = s.printers := rfl
@[simp] theorem updPort_printerSet (s : State) (p : PortNo) (f : Port → Port) : (updPort s p f).printerSet = s.printerSet := rfl
@[simp] theorem updPort_printMode (s : State) (p : PortNo) (f : Port → Port) : (updPort s p f).printMode = s.printMode := rfl
@[simp] theorem updPort_scanners (s : State) (p : PortNo) (f : Port → Port) : (updPort s p f).scanners = s.scanners := rfl
@[simp] theorem updPort_scannerSet (s : State) (p : PortNo) (f : Port → Port) : (updPort s p f).scannerSet = s.scannerSet := rfl
@[simp] theorem updPort_scanMode (s : State) (p : PortNo) (f : Port → Port) : (updPort s p f).scanMode = s.scanMode := rfl
@[simp] theorem updPort_zones (s : State) (p : PortNo) (f : Port → Port) : (updPort s p f).zones = s.zones := rfl
@[simp] theorem updPort_contacts (s : State) (p : PortNo) (f : Port → Port) : (updPort s p f).contacts = s.contacts := rfl
@[simp] theorem updPort_panels (s : State) (p : PortNo) (f : Port → Port) : (updPort s p f).panels = s.panels := rfl
@[simp] theorem updPort_touchMode (s : State) (p : PortNo) (f : Port → Port) : (updPort s p f).touchMode = s.touchMode := rfl
@[simp] theorem updPort_delivery (s : State) (p : PortNo) (f : Port → Port) : (updPort s p f).delivery = s.delivery := rfl
@[simp] theorem updPort_notice (s : State) (p : PortNo) (f : Port → Port) : (updPort s p f).notice = s.notice := rfl
@[simp] theorem updPort_noticeMask (s : State) (p : PortNo) (f : Port → Port) : (updPort s p f).noticeMask = s.noticeMask := rfl
@[simp] theorem updPort_ports (s : State) (p : PortNo) (f : Port → Port) : (updPort s p f).ports = put s.ports p (f s.ports[p]) := rfl
@[simp] theorem updPort_toPrint (s : State) (p : PortNo) (f : Port → Port) : (updPort s p f).toPrint = s.toPrint := rfl
@[simp] theorem updPort_toScan (s : State) (p : PortNo) (f : Port → Port) : (updPort s p f).toScan = s.toScan := rfl
@[simp] theorem updPort_toTouch (s : State) (p : PortNo) (f : Port → Port) : (updPort s p f).toTouch = s.toTouch := rfl
@[simp] theorem updPort_quietPrint (s : State) (p : PortNo) (f : Port → Port) : (updPort s p f).quietPrint = s.quietPrint := rfl
@[simp] theorem updPort_quietScan (s : State) (p : PortNo) (f : Port → Port) : (updPort s p f).quietScan = s.quietScan := rfl
@[simp] theorem updPort_quietTouch (s : State) (p : PortNo) (f : Port → Port) : (updPort s p f).quietTouch = s.quietTouch := rfl
@[simp] theorem updPort_wakeReports (s : State) (p : PortNo) (f : Port → Port) : (updPort s p f).wakeReports = s.wakeReports := rfl
@[simp] theorem updPort_part (s : State) (p : PortNo) (f : Port → Port) : (updPort s p f).part = s.part := rfl
@[simp] theorem updPort_wake (s : State) (p : PortNo) (f : Port → Port) : (updPort s p f).wake = s.wake := rfl
@[simp] theorem updPort_time (s : State) (p : PortNo) (f : Port → Port) : (updPort s p f).time = s.time := rfl
@[simp] theorem updPort_portCount (s : State) (p : PortNo) (f : Port → Port) : (updPort s p f).portCount = s.portCount := rfl
@[simp] theorem updPort_jobCount (s : State) (p : PortNo) (f : Port → Port) : (updPort s p f).jobCount = s.jobCount := rfl
@[simp] theorem updPort_stationCount (s : State) (p : PortNo) (f : Port → Port) : (updPort s p f).stationCount = s.stationCount := rfl
@[simp] theorem updPort_poolCount (s : State) (p : PortNo) (f : Port → Port) : (updPort s p f).poolCount = s.poolCount := rfl
@[simp] theorem updPort_openCount (s : State) (p : PortNo) (f : Port → Port) : (updPort s p f).openCount = s.openCount := rfl
@[simp] theorem updPort_pending (s : State) (p : PortNo) (f : Port → Port) : (updPort s p f).pending = s.pending := rfl

@[simp] theorem setContact_mem (s : State) (n : ContactNo) (c : Option Contact) : (setContact s n c).mem = s.mem := rfl
@[simp] theorem setContact_cards (s : State) (n : ContactNo) (c : Option Contact) : (setContact s n c).cards = s.cards := rfl
@[simp] theorem setContact_posting (s : State) (n : ContactNo) (c : Option Contact) : (setContact s n c).posting = s.posting := rfl
@[simp] theorem setContact_serving (s : State) (n : ContactNo) (c : Option Contact) : (setContact s n c).serving = s.serving := rfl
@[simp] theorem setContact_stations (s : State) (n : ContactNo) (c : Option Contact) : (setContact s n c).stations = s.stations := rfl
@[simp] theorem setContact_blocks (s : State) (n : ContactNo) (c : Option Contact) : (setContact s n c).blocks = s.blocks := rfl
@[simp] theorem setContact_free (s : State) (n : ContactNo) (c : Option Contact) : (setContact s n c).free = s.free := rfl
@[simp] theorem setContact_jobs (s : State) (n : ContactNo) (c : Option Contact) : (setContact s n c).jobs = s.jobs := rfl
@[simp] theorem setContact_acceptance (s : State) (n : ContactNo) (c : Option Contact) : (setContact s n c).acceptance = s.acceptance := rfl
@[simp] theorem setContact_printers (s : State) (n : ContactNo) (c : Option Contact) : (setContact s n c).printers = s.printers := rfl
@[simp] theorem setContact_printerSet (s : State) (n : ContactNo) (c : Option Contact) : (setContact s n c).printerSet = s.printerSet := rfl
@[simp] theorem setContact_printMode (s : State) (n : ContactNo) (c : Option Contact) : (setContact s n c).printMode = s.printMode := rfl
@[simp] theorem setContact_scanners (s : State) (n : ContactNo) (c : Option Contact) : (setContact s n c).scanners = s.scanners := rfl
@[simp] theorem setContact_scannerSet (s : State) (n : ContactNo) (c : Option Contact) : (setContact s n c).scannerSet = s.scannerSet := rfl
@[simp] theorem setContact_scanMode (s : State) (n : ContactNo) (c : Option Contact) : (setContact s n c).scanMode = s.scanMode := rfl
@[simp] theorem setContact_zones (s : State) (n : ContactNo) (c : Option Contact) : (setContact s n c).zones = s.zones := rfl
@[simp] theorem setContact_contacts (s : State) (n : ContactNo) (c : Option Contact) : (setContact s n c).contacts = put s.contacts n c := rfl
@[simp] theorem setContact_panels (s : State) (n : ContactNo) (c : Option Contact) : (setContact s n c).panels = s.panels := rfl
@[simp] theorem setContact_touchMode (s : State) (n : ContactNo) (c : Option Contact) : (setContact s n c).touchMode = s.touchMode := rfl
@[simp] theorem setContact_delivery (s : State) (n : ContactNo) (c : Option Contact) : (setContact s n c).delivery = s.delivery := rfl
@[simp] theorem setContact_notice (s : State) (n : ContactNo) (c : Option Contact) : (setContact s n c).notice = s.notice := rfl
@[simp] theorem setContact_noticeMask (s : State) (n : ContactNo) (c : Option Contact) : (setContact s n c).noticeMask = s.noticeMask := rfl
@[simp] theorem setContact_ports (s : State) (n : ContactNo) (c : Option Contact) : (setContact s n c).ports = s.ports := rfl
@[simp] theorem setContact_toPrint (s : State) (n : ContactNo) (c : Option Contact) : (setContact s n c).toPrint = s.toPrint := rfl
@[simp] theorem setContact_toScan (s : State) (n : ContactNo) (c : Option Contact) : (setContact s n c).toScan = s.toScan := rfl
@[simp] theorem setContact_toTouch (s : State) (n : ContactNo) (c : Option Contact) : (setContact s n c).toTouch = s.toTouch := rfl
@[simp] theorem setContact_quietPrint (s : State) (n : ContactNo) (c : Option Contact) : (setContact s n c).quietPrint = s.quietPrint := rfl
@[simp] theorem setContact_quietScan (s : State) (n : ContactNo) (c : Option Contact) : (setContact s n c).quietScan = s.quietScan := rfl
@[simp] theorem setContact_quietTouch (s : State) (n : ContactNo) (c : Option Contact) : (setContact s n c).quietTouch = s.quietTouch := rfl
@[simp] theorem setContact_wakeReports (s : State) (n : ContactNo) (c : Option Contact) : (setContact s n c).wakeReports = s.wakeReports := rfl
@[simp] theorem setContact_part (s : State) (n : ContactNo) (c : Option Contact) : (setContact s n c).part = s.part := rfl
@[simp] theorem setContact_wake (s : State) (n : ContactNo) (c : Option Contact) : (setContact s n c).wake = s.wake := rfl
@[simp] theorem setContact_time (s : State) (n : ContactNo) (c : Option Contact) : (setContact s n c).time = s.time := rfl
@[simp] theorem setContact_portCount (s : State) (n : ContactNo) (c : Option Contact) : (setContact s n c).portCount = s.portCount := rfl
@[simp] theorem setContact_jobCount (s : State) (n : ContactNo) (c : Option Contact) : (setContact s n c).jobCount = s.jobCount := rfl
@[simp] theorem setContact_stationCount (s : State) (n : ContactNo) (c : Option Contact) : (setContact s n c).stationCount = s.stationCount := rfl
@[simp] theorem setContact_poolCount (s : State) (n : ContactNo) (c : Option Contact) : (setContact s n c).poolCount = s.poolCount := rfl
@[simp] theorem setContact_openCount (s : State) (n : ContactNo) (c : Option Contact) : (setContact s n c).openCount = s.openCount := rfl
@[simp] theorem setContact_pending (s : State) (n : ContactNo) (c : Option Contact) : (setContact s n c).pending = s.pending := rfl

@[simp] theorem raiseNotice_mem (s : State) (st : StationNo) : (raiseNotice s st).mem = s.mem := rfl
@[simp] theorem raiseNotice_cards (s : State) (st : StationNo) : (raiseNotice s st).cards = s.cards := rfl
@[simp] theorem raiseNotice_posting (s : State) (st : StationNo) : (raiseNotice s st).posting = s.posting := rfl
@[simp] theorem raiseNotice_serving (s : State) (st : StationNo) : (raiseNotice s st).serving = s.serving := rfl
@[simp] theorem raiseNotice_stations (s : State) (st : StationNo) : (raiseNotice s st).stations = s.stations := rfl
@[simp] theorem raiseNotice_blocks (s : State) (st : StationNo) : (raiseNotice s st).blocks = s.blocks := rfl
@[simp] theorem raiseNotice_free (s : State) (st : StationNo) : (raiseNotice s st).free = s.free := rfl
@[simp] theorem raiseNotice_jobs (s : State) (st : StationNo) : (raiseNotice s st).jobs = s.jobs := rfl
@[simp] theorem raiseNotice_acceptance (s : State) (st : StationNo) : (raiseNotice s st).acceptance = s.acceptance := rfl
@[simp] theorem raiseNotice_printers (s : State) (st : StationNo) : (raiseNotice s st).printers = s.printers := rfl
@[simp] theorem raiseNotice_printerSet (s : State) (st : StationNo) : (raiseNotice s st).printerSet = s.printerSet := rfl
@[simp] theorem raiseNotice_printMode (s : State) (st : StationNo) : (raiseNotice s st).printMode = s.printMode := rfl
@[simp] theorem raiseNotice_scanners (s : State) (st : StationNo) : (raiseNotice s st).scanners = s.scanners := rfl
@[simp] theorem raiseNotice_scannerSet (s : State) (st : StationNo) : (raiseNotice s st).scannerSet = s.scannerSet := rfl
@[simp] theorem raiseNotice_scanMode (s : State) (st : StationNo) : (raiseNotice s st).scanMode = s.scanMode := rfl
@[simp] theorem raiseNotice_zones (s : State) (st : StationNo) : (raiseNotice s st).zones = s.zones := rfl
@[simp] theorem raiseNotice_contacts (s : State) (st : StationNo) : (raiseNotice s st).contacts = s.contacts := rfl
@[simp] theorem raiseNotice_panels (s : State) (st : StationNo) : (raiseNotice s st).panels = s.panels := rfl
@[simp] theorem raiseNotice_touchMode (s : State) (st : StationNo) : (raiseNotice s st).touchMode = s.touchMode := rfl
@[simp] theorem raiseNotice_delivery (s : State) (st : StationNo) : (raiseNotice s st).delivery = s.delivery := rfl
@[simp] theorem raiseNotice_notice (s : State) (st : StationNo) : (raiseNotice s st).notice = s.notice ||| stationBit st := rfl
@[simp] theorem raiseNotice_noticeMask (s : State) (st : StationNo) : (raiseNotice s st).noticeMask = s.noticeMask := rfl
@[simp] theorem raiseNotice_ports (s : State) (st : StationNo) : (raiseNotice s st).ports = s.ports := rfl
@[simp] theorem raiseNotice_toPrint (s : State) (st : StationNo) : (raiseNotice s st).toPrint = s.toPrint := rfl
@[simp] theorem raiseNotice_toScan (s : State) (st : StationNo) : (raiseNotice s st).toScan = s.toScan := rfl
@[simp] theorem raiseNotice_toTouch (s : State) (st : StationNo) : (raiseNotice s st).toTouch = s.toTouch := rfl
@[simp] theorem raiseNotice_quietPrint (s : State) (st : StationNo) : (raiseNotice s st).quietPrint = s.quietPrint := rfl
@[simp] theorem raiseNotice_quietScan (s : State) (st : StationNo) : (raiseNotice s st).quietScan = s.quietScan := rfl
@[simp] theorem raiseNotice_quietTouch (s : State) (st : StationNo) : (raiseNotice s st).quietTouch = s.quietTouch := rfl
@[simp] theorem raiseNotice_wakeReports (s : State) (st : StationNo) : (raiseNotice s st).wakeReports = s.wakeReports := rfl
@[simp] theorem raiseNotice_part (s : State) (st : StationNo) : (raiseNotice s st).part = s.part := rfl
@[simp] theorem raiseNotice_wake (s : State) (st : StationNo) : (raiseNotice s st).wake = s.wake := rfl
@[simp] theorem raiseNotice_time (s : State) (st : StationNo) : (raiseNotice s st).time = s.time := rfl
@[simp] theorem raiseNotice_portCount (s : State) (st : StationNo) : (raiseNotice s st).portCount = s.portCount := rfl
@[simp] theorem raiseNotice_jobCount (s : State) (st : StationNo) : (raiseNotice s st).jobCount = s.jobCount := rfl
@[simp] theorem raiseNotice_stationCount (s : State) (st : StationNo) : (raiseNotice s st).stationCount = s.stationCount := rfl
@[simp] theorem raiseNotice_poolCount (s : State) (st : StationNo) : (raiseNotice s st).poolCount = s.poolCount := rfl
@[simp] theorem raiseNotice_openCount (s : State) (st : StationNo) : (raiseNotice s st).openCount = s.openCount := rfl
@[simp] theorem raiseNotice_pending (s : State) (st : StationNo) : (raiseNotice s st).pending = s.pending := rfl

@[simp] theorem clearNotice_mem (s : State) (st : StationNo) : (clearNotice s st).mem = s.mem := rfl
@[simp] theorem clearNotice_cards (s : State) (st : StationNo) : (clearNotice s st).cards = s.cards := rfl
@[simp] theorem clearNotice_posting (s : State) (st : StationNo) : (clearNotice s st).posting = s.posting := rfl
@[simp] theorem clearNotice_serving (s : State) (st : StationNo) : (clearNotice s st).serving = s.serving := rfl
@[simp] theorem clearNotice_stations (s : State) (st : StationNo) : (clearNotice s st).stations = s.stations := rfl
@[simp] theorem clearNotice_blocks (s : State) (st : StationNo) : (clearNotice s st).blocks = s.blocks := rfl
@[simp] theorem clearNotice_free (s : State) (st : StationNo) : (clearNotice s st).free = s.free := rfl
@[simp] theorem clearNotice_jobs (s : State) (st : StationNo) : (clearNotice s st).jobs = s.jobs := rfl
@[simp] theorem clearNotice_acceptance (s : State) (st : StationNo) : (clearNotice s st).acceptance = s.acceptance := rfl
@[simp] theorem clearNotice_printers (s : State) (st : StationNo) : (clearNotice s st).printers = s.printers := rfl
@[simp] theorem clearNotice_printerSet (s : State) (st : StationNo) : (clearNotice s st).printerSet = s.printerSet := rfl
@[simp] theorem clearNotice_printMode (s : State) (st : StationNo) : (clearNotice s st).printMode = s.printMode := rfl
@[simp] theorem clearNotice_scanners (s : State) (st : StationNo) : (clearNotice s st).scanners = s.scanners := rfl
@[simp] theorem clearNotice_scannerSet (s : State) (st : StationNo) : (clearNotice s st).scannerSet = s.scannerSet := rfl
@[simp] theorem clearNotice_scanMode (s : State) (st : StationNo) : (clearNotice s st).scanMode = s.scanMode := rfl
@[simp] theorem clearNotice_zones (s : State) (st : StationNo) : (clearNotice s st).zones = s.zones := rfl
@[simp] theorem clearNotice_contacts (s : State) (st : StationNo) : (clearNotice s st).contacts = s.contacts := rfl
@[simp] theorem clearNotice_panels (s : State) (st : StationNo) : (clearNotice s st).panels = s.panels := rfl
@[simp] theorem clearNotice_touchMode (s : State) (st : StationNo) : (clearNotice s st).touchMode = s.touchMode := rfl
@[simp] theorem clearNotice_delivery (s : State) (st : StationNo) : (clearNotice s st).delivery = s.delivery := rfl
@[simp] theorem clearNotice_notice (s : State) (st : StationNo) : (clearNotice s st).notice = s.notice &&& ~~~ stationBit st := rfl
@[simp] theorem clearNotice_noticeMask (s : State) (st : StationNo) : (clearNotice s st).noticeMask = s.noticeMask := rfl
@[simp] theorem clearNotice_ports (s : State) (st : StationNo) : (clearNotice s st).ports = s.ports := rfl
@[simp] theorem clearNotice_toPrint (s : State) (st : StationNo) : (clearNotice s st).toPrint = s.toPrint := rfl
@[simp] theorem clearNotice_toScan (s : State) (st : StationNo) : (clearNotice s st).toScan = s.toScan := rfl
@[simp] theorem clearNotice_toTouch (s : State) (st : StationNo) : (clearNotice s st).toTouch = s.toTouch := rfl
@[simp] theorem clearNotice_quietPrint (s : State) (st : StationNo) : (clearNotice s st).quietPrint = s.quietPrint := rfl
@[simp] theorem clearNotice_quietScan (s : State) (st : StationNo) : (clearNotice s st).quietScan = s.quietScan := rfl
@[simp] theorem clearNotice_quietTouch (s : State) (st : StationNo) : (clearNotice s st).quietTouch = s.quietTouch := rfl
@[simp] theorem clearNotice_wakeReports (s : State) (st : StationNo) : (clearNotice s st).wakeReports = s.wakeReports := rfl
@[simp] theorem clearNotice_part (s : State) (st : StationNo) : (clearNotice s st).part = s.part := rfl
@[simp] theorem clearNotice_wake (s : State) (st : StationNo) : (clearNotice s st).wake = s.wake := rfl
@[simp] theorem clearNotice_time (s : State) (st : StationNo) : (clearNotice s st).time = s.time := rfl
@[simp] theorem clearNotice_portCount (s : State) (st : StationNo) : (clearNotice s st).portCount = s.portCount := rfl
@[simp] theorem clearNotice_jobCount (s : State) (st : StationNo) : (clearNotice s st).jobCount = s.jobCount := rfl
@[simp] theorem clearNotice_stationCount (s : State) (st : StationNo) : (clearNotice s st).stationCount = s.stationCount := rfl
@[simp] theorem clearNotice_poolCount (s : State) (st : StationNo) : (clearNotice s st).poolCount = s.poolCount := rfl
@[simp] theorem clearNotice_openCount (s : State) (st : StationNo) : (clearNotice s st).openCount = s.openCount := rfl
@[simp] theorem clearNotice_pending (s : State) (st : StationNo) : (clearNotice s st).pending = s.pending := rfl

@[simp] theorem State.withPending_mem (s : State) (q : List Instr) : (s.withPending q).mem = s.mem := rfl
@[simp] theorem State.withPending_cards (s : State) (q : List Instr) : (s.withPending q).cards = s.cards := rfl
@[simp] theorem State.withPending_posting (s : State) (q : List Instr) : (s.withPending q).posting = s.posting := rfl
@[simp] theorem State.withPending_serving (s : State) (q : List Instr) : (s.withPending q).serving = s.serving := rfl
@[simp] theorem State.withPending_stations (s : State) (q : List Instr) : (s.withPending q).stations = s.stations := rfl
@[simp] theorem State.withPending_blocks (s : State) (q : List Instr) : (s.withPending q).blocks = s.blocks := rfl
@[simp] theorem State.withPending_free (s : State) (q : List Instr) : (s.withPending q).free = s.free := rfl
@[simp] theorem State.withPending_jobs (s : State) (q : List Instr) : (s.withPending q).jobs = s.jobs := rfl
@[simp] theorem State.withPending_acceptance (s : State) (q : List Instr) : (s.withPending q).acceptance = s.acceptance := rfl
@[simp] theorem State.withPending_printers (s : State) (q : List Instr) : (s.withPending q).printers = s.printers := rfl
@[simp] theorem State.withPending_printerSet (s : State) (q : List Instr) : (s.withPending q).printerSet = s.printerSet := rfl
@[simp] theorem State.withPending_printMode (s : State) (q : List Instr) : (s.withPending q).printMode = s.printMode := rfl
@[simp] theorem State.withPending_scanners (s : State) (q : List Instr) : (s.withPending q).scanners = s.scanners := rfl
@[simp] theorem State.withPending_scannerSet (s : State) (q : List Instr) : (s.withPending q).scannerSet = s.scannerSet := rfl
@[simp] theorem State.withPending_scanMode (s : State) (q : List Instr) : (s.withPending q).scanMode = s.scanMode := rfl
@[simp] theorem State.withPending_zones (s : State) (q : List Instr) : (s.withPending q).zones = s.zones := rfl
@[simp] theorem State.withPending_contacts (s : State) (q : List Instr) : (s.withPending q).contacts = s.contacts := rfl
@[simp] theorem State.withPending_panels (s : State) (q : List Instr) : (s.withPending q).panels = s.panels := rfl
@[simp] theorem State.withPending_touchMode (s : State) (q : List Instr) : (s.withPending q).touchMode = s.touchMode := rfl
@[simp] theorem State.withPending_delivery (s : State) (q : List Instr) : (s.withPending q).delivery = s.delivery := rfl
@[simp] theorem State.withPending_notice (s : State) (q : List Instr) : (s.withPending q).notice = s.notice := rfl
@[simp] theorem State.withPending_noticeMask (s : State) (q : List Instr) : (s.withPending q).noticeMask = s.noticeMask := rfl
@[simp] theorem State.withPending_ports (s : State) (q : List Instr) : (s.withPending q).ports = s.ports := rfl
@[simp] theorem State.withPending_toPrint (s : State) (q : List Instr) : (s.withPending q).toPrint = s.toPrint := rfl
@[simp] theorem State.withPending_toScan (s : State) (q : List Instr) : (s.withPending q).toScan = s.toScan := rfl
@[simp] theorem State.withPending_toTouch (s : State) (q : List Instr) : (s.withPending q).toTouch = s.toTouch := rfl
@[simp] theorem State.withPending_quietPrint (s : State) (q : List Instr) : (s.withPending q).quietPrint = s.quietPrint := rfl
@[simp] theorem State.withPending_quietScan (s : State) (q : List Instr) : (s.withPending q).quietScan = s.quietScan := rfl
@[simp] theorem State.withPending_quietTouch (s : State) (q : List Instr) : (s.withPending q).quietTouch = s.quietTouch := rfl
@[simp] theorem State.withPending_wakeReports (s : State) (q : List Instr) : (s.withPending q).wakeReports = s.wakeReports := rfl
@[simp] theorem State.withPending_part (s : State) (q : List Instr) : (s.withPending q).part = s.part := rfl
@[simp] theorem State.withPending_wake (s : State) (q : List Instr) : (s.withPending q).wake = s.wake := rfl
@[simp] theorem State.withPending_time (s : State) (q : List Instr) : (s.withPending q).time = s.time := rfl
@[simp] theorem State.withPending_portCount (s : State) (q : List Instr) : (s.withPending q).portCount = s.portCount := rfl
@[simp] theorem State.withPending_jobCount (s : State) (q : List Instr) : (s.withPending q).jobCount = s.jobCount := rfl
@[simp] theorem State.withPending_stationCount (s : State) (q : List Instr) : (s.withPending q).stationCount = s.stationCount := rfl
@[simp] theorem State.withPending_poolCount (s : State) (q : List Instr) : (s.withPending q).poolCount = s.poolCount := rfl
@[simp] theorem State.withPending_openCount (s : State) (q : List Instr) : (s.withPending q).openCount = s.openCount := rfl
@[simp] theorem State.withPending_pending (s : State) (q : List Instr) : (s.withPending q).pending = q := rfl

@[simp] theorem useOpen_mem (s : State) : (useOpen s).mem = s.mem := rfl
@[simp] theorem useOpen_cards (s : State) : (useOpen s).cards = s.cards := rfl
@[simp] theorem useOpen_posting (s : State) : (useOpen s).posting = s.posting := rfl
@[simp] theorem useOpen_serving (s : State) : (useOpen s).serving = s.serving := rfl
@[simp] theorem useOpen_stations (s : State) : (useOpen s).stations = s.stations := rfl
@[simp] theorem useOpen_blocks (s : State) : (useOpen s).blocks = s.blocks := rfl
@[simp] theorem useOpen_free (s : State) : (useOpen s).free = s.free := rfl
@[simp] theorem useOpen_jobs (s : State) : (useOpen s).jobs = s.jobs := rfl
@[simp] theorem useOpen_acceptance (s : State) : (useOpen s).acceptance = s.acceptance := rfl
@[simp] theorem useOpen_printers (s : State) : (useOpen s).printers = s.printers := rfl
@[simp] theorem useOpen_printerSet (s : State) : (useOpen s).printerSet = s.printerSet := rfl
@[simp] theorem useOpen_printMode (s : State) : (useOpen s).printMode = s.printMode := rfl
@[simp] theorem useOpen_scanners (s : State) : (useOpen s).scanners = s.scanners := rfl
@[simp] theorem useOpen_scannerSet (s : State) : (useOpen s).scannerSet = s.scannerSet := rfl
@[simp] theorem useOpen_scanMode (s : State) : (useOpen s).scanMode = s.scanMode := rfl
@[simp] theorem useOpen_zones (s : State) : (useOpen s).zones = s.zones := rfl
@[simp] theorem useOpen_contacts (s : State) : (useOpen s).contacts = s.contacts := rfl
@[simp] theorem useOpen_panels (s : State) : (useOpen s).panels = s.panels := rfl
@[simp] theorem useOpen_touchMode (s : State) : (useOpen s).touchMode = s.touchMode := rfl
@[simp] theorem useOpen_delivery (s : State) : (useOpen s).delivery = s.delivery := rfl
@[simp] theorem useOpen_notice (s : State) : (useOpen s).notice = s.notice := rfl
@[simp] theorem useOpen_noticeMask (s : State) : (useOpen s).noticeMask = s.noticeMask := rfl
@[simp] theorem useOpen_ports (s : State) : (useOpen s).ports = s.ports := rfl
@[simp] theorem useOpen_toPrint (s : State) : (useOpen s).toPrint = s.toPrint := rfl
@[simp] theorem useOpen_toScan (s : State) : (useOpen s).toScan = s.toScan := rfl
@[simp] theorem useOpen_toTouch (s : State) : (useOpen s).toTouch = s.toTouch := rfl
@[simp] theorem useOpen_quietPrint (s : State) : (useOpen s).quietPrint = s.quietPrint := rfl
@[simp] theorem useOpen_quietScan (s : State) : (useOpen s).quietScan = s.quietScan := rfl
@[simp] theorem useOpen_quietTouch (s : State) : (useOpen s).quietTouch = s.quietTouch := rfl
@[simp] theorem useOpen_wakeReports (s : State) : (useOpen s).wakeReports = s.wakeReports := rfl
@[simp] theorem useOpen_part (s : State) : (useOpen s).part = s.part := rfl
@[simp] theorem useOpen_wake (s : State) : (useOpen s).wake = s.wake := rfl
@[simp] theorem useOpen_time (s : State) : (useOpen s).time = s.time := rfl
@[simp] theorem useOpen_portCount (s : State) : (useOpen s).portCount = s.portCount := rfl
@[simp] theorem useOpen_jobCount (s : State) : (useOpen s).jobCount = s.jobCount := rfl
@[simp] theorem useOpen_stationCount (s : State) : (useOpen s).stationCount = s.stationCount := rfl
@[simp] theorem useOpen_poolCount (s : State) : (useOpen s).poolCount = s.poolCount := rfl
@[simp] theorem useOpen_openCount (s : State) : (useOpen s).openCount = s.openCount + 1 := rfl
@[simp] theorem useOpen_pending (s : State) : (useOpen s).pending = s.pending := rfl

@[simp] theorem publish_mem (ps : List PortNo) (b a : State) : (publish ps b a).mem = a.mem := rfl
@[simp] theorem publish_cards (ps : List PortNo) (b a : State) : (publish ps b a).cards = a.cards := rfl
@[simp] theorem publish_posting (ps : List PortNo) (b a : State) : (publish ps b a).posting = a.posting := rfl
@[simp] theorem publish_serving (ps : List PortNo) (b a : State) : (publish ps b a).serving = a.serving := rfl
@[simp] theorem publish_stations (ps : List PortNo) (b a : State) : (publish ps b a).stations = a.stations := rfl
@[simp] theorem publish_blocks (ps : List PortNo) (b a : State) : (publish ps b a).blocks = a.blocks := rfl
@[simp] theorem publish_free (ps : List PortNo) (b a : State) : (publish ps b a).free = a.free := rfl
@[simp] theorem publish_jobs (ps : List PortNo) (b a : State) : (publish ps b a).jobs = a.jobs := rfl
@[simp] theorem publish_acceptance (ps : List PortNo) (b a : State) : (publish ps b a).acceptance = a.acceptance := rfl
@[simp] theorem publish_printers (ps : List PortNo) (b a : State) : (publish ps b a).printers = a.printers := rfl
@[simp] theorem publish_printerSet (ps : List PortNo) (b a : State) : (publish ps b a).printerSet = a.printerSet := rfl
@[simp] theorem publish_printMode (ps : List PortNo) (b a : State) : (publish ps b a).printMode = a.printMode := rfl
@[simp] theorem publish_scanners (ps : List PortNo) (b a : State) : (publish ps b a).scanners = a.scanners := rfl
@[simp] theorem publish_scannerSet (ps : List PortNo) (b a : State) : (publish ps b a).scannerSet = a.scannerSet := rfl
@[simp] theorem publish_scanMode (ps : List PortNo) (b a : State) : (publish ps b a).scanMode = a.scanMode := rfl
@[simp] theorem publish_zones (ps : List PortNo) (b a : State) : (publish ps b a).zones = a.zones := rfl
@[simp] theorem publish_contacts (ps : List PortNo) (b a : State) : (publish ps b a).contacts = a.contacts := rfl
@[simp] theorem publish_panels (ps : List PortNo) (b a : State) : (publish ps b a).panels = a.panels := rfl
@[simp] theorem publish_touchMode (ps : List PortNo) (b a : State) : (publish ps b a).touchMode = a.touchMode := rfl
@[simp] theorem publish_delivery (ps : List PortNo) (b a : State) : (publish ps b a).delivery = a.delivery := rfl
@[simp] theorem publish_notice (ps : List PortNo) (b a : State) : (publish ps b a).notice = a.notice := rfl
@[simp] theorem publish_noticeMask (ps : List PortNo) (b a : State) : (publish ps b a).noticeMask = a.noticeMask := rfl
@[simp] theorem publish_ports (ps : List PortNo) (b a : State) : (publish ps b a).ports = a.ports := rfl
@[simp] theorem publish_toPrint (ps : List PortNo) (b a : State) : (publish ps b a).toPrint = a.toPrint := rfl
@[simp] theorem publish_toScan (ps : List PortNo) (b a : State) : (publish ps b a).toScan = a.toScan := rfl
@[simp] theorem publish_toTouch (ps : List PortNo) (b a : State) : (publish ps b a).toTouch = a.toTouch := rfl
@[simp] theorem publish_quietPrint (ps : List PortNo) (b a : State) : (publish ps b a).quietPrint = a.quietPrint := rfl
@[simp] theorem publish_quietScan (ps : List PortNo) (b a : State) : (publish ps b a).quietScan = a.quietScan := rfl
@[simp] theorem publish_quietTouch (ps : List PortNo) (b a : State) : (publish ps b a).quietTouch = a.quietTouch := rfl
@[simp] theorem publish_wakeReports (ps : List PortNo) (b a : State) : (publish ps b a).wakeReports = a.wakeReports := rfl
@[simp] theorem publish_part (ps : List PortNo) (b a : State) : (publish ps b a).part = a.part := rfl
@[simp] theorem publish_wake (ps : List PortNo) (b a : State) : (publish ps b a).wake = a.wake := rfl
@[simp] theorem publish_time (ps : List PortNo) (b a : State) : (publish ps b a).time = a.time := rfl
@[simp] theorem publish_openCount (ps : List PortNo) (b a : State) : (publish ps b a).openCount = a.openCount := rfl
@[simp] theorem publish_pending (ps : List PortNo) (b a : State) : (publish ps b a).pending = a.pending := rfl

end Sys2Proof.Machine
end

