-- ==== Sys2Proof/Laws/Frames.lean ====
section
/-! SUPPORT. What each operation of a block may change: one frame lemma per operation, each saying that every field outside
the block's own is as before. -/

namespace Sys2Proof.Machine

/-- What the Delivery Unit may change: every other field is as before. -/
def DeliveryStep (s t : State) : Prop :=
  ∃ x0 x1 x2, t =
    { s with mem := x0, delivery := x1, notice := x2 }

theorem DeliveryStep.refl (s : State) : DeliveryStep s s := ⟨_, _, _, rfl⟩

theorem DeliveryStep.trans {s t u : State} (h : DeliveryStep s t) (k : DeliveryStep t u) : DeliveryStep s u := by
  obtain ⟨_, _, _, rfl⟩ := h
  obtain ⟨_, _, _, rfl⟩ := k
  exact ⟨_, _, _, rfl⟩

/-- What the Print Scheduler, with the pool, the holdings, the send lists and the rings it acts on, may change: every other field is as before. -/
def PrintStep (s t : State) : Prop :=
  ∃ x0 x1 x2 x3 x4 x5 x6 x7 x8, t =
    { s with mem := x0, stations := x1, blocks := x2, free := x3, jobs := x4, printers := x5, delivery := x6, notice := x7, ports := x8 }

theorem PrintStep.refl (s : State) : PrintStep s s := ⟨_, _, _, _, _, _, _, _, _, rfl⟩

theorem PrintStep.trans {s t u : State} (h : PrintStep s t) (k : PrintStep t u) : PrintStep s u := by
  obtain ⟨_, _, _, _, _, _, _, _, _, rfl⟩ := h
  obtain ⟨_, _, _, _, _, _, _, _, _, rfl⟩ := k
  exact ⟨_, _, _, _, _, _, _, _, _, rfl⟩

/-- What the Scan Router, with the send lists and the rings it acts on, may change: every other field is as before. -/
def ScanStep (s t : State) : Prop :=
  ∃ x0 x1 x2 x3 x4, t =
    { s with mem := x0, scanners := x1, delivery := x2, notice := x3, ports := x4 }

theorem ScanStep.refl (s : State) : ScanStep s s := ⟨_, _, _, _, _, rfl⟩

theorem ScanStep.trans {s t u : State} (h : ScanStep s t) (k : ScanStep t u) : ScanStep s u := by
  obtain ⟨_, _, _, _, _, rfl⟩ := h
  obtain ⟨_, _, _, _, _, rfl⟩ := k
  exact ⟨_, _, _, _, _, rfl⟩

/-- What the Touch Router, with the rings it acts on, may change: every other field is as before. -/
def TouchStep (s t : State) : Prop :=
  ∃ x0 x1 x2 x3 x4, t =
    { s with mem := x0, contacts := x1, delivery := x2, notice := x3, wakeReports := x4 }

theorem TouchStep.refl (s : State) : TouchStep s s := ⟨_, _, _, _, _, rfl⟩

theorem TouchStep.trans {s t u : State} (h : TouchStep s t) (k : TouchStep t u) : TouchStep s u := by
  obtain ⟨_, _, _, _, _, rfl⟩ := h
  obtain ⟨_, _, _, _, _, rfl⟩ := k
  exact ⟨_, _, _, _, _, rfl⟩

/-- What a received group or frame may change: every other field is as before. -/
def LinkStep (s t : State) : Prop :=
  ∃ x0 x1 x2 x3 x4 x5 x6 x7 x8 x9 x10 x11 x12 x13 x14, t =
    { s with mem := x0, stations := x1, blocks := x2, free := x3, jobs := x4, printers := x5, scanners := x6, contacts := x7, delivery := x8, notice := x9, ports := x10, toPrint := x11, toScan := x12, toTouch := x13, wakeReports := x14 }

theorem LinkStep.refl (s : State) : LinkStep s s := ⟨_, _, _, _, _, _, _, _, _, _, _, _, _, _, _, rfl⟩

theorem LinkStep.trans {s t u : State} (h : LinkStep s t) (k : LinkStep t u) : LinkStep s u := by
  obtain ⟨_, _, _, _, _, _, _, _, _, _, _, _, _, _, _, rfl⟩ := h
  obtain ⟨_, _, _, _, _, _, _, _, _, _, _, _, _, _, _, rfl⟩ := k
  exact ⟨_, _, _, _, _, _, _, _, _, _, _, _, _, _, _, rfl⟩

/-- What a served request may change: every other field is as before. -/
def RequestStep (s t : State) : Prop :=
  ∃ x0 x1 x2 x3 x4 x5 x6 x7 x8 x9 x10 x11 x12 x13 x14 x15 x16 x17 x18 x19 x20 x21 x22 x23 x24 x25 x26 x27, t =
    { s with mem := x0, cards := x1, posting := x2, serving := x3, stations := x4, blocks := x5, free := x6, jobs := x7, acceptance := x8, printers := x9, printerSet := x10, scanners := x11, scannerSet := x12, zones := x13, contacts := x14, delivery := x15, notice := x16, ports := x17, quietPrint := x18, quietScan := x19, quietTouch := x20, part := x21, wake := x22, toPrint := x23, toScan := x24, toTouch := x25, wakeReports := x26, openCount := x27 }

theorem RequestStep.refl (s : State) : RequestStep s s := ⟨_, _, _, _, _, _, _, _, _, _, _, _, _, _, _, _, _, _, _, _, _, _, _, _, _, _, _, _, rfl⟩

theorem RequestStep.trans {s t u : State} (h : RequestStep s t) (k : RequestStep t u) : RequestStep s u := by
  obtain ⟨_, _, _, _, _, _, _, _, _, _, _, _, _, _, _, _, _, _, _, _, _, _, _, _, _, _, _, _, rfl⟩ := h
  obtain ⟨_, _, _, _, _, _, _, _, _, _, _, _, _, _, _, _, _, _, _, _, _, _, _, _, _, _, _, _, rfl⟩ := k
  exact ⟨_, _, _, _, _, _, _, _, _, _, _, _, _, _, _, _, _, _, _, _, _, _, _, _, _, _, _, _, rfl⟩

theorem DeliveryStep.print {s t : State} (h : DeliveryStep s t) : PrintStep s t := by
  obtain ⟨_, _, _, rfl⟩ := h
  exact ⟨_, _, _, _, _, _, _, _, _, rfl⟩

theorem DeliveryStep.scan {s t : State} (h : DeliveryStep s t) : ScanStep s t := by
  obtain ⟨_, _, _, rfl⟩ := h
  exact ⟨_, _, _, _, _, rfl⟩

theorem DeliveryStep.touch {s t : State} (h : DeliveryStep s t) : TouchStep s t := by
  obtain ⟨_, _, _, rfl⟩ := h
  exact ⟨_, _, _, _, _, rfl⟩

theorem DeliveryStep.link {s t : State} (h : DeliveryStep s t) : LinkStep s t := by
  obtain ⟨_, _, _, rfl⟩ := h
  exact ⟨_, _, _, _, _, _, _, _, _, _, _, _, _, _, _, rfl⟩

theorem PrintStep.link {s t : State} (h : PrintStep s t) : LinkStep s t := by
  obtain ⟨_, _, _, _, _, _, _, _, _, rfl⟩ := h
  exact ⟨_, _, _, _, _, _, _, _, _, _, _, _, _, _, _, rfl⟩

theorem ScanStep.link {s t : State} (h : ScanStep s t) : LinkStep s t := by
  obtain ⟨_, _, _, _, _, rfl⟩ := h
  exact ⟨_, _, _, _, _, _, _, _, _, _, _, _, _, _, _, rfl⟩

theorem TouchStep.link {s t : State} (h : TouchStep s t) : LinkStep s t := by
  obtain ⟨_, _, _, _, _, rfl⟩ := h
  exact ⟨_, _, _, _, _, _, _, _, _, _, _, _, _, _, _, rfl⟩

theorem LinkStep.request {s t : State} (h : LinkStep s t) : RequestStep s t := by
  obtain ⟨_, _, _, _, _, _, _, _, _, _, _, _, _, _, _, rfl⟩ := h
  exact ⟨_, _, _, _, _, _, _, _, _, _, _, _, _, _, _, _, _, _, _, _, _, _, _, _, _, _, _, _, rfl⟩

theorem DeliveryStep.request {s t : State} (h : DeliveryStep s t) : RequestStep s t := by
  obtain ⟨_, _, _, rfl⟩ := h
  exact ⟨_, _, _, _, _, _, _, _, _, _, _, _, _, _, _, _, _, _, _, _, _, _, _, _, _, _, _, _, rfl⟩

theorem PrintStep.request {s t : State} (h : PrintStep s t) : RequestStep s t := by
  obtain ⟨_, _, _, _, _, _, _, _, _, rfl⟩ := h
  exact ⟨_, _, _, _, _, _, _, _, _, _, _, _, _, _, _, _, _, _, _, _, _, _, _, _, _, _, _, _, rfl⟩

theorem ScanStep.request {s t : State} (h : ScanStep s t) : RequestStep s t := by
  obtain ⟨_, _, _, _, _, rfl⟩ := h
  exact ⟨_, _, _, _, _, _, _, _, _, _, _, _, _, _, _, _, _, _, _, _, _, _, _, _, _, _, _, _, rfl⟩

theorem TouchStep.request {s t : State} (h : TouchStep s t) : RequestStep s t := by
  obtain ⟨_, _, _, _, _, rfl⟩ := h
  exact ⟨_, _, _, _, _, _, _, _, _, _, _, _, _, _, _, _, _, _, _, _, _, _, _, _, _, _, _, _, rfl⟩

/-! ### Folds -/

/-- A relation that every step of a fold keeps holds of the fold. -/
theorem foldl_rel {α β : Type} {R : α → α → Prop} (refl : ∀ a, R a a) (trans : ∀ {a b c}, R a b → R b c → R a c)
    (f : α → β → α) (h : ∀ a x, R a (f a x)) (l : List β) (a : α) : R a (l.foldl f a) := by
  induction l generalizing a with
  | nil => exact refl a
  | cons x l ih => exact trans (h a x) (ih (f a x))

/-- A property that every step of a fold keeps holds after the fold. -/
theorem foldl_inv {α β : Type} {P : α → Prop} (f : α → β → α) (h : ∀ a x, P a → P (f a x)) (l : List β) (a : α)
    (ha : P a) : P (l.foldl f a) := by
  induction l generalizing a with
  | nil => exact ha
  | cons x l ih => exact ih (f a x) (h a x ha)

/-! ### The Delivery Unit -/

theorem writeRecord_frame (st : StationNo) (r : Record) (stamp : Half) (s : State) :
    DeliveryStep s (writeRecord st r stamp s) := ⟨_, _, _, rfl⟩

theorem setGap_frame (s : State) (st : StationNo) : DeliveryStep s (setGap s st) := ⟨_, _, _, rfl⟩

theorem joinOwed_frame (s : State) (st : StationNo) (r : Record) : DeliveryStep s (joinOwed s st r) := ⟨_, _, _, rfl⟩

theorem giveStatus_frame (st : StationNo) (r : Record) (s : State) : DeliveryStep s (giveStatus st r s) := by
  unfold giveStatus
  split
  · exact .refl s
  · split
    · exact writeRecord_frame ..
    · split
      · exact joinOwed_frame ..
      · exact setGap_frame ..

theorem giveStatusTo_frame (st : Option StationNo) (r : Record) (s : State) : DeliveryStep s (giveStatusTo st r s) := by
  unfold giveStatusTo
  split
  · exact .refl s
  · exact giveStatus_frame ..

theorem giveProgress_frame (st : StationNo) (r : Record) (s : State) : DeliveryStep s (giveProgress st r s) := by
  unfold giveProgress
  split
  · exact .refl s
  · split
    · exact writeRecord_frame ..
    · exact setGap_frame ..

theorem offer?_frame {st : StationNo} {r : Record} {s t : State} (h : offer? st r s = some t) : DeliveryStep s t := by
  unfold offer? at h
  split at h
  · cases h; exact writeRecord_frame ..
  · cases h

theorem flushOwed_frame (st : StationNo) (l : List Owed) (s : State) : DeliveryStep s (flushOwed st l s).1 := by
  induction l generalizing s with
  | nil => exact .refl s
  | cons o rest ih =>
    unfold flushOwed
    split
    · exact .trans ⟨_, _, _, rfl⟩ (ih _)
    · exact .refl s

/-! ### The pool and the print scheduler -/

theorem updStation_print (s : State) (st : StationNo) (f : Station → Station) : PrintStep s (updStation s st f) :=
  ⟨_, _, _, _, _, _, _, _, _, rfl⟩

theorem updJob_print (s : State) (j : JobNo) (f : Job → Job) : PrintStep s (updJob s j f) :=
  ⟨_, _, _, _, _, _, _, _, _, rfl⟩

theorem updPrinter_print (s : State) (p : PortNo) (f : Printer → Printer) : PrintStep s (updPrinter s p f) :=
  ⟨_, _, _, _, _, _, _, _, _, rfl⟩

theorem updPort_print (s : State) (p : PortNo) (f : Port → Port) : PrintStep s (updPort s p f) :=
  ⟨_, _, _, _, _, _, _, _, _, rfl⟩

theorem freeBlock_print (s : State) (b : BlockNo) : PrintStep s (freeBlock s b) := by
  unfold freeBlock
  split
  · exact .refl s
  · exact ⟨_, _, _, _, _, _, _, _, _, rfl⟩

theorem freeBlocks_print (bs : List BlockNo) (s : State) : PrintStep s (freeBlocks bs s) :=
  foldl_rel .refl .trans _ freeBlock_print bs s

theorem commitBlocks_print (j : JobNo) (bs : List BlockNo) (s : State) : PrintStep s (commitBlocks j bs s) :=
  foldl_rel .refl .trans _ (fun _ _ => ⟨_, _, _, _, _, _, _, _, _, rfl⟩) bs s

theorem hand_print (p : PortNo) (f : OutFrame) (s : State) : PrintStep s (hand p f s) := by
  unfold hand
  split
  · exact updPort_print ..
  · exact .refl s

theorem hand_scan (p : PortNo) (f : OutFrame) (s : State) : ScanStep s (hand p f s) := by
  unfold hand
  split
  · exact ⟨_, _, _, _, _, rfl⟩
  · exact .refl s

theorem withdraw_print (p : PortNo) (serial : Half) (page : Nat) (s : State) : PrintStep s (withdraw p serial page s) :=
  updPort_print ..

theorem sendData_print (p : PortNo) (s : State) : PrintStep s (sendData p s) := by
  unfold sendData
  dsimp only
  split
  · split
    · exact (updPrinter_print ..).trans (hand_print ..)
    · exact .refl s
  · exact .refl s

theorem sendDataTimes_print (p : PortNo) (n : Nat) (s : State) : PrintStep s (sendDataTimes p n s) := by
  induction n generalizing s with
  | zero => exact .refl s
  | succ n ih => exact (sendData_print p s).trans (ih _)

theorem closePage_print (p : PortNo) (s : State) : PrintStep s (closePage p s) := by
  unfold closePage
  dsimp only
  split
  · split
    · exact .refl s
    · exact (updPrinter_print ..).trans (hand_print ..)
  · exact .refl s

theorem feedPage_print (p : PortNo) (s : State) : PrintStep s (feedPage p s) :=
  (sendDataTimes_print ..).trans (closePage_print ..)

theorem openPage_print (p : PortNo) (s : State) : PrintStep s (openPage p s) := by
  unfold openPage
  split
  · exact .refl s
  · exact (updPrinter_print ..).trans ((hand_print ..).trans (feedPage_print ..))

theorem makeCurrent_print (p : PortNo) (j : JobNo) (s : State) : PrintStep s (makeCurrent p j s) :=
  (updPrinter_print ..).trans (updJob_print ..)

theorem choose_print (p : PortNo) (s : State) : PrintStep s (choose p s) := by
  unfold choose
  split
  · exact (makeCurrent_print ..).trans ((updPrinter_print ..).trans (openPage_print ..))
  · exact (makeCurrent_print ..).trans (updPrinter_print ..)
  · exact updPrinter_print ..
  · exact updPrinter_print ..

theorem leaveHeld_print (p : PortNo) (s : State) : PrintStep s (leaveHeld p s) :=
  (updPrinter_print ..).trans (choose_print ..)

theorem dropHoldings_print (o : Option StationNo) (n : Nat) (s : State) : PrintStep s (dropHoldings o n s) := by
  unfold dropHoldings
  split
  · exact .refl s
  · exact updStation_print ..

theorem endJob_print (reason : EndReason) (s : State) (j : JobNo) : PrintStep s (endJob reason s j) := by
  unfold endJob
  dsimp only
  exact (updPrinter_print ..).trans ((updJob_print ..).trans ((freeBlocks_print ..).trans ((dropHoldings_print ..).trans
    ((giveStatusTo_frame ..).print.trans (updJob_print ..)))))

theorem loseDevice_print (p : PortNo) (s : State) : PrintStep s (loseDevice p s) :=
  (foldl_rel .refl .trans _ (endJob_print .deviceLost) _ s).trans (updPrinter_print ..)

theorem suspendJob_print (p : PortNo) (j : JobNo) (s : State) : PrintStep s (suspendJob p j s) :=
  (updPrinter_print ..).trans (updJob_print ..)

theorem boundary_print (p : PortNo) (j : JobNo) (s : State) : PrintStep s (boundary p j s) := by
  unfold boundary
  dsimp only
  have h : PrintStep s (updPrinter s p fun r => { r with suspendPending := false }) := updPrinter_print ..
  split
  · exact h.trans ((endJob_print ..).trans (choose_print ..))
  · split
    · exact h.trans ((endJob_print ..).trans (choose_print ..))
    · split
      · exact h.trans ((suspendJob_print ..).trans (choose_print ..))
      · split
        · exact h.trans (openPage_print ..)
        · exact h

theorem reportProgress_print (j : JobNo) (s : State) : PrintStep s (reportProgress j s) := by
  unfold reportProgress
  dsimp only
  split
  · split
    · exact (giveProgress_frame ..).print
    · exact .refl s
  · exact .refl s

theorem confirmPage_print (p : PortNo) (j : JobNo) (s : State) : PrintStep s (confirmPage p j s) :=
  (updPrinter_print ..).trans ((updJob_print ..).trans ((reportProgress_print ..).trans (boundary_print ..)))

theorem pageDone_print (p : PortNo) (n : Nat) (s : State) : PrintStep s (pageDone p n s) := by
  unfold pageDone
  dsimp only
  split
  · split
    · exact confirmPage_print ..
    · exact .refl s
  · exact .refl s

theorem credit_print (p : PortNo) (n : Nat) (s : State) : PrintStep s (credit p n s) := by
  unfold credit
  dsimp only
  split
  · exact (updPrinter_print ..).trans (feedPage_print ..)
  · exact .refl s

theorem reportFault_print (r : Record) (o : Option StationNo) (s : State) : PrintStep s (reportFault r o s) := by
  unfold reportFault
  split
  · split
    · exact (giveStatus_frame ..).print
    · exact (giveStatus_frame ..).print.trans (giveStatus_frame ..).print
  · exact (giveStatus_frame ..).print

theorem hardFault_print (p : PortNo) (j : JobNo) (cause : Cause) (s : State) : PrintStep s (hardFault p j cause s) := by
  unfold hardFault
  dsimp only
  have h := (withdraw_print p s.jobs[j].serial (s.jobs[j].pagesDone + 1) s).trans
    ((updPrinter_print _ p fun r => { dropPage r with state := .held, hold := some cause }).trans
      (reportFault_print (.printerFault p j s.jobs[j].serial (s.jobs[j].pagesDone + 1) cause) s.jobs[j].owner _))
  split
  · exact h.trans ((endJob_print ..).trans (leaveHeld_print ..))
  · exact h

theorem transientFault_print (p : PortNo) (j : JobNo) (pg : PageInFlight) (s : State) :
    PrintStep s (transientFault p j pg s) := by
  unfold transientFault
  dsimp only
  split
  · exact (updJob_print ..).trans (hardFault_print ..)
  · exact (updJob_print ..).trans ((withdraw_print ..).trans (updPrinter_print ..))

theorem pageFault_print (p : PortNo) (n : Nat) (cause : Cause) (s : State) : PrintStep s (pageFault p n cause s) := by
  unfold pageFault
  dsimp only
  split
  · split
    · split
      · split
        · exact .refl s
        · exact transientFault_print ..
      · exact hardFault_print ..
    · exact .refl s
  · exact .refl s

theorem ready_print (p : PortNo) (s : State) : PrintStep s (ready p s) := by
  unfold ready
  dsimp only
  split
  · split
    · exact openPage_print ..
    · exact .refl s
  · exact .refl s

theorem paper_print (p : PortNo) (low : Bool) (s : State) : PrintStep s (paper p low s) := by
  unfold paper
  dsimp only
  split
  · exact (updPrinter_print ..).trans (giveStatus_frame ..).print
  · exact .refl s

theorem pageTimerExpiry_print (p : PortNo) (s : State) : PrintStep s (pageTimerExpiry p s) := by
  unfold pageTimerExpiry
  dsimp only
  split
  · split
    · exact (hand_print ..).trans (hardFault_print ..)
    · exact .refl s
  · exact .refl s

theorem reconnectTimerExpiry_print (p : PortNo) (s : State) : PrintStep s (reconnectTimerExpiry p s) := by
  unfold reconnectTimerExpiry
  split
  · exact loseDevice_print ..
  · exact .refl s

theorem markPending_print (reason : EndReason) (j : JobNo) (s : State) : PrintStep s (markPending reason j s) :=
  updJob_print ..

theorem endAtOnce_print (reason : EndReason) (p : PortNo) (j : JobNo) (s : State) :
    PrintStep s (endAtOnce reason p j s) := by
  unfold endAtOnce
  dsimp only
  split
  · exact (endJob_print ..).trans (leaveHeld_print ..)
  · exact (endJob_print ..).trans (choose_print ..)
  all_goals exact endJob_print ..

theorem clearTransients_print (p : PortNo) (s : State) : PrintStep s (clearTransients p s) := by
  unfold clearTransients
  split
  · exact updJob_print ..
  · exact .refl s

theorem resumePage_print (p : PortNo) (s : State) : PrintStep s (resumePage p s) := by
  unfold resumePage
  split
  · exact (updPrinter_print ..).trans (openPage_print ..)
  · exact updPrinter_print ..

theorem acceptClear_print (p : PortNo) (s : State) : PrintStep s (acceptClear p s) :=
  (updPrinter_print ..).trans ((clearTransients_print ..).trans (resumePage_print ..))

theorem enqueue_print (p : PortNo) (j : JobNo) (s : State) : PrintStep s (enqueue p j s) := updPrinter_print ..

theorem afterJoin_print (p : PortNo) (j : JobNo) (s : State) : PrintStep s (afterJoin p j s) := by
  unfold afterJoin
  split
  · exact choose_print ..
  · split
    · exact updPrinter_print ..
    · exact .refl s

theorem losePrinter_print (p : PortNo) (s : State) : PrintStep s (losePrinter p s) := by
  unfold losePrinter
  dsimp only
  split
  · split
    · exact (updPrinter_print ..).trans (endJob_print ..)
    · exact updPrinter_print ..
  · exact updPrinter_print ..

theorem wakePrinter_print (s : State) (p : PortNo) : PrintStep s (wakePrinter s p) := by
  unfold wakePrinter
  dsimp only
  split
  · split
    · split
      · exact updPrinter_print ..
      · exact (updPrinter_print ..).trans (openPage_print ..)
    · exact choose_print ..
  · exact .refl s

/-! ### The scan router -/

theorem updScanner_scan (s : State) (p : PortNo) (f : Scanner → Scanner) : ScanStep s (updScanner s p f) :=
  ⟨_, _, _, _, _, rfl⟩

theorem grant_scan (p : PortNo) (w : Wait) (s : State) : ScanStep s (grant p w s) := updScanner_scan ..

theorem passOn_scan (p : PortNo) (s : State) : ScanStep s (passOn p s) := by
  unfold passOn
  split
  · exact updScanner_scan ..
  · exact (updScanner_scan ..).trans ((grant_scan ..).trans (giveStatus_frame ..).scan)

theorem dropClaim_scan (p : PortNo) (c : Claim) (why : ClaimEnd) (s : State) : ScanStep s (dropClaim p c why s) := by
  unfold dropClaim
  dsimp only
  split
  · exact (updScanner_scan ..).trans (giveStatus_frame ..).scan
  · exact updScanner_scan ..

theorem endClaim_scan (p : PortNo) (c : Claim) (why : ClaimEnd) (s : State) : ScanStep s (endClaim p c why s) :=
  (dropClaim_scan ..).trans (passOn_scan ..)

theorem dropWaits_scan (p : PortNo) (why : ClaimEnd) (s : State) : ScanStep s (dropWaits p why s) :=
  (updScanner_scan ..).trans
    (foldl_rel (R := ScanStep) ScanStep.refl ScanStep.trans _ (fun _ _ => (giveStatus_frame ..).scan) _ _)

theorem tearDown_scan (p : PortNo) (why : ClaimEnd) (s : State) : ScanStep s (tearDown p why s) := by
  unfold tearDown
  split
  · exact (dropClaim_scan ..).trans (dropWaits_scan ..)
  · exact dropWaits_scan ..

theorem leaveQueue_scan (p : PortNo) (st : StationNo) (s : State) : ScanStep s (leaveQueue p st s) := updScanner_scan ..

theorem withdrawPermit_scan (st : StationNo) (s : State) (p : PortNo) : ScanStep s (withdrawPermit st s p) := by
  unfold withdrawPermit
  split
  · split
    · exact endClaim_scan ..
    · split
      · exact (leaveQueue_scan ..).trans (giveStatus_frame ..).scan
      · exact .refl s
  · exact .refl s

theorem retireScanner_scan (st : StationNo) (s : State) (p : PortNo) : ScanStep s (retireScanner st s p) := by
  unfold retireScanner
  split
  · split
    · exact endClaim_scan ..
    · exact leaveQueue_scan ..
  · exact .refl s

theorem countScan_scan (p : PortNo) (c : Claim) (s : State) : ScanStep s (countScan p c s) := by
  unfold countScan
  dsimp only
  split
  · exact endClaim_scan ..
  · exact updScanner_scan ..

theorem scanHeld_scan (p : PortNo) (c : Claim) (y : Byte) (code : List Byte) (s : State) :
    ScanStep s (scanHeld p c y code s) := by
  unfold scanHeld
  split
  · exact (offer?_frame ‹_›).scan.trans ((hand_scan ..).trans ((updScanner_scan ..).trans (countScan_scan ..)))
  · exact (hand_scan ..).trans (setGap_frame ..).scan

theorem scanFree_scan (p : PortNo) (y : Byte) (code : List Byte) (s : State) : ScanStep s (scanFree p y code s) := by
  unfold scanFree
  split
  · split
    · exact (offer?_frame ‹_›).scan.trans ((hand_scan ..).trans (updScanner_scan ..))
    · exact (hand_scan ..).trans (setGap_frame ..).scan
  · exact hand_scan ..

theorem takeScan_scan (p : PortNo) (y : Byte) (code : List Byte) (s : State) : ScanStep s (takeScan p y code s) := by
  unfold takeScan
  split
  · exact hand_scan ..
  · split
    · exact scanHeld_scan ..
    · exact scanFree_scan ..
    · exact hand_scan ..
    · exact .refl s

theorem scan_scan (p : PortNo) (payload : List Byte) (s : State) : ScanStep s (scan p payload s) := by
  unfold scan
  split
  · exact .refl s
  · split
    · exact .refl s
    · exact takeScan_scan ..

theorem idleTimerExpiry_scan (p : PortNo) (s : State) : ScanStep s (idleTimerExpiry p s) := by
  unfold idleTimerExpiry
  split
  · split
    · exact endClaim_scan ..
    · exact .refl s
  · exact .refl s

theorem loseScanner_scan (p : PortNo) (s : State) : ScanStep s (loseScanner p s) :=
  (tearDown_scan ..).trans (updScanner_scan ..)

/-! ### The touch router -/

theorem setContact_touch (s : State) (n : ContactNo) (c : Option Contact) : TouchStep s (setContact s n c) :=
  ⟨_, _, _, _, _, rfl⟩

theorem endContact_touch (n : ContactNo) (c : Contact) (b : Bound) (e : ContactEnd) (s : State) :
    TouchStep s (endContact n c b e s) := by
  unfold endContact
  split
  · exact (offer?_frame ‹_›).touch.trans (setContact_touch ..)
  · exact setContact_touch ..

theorem settle_touch (n : ContactNo) (s : State) : TouchStep s (settle n s) := by
  unfold settle
  split
  · split
    · exact endContact_touch ..
    · exact .refl s
    · exact setContact_touch ..
    · exact setContact_touch ..
  · exact .refl s

theorem makeContact_touch (p : PortNo) (id : ContactId) (cond : Contact.Condition) (s : State) :
    TouchStep s (makeContact p id cond s).1 := by
  unfold makeContact
  split
  · exact setContact_touch ..
  · exact .refl s

theorem bindContact_touch (p : PortNo) (id : ContactId) (z : ZoneNo) (zn : Zone) (x y : Nat) (s : State) :
    TouchStep s (bindContact p id z zn x y s).1 := by
  unfold bindContact
  split
  · exact .refl s
  · dsimp only
    split
    · exact (offer?_frame ‹_›).touch.trans (setContact_touch ..)
    · exact (setContact_touch ..).trans (setGap_frame ..).touch

theorem downRunning_touch (p : PortNo) (id : ContactId) (x y : Nat) (s : State) :
    TouchStep s (downRunning p id x y s).1 := by
  unfold downRunning
  split
  · exact makeContact_touch ..
  · split
    · exact bindContact_touch ..
    · exact makeContact_touch ..

theorem downQuiet_touch (p : PortNo) (id : ContactId) (x y : Nat) (s : State) :
    TouchStep s (downQuiet p id x y s).1 := by
  unfold downQuiet
  split
  · exact makeContact_touch ..
  · dsimp only
    split
    · exact .trans ⟨_, _, _, _, _, rfl⟩ (makeContact_touch ..)
    · exact makeContact_touch ..

theorem downEntry_touch (p : PortNo) (id : ContactId) (x y : Nat) (s : State) :
    TouchStep s (downEntry p id x y s).1 := by
  unfold downEntry
  have down (t : State) : TouchStep t
      (match s.touchMode with | .running => downRunning p id x y t | .quiet => downQuiet p id x y t).1 := by
    split
    · exact downRunning_touch ..
    · exact downQuiet_touch ..
  cases byKey? s p id with
  | none => exact down s
  | some n => exact (settle_touch n s).trans (down _)

theorem moveLive_touch (n : ContactNo) (c : Contact) (b : Bound) (x y : Nat) (s : State) :
    TouchStep s (moveLive n c b x y s) := by
  unfold moveLive
  dsimp only
  split
  · split
    · exact (offer?_frame ‹_›).touch.trans (setContact_touch ..)
    · exact setContact_touch ..
  · exact setContact_touch ..

theorem moveEntry_touch (p : PortNo) (id : ContactId) (x y : Nat) (s : State) :
    TouchStep s (moveEntry p id x y s).1 := by
  unfold moveEntry
  split
  · split
    · split
      · exact moveLive_touch ..
      all_goals exact .refl s
    · exact .refl s
  · exact .refl s

theorem endEntry_touch (p : PortNo) (id : ContactId) (at? : Option (Nat × Nat)) (s : State) :
    TouchStep s (endEntry p id at? s).1 := by
  unfold endEntry
  split
  · split
    · exact endContact_touch ..
    · exact settle_touch ..
  · exact .refl s

theorem touchEntry_touch (p : PortNo) (limit : Nat) (e : TouchEntry) (s : State) :
    TouchStep s (touchEntry p limit e s).1 := by
  unfold touchEntry
  split
  · split
    · exact .refl s
    · split
      · exact downEntry_touch ..
      · exact moveEntry_touch ..
      · exact endEntry_touch ..
      · exact endEntry_touch ..
      · exact .refl s
  · exact .refl s

theorem touchAll_touch (p : PortNo) (limit : Nat) (l : List TouchEntry) (acc : State × Bool) :
    TouchStep acc.1 (touchAll p limit l acc).1 := by
  induction l generalizing acc with
  | nil => exact .refl _
  | cons e rest ih => exact (touchEntry_touch p limit e acc.1).trans (ih _)

theorem touch_touch (p : PortNo) (payload : List Byte) (s : State) : TouchStep s (touch p payload s).state := by
  unfold touch
  split
  · split
    · exact .refl s
    · exact touchAll_touch p _ _ (s, false)
  · exact .refl s

theorem flushEnd_touch {st : StationNo} {n : ContactNo} {s t : State} (h : flushEnd st n s = some t) : TouchStep s t := by
  unfold flushEnd at h
  split at h
  · split at h
    · dsimp only at h
      split at h
      · split at h
        · exact Option.some.inj h ▸ (writeRecord_frame ..).touch.trans (setContact_touch ..)
        · exact absurd h (by simp)
      · exact Option.some.inj h ▸ .refl s
    all_goals exact Option.some.inj h ▸ .refl s
  · exact Option.some.inj h ▸ .refl s

theorem flushMove_touch {st : StationNo} {n : ContactNo} {s t : State} (h : flushMove st n s = some t) :
    TouchStep s t := by
  unfold flushMove at h
  split at h
  · split at h
    · dsimp only at h
      split at h
      · split at h
        · exact Option.some.inj h ▸ (writeRecord_frame ..).touch.trans (setContact_touch ..)
        · exact absurd h (by simp)
      · exact Option.some.inj h ▸ .refl s
    all_goals exact Option.some.inj h ▸ .refl s
  · exact Option.some.inj h ▸ .refl s

theorem flushAll_touch {item : ContactNo → State → Option State}
    (hi : ∀ {n s t}, item n s = some t → TouchStep s t) (l : List ContactNo) (s : State) :
    TouchStep s (flushAll item l s).1 := by
  induction l generalizing s with
  | nil => exact .refl s
  | cons n rest ih =>
    unfold flushAll
    split
    · exact (hi ‹_›).trans (ih _)
    · exact .refl s

theorem flush_touch (st : StationNo) (s : State) : TouchStep s (flush st s) := by
  unfold flush
  dsimp only
  have h := (flushOwed_frame st s.delivery[st].owed s).touch
  split
  · have k := flushAll_touch (item := flushEnd st) flushEnd_touch (List.finRange 32) (flushOwed st s.delivery[st].owed s).1
    split
    · exact h.trans (k.trans (flushAll_touch (item := flushMove st) flushMove_touch ..))
    · exact h.trans k
  · exact h

theorem takenMarkWrite_touch (st : StationNo) (v : Nat) (s : State) : TouchStep s (takenMarkWrite st v s) := by
  unfold takenMarkWrite
  split
  · exact .trans ⟨_, _, _, _, _, rfl⟩ (flush_touch ..)
  · exact .refl s

theorem settleAll_touch (test : Contact → Bool) (s : State) : TouchStep s (settleAll test s) := by
  refine foldl_rel .refl .trans _ (fun t n => ?_) _ s
  split
  · split
    · exact settle_touch ..
    · exact .refl t
  · exact .refl t

theorem freeContacts_touch (st : StationNo) (s : State) : TouchStep s (freeContacts st s) := ⟨_, _, _, _, _, rfl⟩

end Sys2Proof.Machine
end

