-- ==== Sys2Proof/Laws/Memory.lean ====
section
/-! SUPPORT. The laws of memory: a read after a write, every operation keeps the canonical form, and equal reads in that
form are equal lists. -/

namespace Sys2Proof.Machine

/-! ### Reads after writes -/

@[simp] theorem readMem_nil (a : Nat) : readMem [] a = 0 := rfl

theorem readMem_cons (b : Nat) (v : Byte) (m : Memory) (a : Nat) :
    readMem ((b, v) :: m) a = if b = a then v else readMem m a := rfl

/-- Every address listed lies above `a`. -/
def MemAbove (a : Nat) (m : Memory) : Prop := ∀ c ∈ m, a < c.1

/-- A canonical list: its head is not 00H, the rest lies above it and is canonical. -/
theorem memoryWf_cons (b : Nat) (v : Byte) (m : Memory) :
    memoryWf ((b, v) :: m) = true ↔ v ≠ unlistedByte ∧ MemAbove b m ∧ memoryWf m = true := by
  induction m generalizing b v with
  | nil => simp [memoryWf, MemAbove]
  | cons c rest ih =>
    obtain ⟨d, w⟩ := c
    rw [memoryWf]
    constructor
    · intro h
      simp only [Bool.and_eq_true, bne_iff_ne, decide_eq_true_eq] at h
      refine ⟨h.1.1, ?_, h.2⟩
      intro c hc
      rcases List.mem_cons.1 hc with rfl | hc
      · exact h.1.2
      · exact lt_trans h.1.2 (((ih d w).1 h.2).2.1 c hc)
    · rintro ⟨h1, h2, h3⟩
      simp only [Bool.and_eq_true, bne_iff_ne, decide_eq_true_eq]
      exact ⟨⟨h1, h2 (d, w) (by simp)⟩, h3⟩

theorem readMem_above {a : Nat} {m : Memory} (h : MemAbove a m) : readMem m a = 0 := by
  induction m with
  | nil => rfl
  | cons c rest ih =>
    obtain ⟨b, v⟩ := c
    have hb : a < b := h (b, v) (by simp)
    rw [readMem_cons, if_neg (by omega)]
    exact ih fun c hc => h c (by simp [hc])

theorem readMem_consCell (a : Nat) (v : Byte) (m : Memory) (h : MemAbove a m) (b : Nat) :
    readMem (consCell a v m) b = if b = a then v else readMem m b := by
  unfold consCell
  by_cases hv : v = unlistedByte
  · rw [if_pos hv]
    by_cases hb : b = a
    · subst hb; rw [if_pos rfl, readMem_above h, hv]; rfl
    · rw [if_neg hb]
  · rw [if_neg hv, readMem_cons]
    by_cases hb : b = a
    · subst hb; simp
    · rw [if_neg (Ne.symm hb), if_neg hb]

theorem writeMem_above {x a : Nat} {m : Memory} (h : MemAbove x m) (hx : x < a) (v : Byte) :
    MemAbove x (writeMem m a v) := by
  induction m with
  | nil =>
    intro c hc
    simp only [writeMem, consCell] at hc
    split at hc
    · simp at hc
    · simp at hc; subst hc; exact hx
  | cons d rest ih =>
    obtain ⟨b, w⟩ := d
    have hb : x < b := h (b, w) (by simp)
    have hr : MemAbove x rest := fun c hc => h c (by simp [hc])
    intro c hc
    rw [writeMem] at hc
    split at hc
    · rcases List.mem_cons.1 hc with rfl | hc
      · exact hb
      · exact ih hr c hc
    · split at hc <;> (unfold consCell at hc; split at hc)
      · exact hr c hc
      · rcases List.mem_cons.1 hc with rfl | hc
        · exact hx
        · exact hr c hc
      · exact h c hc
      · rcases List.mem_cons.1 hc with rfl | hc
        · exact hx
        · exact h c hc

/-- A read after a write: the byte written at its address, what stood there elsewhere. -/
theorem readMem_writeMem {m : Memory} (hm : memoryWf m = true) (a b : Nat) (v : Byte) :
    readMem (writeMem m a v) b = if b = a then v else readMem m b := by
  induction m with
  | nil => exact readMem_consCell a v [] (by intro c hc; simp at hc) b
  | cons c rest ih =>
    obtain ⟨d, w⟩ := c
    obtain ⟨_, hd, hr⟩ := (memoryWf_cons d w rest).1 hm
    rw [writeMem]
    split
    · rename_i hda
      rw [readMem_cons, readMem_cons, ih hr]
      by_cases hb : b = a
      · subst hb; simp [Nat.ne_of_lt hda]
      · simp [hb]
    · split
      · rename_i hda
        subst hda
        rw [readMem_consCell d v rest hd, readMem_cons]
        by_cases hb : b = d
        · simp [hb]
        · simp [hb, Ne.symm hb]
      · refine readMem_consCell a v _ ?_ b
        intro c hc
        rcases List.mem_cons.1 hc with rfl | hc
        · simp only; omega
        · have := hd c hc; omega

/-! ### The canonical form is kept -/

theorem consCell_wf {a : Nat} {v : Byte} {m : Memory} (h : MemAbove a m) (hm : memoryWf m = true) :
    memoryWf (consCell a v m) = true := by
  unfold consCell
  split
  · exact hm
  · exact (memoryWf_cons a v m).2 ⟨‹_›, h, hm⟩

/-- A write keeps the canonical form. -/
theorem writeMem_wf {m : Memory} (hm : memoryWf m = true) (a : Nat) (v : Byte) : memoryWf (writeMem m a v) = true := by
  induction m with
  | nil => exact consCell_wf (by intro c hc; simp at hc) rfl
  | cons c rest ih =>
    obtain ⟨d, w⟩ := c
    obtain ⟨hw, hd, hr⟩ := (memoryWf_cons d w rest).1 hm
    rw [writeMem]
    split
    · exact (memoryWf_cons _ _ _).2 ⟨hw, writeMem_above hd ‹_› v, ih hr⟩
    · split
      · rename_i hda; subst hda; exact consCell_wf hd hr
      · refine consCell_wf ?_ hm
        intro c hc
        rcases List.mem_cons.1 hc with rfl | hc
        · simp only; omega
        · have := hd c hc; omega

/-- A write of consecutive bytes keeps the canonical form. -/
theorem writeBytes_wf {m : Memory} (hm : memoryWf m = true) (a : Nat) (bs : List Byte) :
    memoryWf (writeBytes m a bs) = true := by
  induction bs generalizing m a with
  | nil => exact hm
  | cons v vs ih => exact ih (writeMem_wf hm a v) (a + 1)

theorem filter_above {a : Nat} {m : Memory} (h : MemAbove a m) (f : Host.Cell → Bool) : MemAbove a (m.filter f) :=
  fun c hc => h c (List.mem_filter.1 hc).1

theorem filter_wf {m : Memory} (hm : memoryWf m = true) (f : Host.Cell → Bool) : memoryWf (m.filter f) = true := by
  induction m with
  | nil => rfl
  | cons c rest ih =>
    obtain ⟨d, w⟩ := c
    obtain ⟨hw, hd, hr⟩ := (memoryWf_cons d w rest).1 hm
    rw [List.filter_cons]
    split
    · exact (memoryWf_cons _ _ _).2 ⟨hw, filter_above hd f, ih hr⟩
    · exact ih hr

/-- Clearing a range keeps the canonical form. -/
theorem clearMem_wf {m : Memory} (hm : memoryWf m = true) (a n : Nat) : memoryWf (clearMem m a n) = true :=
  filter_wf hm _

/-- Memory after a full reset has the canonical form. -/
theorem reset_memoryWf : memoryWf State.reset.mem = true := rfl

/-! ### Reads after longer writes -/

/-- A read after a write of consecutive bytes: the byte written inside them, what stood there elsewhere. -/
theorem readMem_writeBytes {m : Memory} (hm : memoryWf m = true) (a : Nat) (bs : List Byte) (b : Nat) :
    readMem (writeBytes m a bs) b = if a ≤ b ∧ b < a + bs.length then bs.getD (b - a) 0 else readMem m b := by
  induction bs generalizing m a with
  | nil => simp only [writeBytes, List.length_nil, Nat.add_zero]; rw [if_neg (by omega)]
  | cons v vs ih =>
    rw [writeBytes, ih (writeMem_wf hm a v), readMem_writeMem hm]
    by_cases h0 : b = a
    · subst h0; simp
    · by_cases h1 : a + 1 ≤ b ∧ b < a + 1 + vs.length
      · rw [if_pos h1, if_pos (by simp only [List.length_cons]; omega)]
        obtain ⟨k, rfl⟩ : ∃ k, b = a + 1 + k := ⟨b - (a + 1), by omega⟩
        rw [show a + 1 + k - (a + 1) = k by omega, show a + 1 + k - a = k + 1 by omega]
        simp
      · rw [if_neg h1, if_neg h0, if_neg (by simp only [List.length_cons]; omega)]

/-- A read outside the bytes written. -/
theorem readMem_writeBytes_of_not {m : Memory} (hm : memoryWf m = true) {a : Nat} {bs : List Byte} {b : Nat}
    (h : ¬ (a ≤ b ∧ b < a + bs.length)) : readMem (writeBytes m a bs) b = readMem m b := by
  rw [readMem_writeBytes hm, if_neg h]

theorem readMem_filter {m : Memory} (hm : memoryWf m = true) (f : Nat → Bool) (b : Nat) :
    readMem (m.filter fun c => f c.1) b = if f b then readMem m b else 0 := by
  induction m with
  | nil => simp
  | cons c rest ih =>
    obtain ⟨d, w⟩ := c
    obtain ⟨_, hd, hr⟩ := (memoryWf_cons d w rest).1 hm
    rw [List.filter_cons]
    by_cases hdb : d = b
    · subst hdb
      by_cases hf : f d = true
      · simp [hf, readMem_cons]
      · simp only [Bool.not_eq_true] at hf
        simp only [hf, Bool.false_eq_true, if_false]
        rw [ih hr, hf]; simp
    · split
      · rw [readMem_cons, readMem_cons, if_neg hdb, if_neg hdb, ih hr]
      · rw [readMem_cons, if_neg hdb, ih hr]

/-- A read after clearing a range: 00H inside it, what stood there elsewhere. -/
theorem readMem_clearMem {m : Memory} (hm : memoryWf m = true) (a n b : Nat) :
    readMem (clearMem m a n) b = if a ≤ b ∧ b < a + n then 0 else readMem m b := by
  unfold clearMem
  rw [readMem_filter hm (fun x => !(decide (a ≤ x) && decide (x < a + n))) b]
  by_cases h : a ≤ b ∧ b < a + n
  · rw [if_pos h]; simp [h.1, h.2]
  · rw [if_neg h]
    have : (!(decide (a ≤ b) && decide (b < a + n))) = true := by
      simp only [Bool.not_eq_true', Bool.and_eq_false_iff, decide_eq_false_iff_not]; omega
    simp [this]

theorem readBytes_length (m : Memory) (a n : Nat) : (readBytes m a n).length = n := by
  induction n generalizing a with
  | zero => rfl
  | succ n ih => simp [readBytes, ih]

/-- Canonical memories that read the same everywhere are equal. -/
theorem memory_ext {m n : Memory} (hm : memoryWf m = true) (hn : memoryWf n = true)
    (h : ∀ a, readMem m a = readMem n a) : m = n := by
  induction m generalizing n with
  | nil =>
    cases n with
    | nil => rfl
    | cons c rest =>
      obtain ⟨d, w⟩ := c
      have := h d
      rw [readMem_cons, if_pos rfl] at this
      exact absurd this.symm ((memoryWf_cons d w rest).1 hn).1
  | cons c rest ih =>
    obtain ⟨d, w⟩ := c
    obtain ⟨hw, hd, hr⟩ := (memoryWf_cons d w rest).1 hm
    cases n with
    | nil =>
      have := h d
      rw [readMem_cons, if_pos rfl] at this
      exact absurd this hw
    | cons e rest' =>
      obtain ⟨b, x⟩ := e
      obtain ⟨hx, hb, hr'⟩ := (memoryWf_cons b x rest').1 hn
      have hdb : d = b := by
        rcases lt_trichotomy d b with hlt | heq | hgt
        · have := h d
          rw [readMem_cons, if_pos rfl, readMem_cons, if_neg (by omega),
            readMem_above fun c hc => lt_trans hlt (hb c hc)] at this
          exact absurd this hw
        · exact heq
        · have := h b
          rw [readMem_cons, if_neg (by omega), readMem_cons, if_pos rfl,
            readMem_above fun c hc => lt_trans hgt (hd c hc)] at this
          exact absurd this.symm hx
      subst hdb
      have hwx : w = x := by have := h d; rwa [readMem_cons, if_pos rfl, readMem_cons, if_pos rfl] at this
      subst hwx
      have : rest = rest' := by
        refine ih hr hr' fun a => ?_
        by_cases ha : d = a
        · subst ha; rw [readMem_above hd, readMem_above hb]
        · have := h a; rwa [readMem_cons, if_neg ha, readMem_cons, if_neg ha] at this
      rw [this]

/-! ### Reads outside a write, in any list -/

/-- Whatever form the list has, a write changes no other address. -/
theorem readMem_writeMem_other (m : Memory) {a b : Nat} (h : b ≠ a) (v : Byte) : readMem (writeMem m a v) b = readMem m b := by
  have hc : ∀ rest : Memory, readMem (consCell a v rest) b = readMem rest b := by
    intro rest
    unfold consCell
    split
    · rfl
    · simp [readMem, h.symm]
  induction m with
  | nil => simpa [writeMem] using hc []
  | cons x rest ih =>
    obtain ⟨c, w⟩ := x
    unfold writeMem
    split
    · simp only [readMem, ih]
    · split
      · rename_i e
        subst e
        rw [hc]
        simp [readMem, h.symm]
      · rw [hc]

/-- Whatever form the list has, writing bytes changes nothing outside them. -/
theorem readMem_writeBytes_other (m : Memory) (a : Nat) (bs : List Byte) {b : Nat} (h : b < a ∨ a + bs.length ≤ b) :
    readMem (writeBytes m a bs) b = readMem m b := by
  induction bs generalizing m a with
  | nil => rfl
  | cons v vs ih =>
    simp only [List.length_cons] at h
    rw [writeBytes, ih _ _ (by omega), readMem_writeMem_other _ (by omega)]

end Sys2Proof.Machine
end

