-- ==== Sys2Proof/Laws/Requests.lean ====
section
/-! SUPPORT. Requests: what serving a card comes to, what an answer leaves, and the first failing check. -/

namespace Sys2Proof.Machine

open Sys2Proof.Safety

/-! ### Serving -/

/-- A request of kind k is served by its owning block and answered in one event. -/
theorem serve_serving {k : RequestKind} {c : CardNo} {s : State} (h : Serving k c s) (f : CardNo → State → Served) :
    serve k f s =
      .next (publish (f c s).marks s (answerServed c (f c s).answer (f c s).args (f c s).state)) := by
  unfold serve
  rw [h.1]
  simp only [h.2, if_true]

/-- Without a card of its kind being served a request row changes nothing. -/
theorem serve_other {k : RequestKind} {s : State} (h : ∀ c, ¬ Serving k c s) (f : CardNo → State → Served) :
    serve k f s = .next s := by
  unfold serve
  split
  · rfl
  · rename_i c hc
    rw [if_neg fun hk => h c ⟨hc, hk⟩]

/-! ### Checks -/

@[simp] theorem firstFailing_nil : firstFailing [] = none := rfl

@[simp] theorem firstFailing_pass (a : Answer) (l : List (Bool × Answer)) :
    firstFailing ((true, a) :: l) = firstFailing l := rfl

@[simp] theorem firstFailing_fail (a : Answer) (l : List (Bool × Answer)) :
    firstFailing ((false, a) :: l) = some a := rfl

/-- No check fails exactly when every check passes. -/
theorem firstFailing_none_iff (l : List (Bool × Answer)) : firstFailing l = none ↔ ∀ x ∈ l, x.1 = true := by
  induction l with
  | nil => simp
  | cons x l ih =>
    obtain ⟨b, a⟩ := x
    cases b <;> simp [ih]

theorem checked_pass {s : State} {l : List (Bool × Answer)} (h : firstFailing l = none) (a : Served) :
    checked s l a = a := by
  unfold checked; rw [h]

theorem checked_fail {s : State} {l : List (Bool × Answer)} {x : Answer} (h : firstFailing l = some x) (a : Served) :
    checked s l a = refuse s x := by
  unfold checked; rw [h]

/-! ### Answers -/

theorem answerBytes_eq (a : Answer) : answerBytes a =
    [outcomeCode a.outcome, byteOf a.detail, loByte (halfOfNat a.value), hiByte (halfOfNat a.value)] := rfl

theorem halfOf_lo_hi (h : Half) : halfOf (loByte h) (hiByte h) = h := by
  unfold halfOf loByte hiByte
  ext i hi
  simp only [BitVec.getElem_or, BitVec.getElem_setWidth, BitVec.getElem_shiftLeft, BitVec.getLsbD_setWidth,
    BitVec.getLsbD_ushiftRight]
  rcases Nat.lt_or_ge i 8 with h8 | h8
  · simp [h8, BitVec.getLsbD_eq_getElem hi]
  · have h1 : i - 8 < 16 := by omega
    have h2 : i - 8 < 8 := by omega
    have h3 : ¬ i < 8 := by omega
    simp [h3, h2, show 8 + (i - 8) = i by omega, BitVec.getLsbD_eq_getElem hi]

theorem getLsbD_stationBit (st : StationNo) : (stationBit st).getLsbD st.val = true := by
  revert st; decide

theorem raiseNotice_bit (s : State) (st : StationNo) : (raiseNotice s st).notice.getLsbD st.val = true := by
  simp [getLsbD_stationBit]

/-- A byte of a card after its answer: an answer byte, an overwritten argument byte, or what stood there. -/
theorem readMem_answerCard {s : State} (hm : memoryWf s.mem = true) (c : CardNo) (a : Answer) (args : List Byte) (b : Nat) :
    readMem (answerCard c a args s).mem b =
      if cardAddress c + 4 ≤ b ∧ b < cardAddress c + 8 then (answerBytes a).getD (b - (cardAddress c + 4)) 0
      else if cardAddress c + 8 ≤ b ∧ b < cardAddress c + 8 + args.length then args.getD (b - (cardAddress c + 8)) 0
      else readMem s.mem b := by
  show readMem (writeBytes (writeBytes s.mem (cardAddress c + 8) args) (cardAddress c + 4) (answerBytes a)) b = _
  rw [readMem_writeBytes (writeBytes_wf hm _ _), readMem_writeBytes hm]
  rfl

theorem answerServed_mem (c : CardNo) (a : Answer) (args : List Byte) (s : State) :
    (answerServed c a args s).mem = (answerCard c a args s).mem := rfl

/-- What every answer leaves (R163). -/
theorem answerServed_stands {s : State} (hm : memoryWf s.mem = true) (c : CardNo) (a : Answer) (args : List Byte) :
    AnswerStands c a (answerServed c a args s) := by
  have hb := readMem_answerCard hm c a args
  refine ⟨rfl, ?_, ?_, ?_, ?_, ?_⟩
  · show (put s.cards c CardState.answered)[c] = _
    simp
  · show readMem (answerCard c a args s).mem (cardAddress c + 4) = _
    rw [hb, if_pos (by omega)]; simp [answerBytes_eq]
  · show readMem (answerCard c a args s).mem (cardAddress c + 5) = _
    rw [hb, if_pos (by omega)]; simp [answerBytes_eq]
  · show halfOf (readMem (answerCard c a args s).mem (cardAddress c + 6))
      (readMem (answerCard c a args s).mem (cardAddress c + 6 + 1)) = _
    rw [hb, hb, if_pos (by omega), if_pos (by omega)]
    simp [answerBytes_eq, show cardAddress c + 6 - (cardAddress c + 4) = 2 by omega,
      show cardAddress c + 6 + 1 - (cardAddress c + 4) = 3 by omega, halfOf_lo_hi]
  · exact raiseNotice_bit _ _

/-- What a request that changes nothing but its card leaves (R163). -/
theorem answerServed_only {s : State} (hm : memoryWf s.mem = true) (c : CardNo) (a : Answer) :
    OnlyAnswered c a s (answerServed c a [] s) := by
  refine ⟨answerServed_stands hm c a [], fun b hb => ?_, rfl⟩
  rw [answerServed_mem, readMem_answerCard hm, if_neg (show ¬ (cardAddress c + 4 ≤ b ∧ b < cardAddress c + 8) from hb),
    if_neg (by simp only [List.length_nil]; omega)]

/-- A state that differs from another in nothing the mirrors show is published unchanged. -/
theorem ofFn_get {α : Type} {n : Nat} (v : Vector α n) : (Vector.ofFn fun i : Fin n => v[i.val]) = v := by
  ext i hi; simp

theorem publish_same {s t : State} (hp : ∀ p, portItems s p = portItems t p)
    (hj : ∀ j : JobNo, jobItems s.jobs[j] = jobItems t.jobs[j]) (hs : ∀ st, stationItems s st = stationItems t st)
    (hb : poolItems s = poolItems t) : publish [] s t = t := by
  have e1 : (publish [] s t).portCount = t.portCount := by
    show (Vector.ofFn fun p : PortNo => _) = _
    simp [hp]
  have e2 : (publish [] s t).jobCount = t.jobCount := by
    show (Vector.ofFn fun j : JobNo => _) = _
    simp only [hj, ne_eq, not_true_eq_false, if_false]
    exact ofFn_get _
  have e3 : (publish [] s t).stationCount = t.stationCount := by
    show (Vector.ofFn fun st : StationNo => _) = _
    simp [hs]
  have e4 : (publish [] s t).poolCount = t.poolCount := by
    show (if poolItems s ≠ poolItems t then _ else _) = _
    simp [hb]
  calc publish [] s t = { t with portCount := (publish [] s t).portCount, jobCount := (publish [] s t).jobCount,
                                 stationCount := (publish [] s t).stationCount, poolCount := (publish [] s t).poolCount } := rfl
    _ = t := by rw [e1, e2, e3, e4]

/-- An event that changes nothing publishes nothing. -/
@[simp] theorem publish_self (s : State) : publish [] s s = s :=
  publish_same (fun _ => rfl) (fun _ => rfl) (fun _ => rfl) rfl

/-- A refused request: the card is answered and nothing else changes. -/
theorem serve_refused {k : RequestKind} {c : CardNo} {s : State} (h : Serving k c s) {f : CardNo → State → Served}
    {a : Answer} (hf : f c s = refuse s a) : serve k f s = .next (answerServed c a [] s) := by
  rw [serve_serving h, hf]
  exact congrArg Host.Outcome.next (publish_same (s := s) (t := answerServed c a [] s) (fun _ => rfl) (fun _ => rfl) (fun _ => rfl) rfl)

end Sys2Proof.Machine
end

