-- ==== Sys2Proof/Laws/Commands.lean ====
section
/-! SUPPORT. What the link's operations, the served requests and the notices may change: one frame lemma for each. -/

namespace Sys2Proof.Machine

open Sys2Proof.Safety

/-! ### The port controllers -/

theorem updPort_link (s : State) (p : PortNo) (f : Port → Port) : LinkStep s (updPort s p f) :=
  (updPort_print s p f).link

theorem portChange_link (p : PortNo) (previous : LinkState) (cause : LinkCause) (s : State) :
    LinkStep s (portChange p previous cause s) := (giveStatus_frame ..).link

theorem notify_link (kind : DeviceKind) (p : PortNo) (n : PortNotice) (s : State) : LinkStep s (notify kind p n s) := by
  unfold notify
  cases kind <;> exact ⟨_, _, _, _, _, _, _, _, _, _, _, _, _, _, _, rfl⟩

theorem notifyLoss_link (p : PortNo) (d : Option DevProfile) (s : State) : LinkStep s (notifyLoss p d s) := by
  unfold notifyLoss
  split
  · exact notify_link ..
  · exact .refl s

theorem notifyArrival_link (p : PortNo) (d : DevProfile) (s : State) : LinkStep s (notifyArrival p d s) := by
  unfold notifyArrival
  dsimp only
  split
  · exact (notify_link ..).trans (notify_link ..)
  · exact notify_link ..

theorem lossOf_link (p : PortNo) (was : Port) (s : State) : LinkStep s (lossOf p was s) := by
  unfold lossOf
  split
  · exact notifyLoss_link ..
  · exact .refl s

theorem silenceTimerExpiry_link (p : PortNo) (s : State) : LinkStep s (silenceTimerExpiry p s) := by
  unfold silenceTimerExpiry
  dsimp only
  split
  · exact (updPort_link ..).trans ((portChange_link ..).trans (lossOf_link ..))
  · exact .refl s

theorem quarantine_link (p : PortNo) (s : State) : LinkStep s (quarantine p s) :=
  (updPort_link ..).trans ((portChange_link ..).trans (lossOf_link ..))

theorem babbledFrame_link (p : PortNo) (s : State) : LinkStep s (babbledFrame p s) := by
  unfold babbledFrame
  dsimp only
  split
  · split
    · exact (updPort_link ..).trans (quarantine_link ..)
    · exact (updPort_link ..).trans (updPort_link ..)
  · exact .refl s

theorem failIntro_link (p : PortNo) (d : DevProfile) (s : State) : LinkStep s (failIntro p d s) :=
  (updPort_link ..).trans (portChange_link ..)

theorem finishIntro_link (p : PortNo) (d : DevProfile) (common : BitVec 4) (s : State) :
    LinkStep s (finishIntro p d common s) :=
  (updPort_link ..).trans ((portChange_link ..).trans (notifyArrival_link ..))

theorem completeIntro_link (p : PortNo) (s : State) : LinkStep s (completeIntro p s) := by
  unfold completeIntro
  split
  · split
    · split
      · dsimp only
        split
        · exact failIntro_link ..
        · exact finishIntro_link ..
      · exact .refl s
    · exact .refl s
  · exact .refl s

theorem introProfile_link (p : PortNo) (payload : List Byte) (s : State) : LinkStep s (introProfile p payload s) :=
  (updPort_link ..).trans (completeIntro_link ..)

theorem profileWhileUp_link (p : PortNo) (payload : List Byte) (s : State) : LinkStep s (profileWhileUp p payload s) :=
  (updPort_link ..).trans ((portChange_link ..).trans (lossOf_link ..))

theorem profileFrame_link (p : PortNo) (payload : List Byte) (s : State) : LinkStep s (profileFrame p payload s) := by
  unfold profileFrame
  split
  · split
    · exact introProfile_link ..
    · exact profileWhileUp_link ..
    all_goals exact .refl s
  · exact .refl s

theorem profileSeenFrame_link (p : PortNo) (s : State) : LinkStep s (profileSeenFrame p s) := by
  unfold profileSeenFrame
  split
  · exact (updPort_link ..).trans (completeIntro_link ..)
  · exact .refl s

theorem attemptTimerExpiry_link (p : PortNo) (s : State) : LinkStep s (attemptTimerExpiry p s) := by
  unfold attemptTimerExpiry
  split
  · split
    · exact updPort_link ..
    · exact .refl s
  · exact .refl s

theorem profileResend_link (p : PortNo) (s : State) : LinkStep s (profileResend p s) := by
  unfold profileResend
  split
  · split
    · exact updPort_link ..
    · exact .refl s
  · exact .refl s

theorem profileSeenResend_link (p : PortNo) (s : State) : LinkStep s (profileSeenResend p s) := by
  unfold profileSeenResend
  split
  · split
    · exact updPort_link ..
    · exact .refl s
  · exact .refl s

theorem printerFrame_link (p : PortNo) (kind : Byte) (payload : List Byte) (s : State) :
    LinkStep s (printerFrame p kind payload s) := by
  unfold printerFrame
  repeat' split
  all_goals first
    | exact .refl s
    | exact (ready_print ..).link
    | exact (pageDone_print ..).link
    | exact (credit_print ..).link
    | exact (paper_print ..).link
    | exact (pageFault_print ..).link

theorem scanFrame_link (p : PortNo) (payload : List Byte) (s : State) : LinkStep s (scanFrame p payload s) := by
  unfold scanFrame
  split
  · exact (scan_scan ..).link
  · exact .refl s

theorem touchFrame_link (p : PortNo) (payload : List Byte) (s : State) : LinkStep s (touchFrame p payload s).state := by
  unfold touchFrame
  split
  · exact (touch_touch ..).link
  · exact .refl s

theorem takeFrame_link (p : PortNo) (kind : Byte) (payload : List Byte) (s : State) :
    LinkStep s (takeFrame p kind payload s).state := by
  unfold takeFrame
  split
  · exact profileFrame_link ..
  · split
    · exact profileSeenFrame_link ..
    · split
      · exact scanFrame_link ..
      · split
        · exact touchFrame_link ..
        · exact printerFrame_link ..

theorem restartSilence_link (p : PortNo) (s : State) : LinkStep s (restartSilence p s) := by
  unfold restartSilence
  split
  · exact updPort_link ..
  · exact .refl s

theorem setRx_link (p : PortNo) (rx : Option (List (BitVec 4))) (s : State) : LinkStep s (setRx p rx s) := updPort_link ..

theorem frameReceived_link (p : PortNo) (kind : Byte) (payload : List Byte) (s : State) :
    LinkStep s (frameReceived p kind payload s).state := by
  unfold frameReceived
  split
  · exact (restartSilence_link ..).trans ((setRx_link ..).trans (takeFrame_link ..))
  · exact .refl s

theorem assemble_link (p : PortNo) (g : GroupKind) (s : State) : LinkStep s (assemble p g s).state := by
  unfold assemble
  split
  · exact setRx_link p (some []) s
  · show LinkStep s (dataGroupIn p _ _ s)
    unfold dataGroupIn
    dsimp only
    split
    · exact babbledFrame_link ..
    · exact setRx_link ..
  · unfold endFrame
    dsimp only
    split
    · exact (setRx_link p none s).trans (takeFrame_link ..)
    · exact setRx_link p none s
  · exact setRx_link p none s
  · exact setRx_link p none s
  all_goals exact .refl s

theorem groupReceived_link (p : PortNo) (g : Group) (s : State) : LinkStep s (groupReceived p g s).state := by
  unfold groupReceived
  have up (t : State) (h : LinkStep s t) : LinkStep s (assemble p (groupKind g) t).state := h.trans (assemble_link ..)
  split
  · split
    · exact up _ (updPort_link ..)
    · exact .refl s
  · refine up _ ?_
    split
    · exact restartSilence_link ..
    · exact .refl s
  · refine up _ ?_
    split
    · exact restartSilence_link ..
    · exact .refl s
  · exact .refl s
  · exact .refl s

/-! ### Served requests -/

/-- A served request leaves the state's other fields as they were. -/
abbrev ServedStep (s : State) (r : Served) : Prop := RequestStep s r.state

theorem refuse_step (s : State) (a : Answer) : ServedStep s (refuse s a) := RequestStep.refl s

theorem checked_step {s : State} {l : List (Bool × Answer)} {r : Served} (h : ServedStep s r) :
    ServedStep s (checked s l r) := by
  unfold checked
  split
  · exact refuse_step ..
  · exact h

theorem updStation_request (s : State) (st : StationNo) (f : Station → Station) : RequestStep s (updStation s st f) :=
  (updStation_print s st f).request

theorem serveReserve_step (c : CardNo) (s : State) : ServedStep s (serveReserve c s) := by
  refine checked_step ?_
  have h : RequestStep s
      ((s.free.take (cardNum s c 8)).foldl (reserveBlock (cardStation c)) { s with free := s.free.drop (cardNum s c 8) }) :=
    RequestStep.trans
      ⟨_, _, _, _, _, _, _, _, _, _, _, _, _, _, _, _, _, _, _, _, _, _, _, _, _, _, _, _, rfl⟩
      (foldl_rel .refl .trans _ (fun _ _ =>
        ⟨_, _, _, _, _, _, _, _, _, _, _, _, _, _, _, _, _, _, _, _, _, _, _, _, _, _, _, _, rfl⟩) _ _)
  dsimp only [ServedStep, acceptReserve]
  exact h.trans (updStation_request ..)

theorem serveUnreserve_step (c : CardNo) (s : State) : ServedStep s (serveUnreserve c s) := by
  refine checked_step ?_
  dsimp only [ServedStep, acceptUnreserve]
  exact ((freeBlocks_print ..).trans (updStation_print ..)).request

theorem serveSubmit_step (c : CardNo) (s : State) : ServedStep s (serveSubmit c s) := by
  refine checked_step ?_
  split
  · refine RequestStep.trans (t := { s with acceptance := s.acceptance + 1 })
      ⟨_, _, _, _, _, _, _, _, _, _, _, _, _, _, _, _, _, _, _, _, _, _, _, _, _, _, _, _, rfl⟩ ?_
    exact ((updJob_print ..).trans ((commitBlocks_print ..).trans
      ((enqueue_print ..).trans (afterJoin_print ..)))).request
  · exact refuse_step ..

theorem serveCancel_step (c : CardNo) (s : State) : ServedStep s (serveCancel c s) := by
  refine checked_step ?_
  split
  · unfold acceptCancel
    dsimp only
    split
    · split
      · show RequestStep s (if _ then s else _)
        split
        · exact .refl s
        · exact (markPending_print ..).request
      · exact (endAtOnce_print ..).request
    · exact (endJob_print ..).request
  · exact refuse_step ..

theorem serveClear_step (c : CardNo) (s : State) : ServedStep s (serveClear c s) := by
  refine checked_step ?_
  split
  · exact (acceptClear_print ..).request
  · exact refuse_step ..

theorem serveSetPrinter_step (c : CardNo) (s : State) : ServedStep s (serveSetPrinter c s) := by
  unfold serveSetPrinter
  split
  · unfold acceptSetPrinter
    show RequestStep s (if _ then _ else _)
    split
    · exact ⟨_, _, _, _, _, _, _, _, _, _, _, _, _, _, _, _, _, _, _, _, _, _, _, _, _, _, _, _, rfl⟩
    · exact ⟨_, _, _, _, _, _, _, _, _, _, _, _, _, _, _, _, _, _, _, _, _, _, _, _, _, _, _, _, rfl⟩
  · exact refuse_step ..

theorem serveClaim_step (c : CardNo) (s : State) : ServedStep s (serveClaim c s) := by
  refine checked_step ?_
  split
  · unfold acceptClaim
    split
    · exact (grant_scan ..).request
    · split
      · split
        · dsimp only [ServedStep]; exact (updScanner_scan ..).request
        · exact refuse_step ..
      · exact refuse_step ..
    · exact refuse_step ..
  · exact refuse_step ..

theorem serveRelease_step (c : CardNo) (s : State) : ServedStep s (serveRelease c s) := by
  unfold serveRelease
  split
  · unfold releaseAt
    split
    · split
      · exact (endClaim_scan ..).request
      · split
        · exact (leaveQueue_scan ..).request
        · exact refuse_step ..
    · exact refuse_step ..
  · exact refuse_step ..

theorem serveSetScanner_step (c : CardNo) (s : State) : ServedStep s (serveSetScanner c s) := by
  unfold serveSetScanner
  split
  · exact refuse_step ..
  · dsimp only
    split
    · exact ⟨_, _, _, _, _, _, _, _, _, _, _, _, _, _, _, _, _, _, _, _, _, _, _, _, _, _, _, _, rfl⟩
    · exact refuse_step ..

theorem serveSetZone_step (c : CardNo) (s : State) : ServedStep s (serveSetZone c s) := by
  refine checked_step ?_
  split
  · exact ⟨_, _, _, _, _, _, _, _, _, _, _, _, _, _, _, _, _, _, _, _, _, _, _, _, _, _, _, _, rfl⟩
  · exact refuse_step ..

theorem serveClearZone_step (c : CardNo) (s : State) : ServedStep s (serveClearZone c s) := by
  unfold serveClearZone
  split
  · exact refuse_step ..
  · split
    · exact ⟨_, _, _, _, _, _, _, _, _, _, _, _, _, _, _, _, _, _, _, _, _, _, _, _, _, _, _, _, rfl⟩
    · exact refuse_step ..

theorem serveSetPort_step (c : CardNo) (s : State) : ServedStep s (serveSetPort c s) := by
  unfold serveSetPort
  dsimp only
  split
  · exact refuse_step ..
  · split
    · exact refuse_step ..
    · dsimp only [ServedStep]; exact (updPort_print ..).request

theorem serveAckPort_step (c : CardNo) (s : State) : ServedStep s (serveAckPort c s) := by
  unfold serveAckPort
  split
  · exact refuse_step ..
  · dsimp only [ServedStep]; exact (updPort_print ..).request

theorem useOpen_request (s : State) : RequestStep s (useOpen s) :=
  ⟨_, _, _, _, _, _, _, _, _, _, _, _, _, _, _, _, _, _, _, _, _, _, _, _, _, _, _, _, rfl⟩

theorem refuseOpen_step (s : State) (o : Outcome) : ServedStep s (refuseOpen s o) := useOpen_request s

theorem serveSetPermits_step (c : CardNo) (s : State) : ServedStep s (serveSetPermits c s) := by
  unfold serveSetPermits
  split
  · exact ((updStation_request ..).trans
      (foldl_rel (R := RequestStep) .refl .trans _ (fun t p => (withdrawPermit_scan _ t p).request) _ _)).trans
      (useOpen_request _)
  · exact refuseOpen_step ..

theorem serveSetQuota_step (c : CardNo) (s : State) : ServedStep s (serveSetQuota c s) := by
  unfold serveSetQuota
  split
  · dsimp only [ServedStep]; exact (updStation_request ..).trans (useOpen_request _)
  · exact refuseOpen_step ..

theorem answerCard_request (c : CardNo) (a : Answer) (args : List Byte) (s : State) :
    RequestStep s (answerCard c a args s) :=
  ⟨_, _, _, _, _, _, _, _, _, _, _, _, _, _, _, _, _, _, _, _, _, _, _, _, _, _, _, _, rfl⟩

theorem answerServed_request (c : CardNo) (a : Answer) (args : List Byte) (s : State) :
    RequestStep s (answerServed c a args s) :=
  ⟨_, _, _, _, _, _, _, _, _, _, _, _, _, _, _, _, _, _, _, _, _, _, _, _, _, _, _, _, rfl⟩

theorem retireCards_request (st : StationNo) (s : State) : RequestStep s (retireCards st s) :=
  RequestStep.trans (t := { s with posting := s.posting.filter fun c => cardStation c ≠ st })
    ⟨_, _, _, _, _, _, _, _, _, _, _, _, _, _, _, _, _, _, _, _, _, _, _, _, _, _, _, _, rfl⟩
    (foldl_rel (R := RequestStep) .refl .trans _ (fun _ _ => answerCard_request ..) _ _)

theorem retireCurrent_print (s : State) (j : JobNo) : PrintStep s (retireCurrent s j) := by
  unfold retireCurrent
  dsimp only
  split
  · exact (markPending_print ..).trans (updJob_print ..)
  · exact (markPending_print ..).trans ((updJob_print ..).trans (endAtOnce_print ..))

theorem retireBlocks_print (st : StationNo) (s : State) : PrintStep s (retireBlocks st s) := freeBlocks_print ..

theorem retireIdleJobs_print (st : StationNo) (s : State) : PrintStep s (retireIdleJobs st s) :=
  foldl_rel (R := PrintStep) .refl .trans _ (endJob_print .retired) _ s

theorem retireCurrents_print (st : StationNo) (s : State) : PrintStep s (retireCurrents st s) :=
  foldl_rel (R := PrintStep) .refl .trans _ retireCurrent_print _ s

theorem retireClaims_scan (st : StationNo) (s : State) : ScanStep s (retireClaims st s) :=
  foldl_rel (R := ScanStep) .refl .trans _ (retireScanner_scan st) _ s

theorem freezeRing_frame (st : StationNo) (s : State) : DeliveryStep s (freezeRing st s) := ⟨_, _, _, rfl⟩

theorem retire_request (st : StationNo) (s : State) : RequestStep s (retire st s) := by
  have h0 := updStation_request s st fun r => { r with service := .outOfService }
  have h1 := h0.trans (retireCards_request st _)
  have h2 := h1.trans (retireBlocks_print st _).request
  have h3 := h2.trans (retireIdleJobs_print st _).request
  have h4 := h3.trans (retireCurrents_print st _).request
  have h5 := h4.trans (updStation_request _ st fun r => { r with holdings := 0 })
  have h6 := h5.trans (retireClaims_scan st _).request
  have h7 := h6.trans (freeContacts_touch st _).request
  exact h7.trans (freezeRing_frame st _).request

theorem serveSetService_step (c : CardNo) (s : State) : ServedStep s (serveSetService c s) := by
  unfold serveSetService
  split
  · unfold checked
    split
    · exact useOpen_request s
    · unfold acceptSetService
      split
      · exact (retire_request ..).trans (useOpen_request _)
      · exact ((updStation_request ..).trans
          ⟨_, _, _, _, _, _, _, _, _, _, _, _, _, _, _, _, _, _, _, _, _, _, _, _, _, _, _, _, rfl⟩).trans (useOpen_request _)
  · exact refuseOpen_step ..

theorem enterQuietPart_request (s : State) : RequestStep s (enterQuietPart s) :=
  RequestStep.trans (t := { s with part := .quiet })
    ⟨_, _, _, _, _, _, _, _, _, _, _, _, _, _, _, _, _, _, _, _, _, _, _, _, _, _, _, _, rfl⟩
    ((giveStatus_frame ..).request.trans
      ⟨_, _, _, _, _, _, _, _, _, _, _, _, _, _, _, _, _, _, _, _, _, _, _, _, _, _, _, _, rfl⟩)

theorem wakePart_request (cause : WakeCause) (s : State) : RequestStep s (wakePart cause s) :=
  RequestStep.trans (t := { s with part := .running, wake := cause })
    ⟨_, _, _, _, _, _, _, _, _, _, _, _, _, _, _, _, _, _, _, _, _, _, _, _, _, _, _, _, rfl⟩
    ((giveStatus_frame ..).request.trans
      ⟨_, _, _, _, _, _, _, _, _, _, _, _, _, _, _, _, _, _, _, _, _, _, _, _, _, _, _, _, rfl⟩)

theorem serveQuiet_step (c : CardNo) (s : State) : ServedStep s (serveQuiet c s) := by
  unfold serveQuiet
  split
  · exact enterQuietPart_request s
  · exact refuse_step ..

theorem serveWake_step (c : CardNo) (s : State) : ServedStep s (serveWake c s) := by
  unfold serveWake
  split
  · exact wakePart_request .request s
  · exact refuse_step ..

/-- A request row leaves every field that no request changes, but the change counts. -/
theorem serve_frame {k : RequestKind} {f : CardNo → State → Served} (hf : ∀ c s, ServedStep s (f c s)) {s t : State}
    (h : serve k f s = .next t) : ∃ u ps, RequestStep s u ∧ (t = publish ps s u ∨ t = u) := by
  unfold serve at h
  split at h
  · exact ⟨s, [], .refl s, .inr (Host.Outcome.next.inj h).symm⟩
  · rename_i c _
    split at h
    · exact ⟨_, _, (hf c s).trans (answerServed_request ..), .inl (Host.Outcome.next.inj h).symm⟩
    · exact ⟨s, [], .refl s, .inr (Host.Outcome.next.inj h).symm⟩

end Sys2Proof.Machine
end

