-- ==== Sys2Proof/Laws/Words.lean ====
section
/-! SUPPORT. The words of the statements said of the operations they describe: a table of checks, the page walk, the opening
of a page, a printer's choice, contacts ended without a lift, and the flush. -/

namespace Sys2Proof.Machine

open Sys2Proof.Safety
open Config

/-! ### Tables of checks -/

/-- A request whose table of checks says what the statement's table says answers by the first check that fails. -/
theorem checked_firstFailureAnswers {i : Instr} {k : RequestKind} {f : CardNo → State → Served} {c : CardNo} {s : State}
    (hm : MemoryOk s) (hs : Serving k c s) (hi : exec i s = serve k f s) {tests : List (Bool × Answer)} {accept : Served}
    (hf : f c s = checked s tests accept) {table : List (Prop × (Answer → Prop))}
    (h : List.Forall₂ (fun x y => (x.1 = true ↔ y.1) ∧ (x.1 = false → y.2 x.2)) tests table) :
    FirstFailureAnswers i c s table := by
  suffices key : (∀ a, firstFailing tests = some a → f c s = refuse s a) → FirstFailureAnswers i c s table from
    key fun a ha => by rw [hf, checked_fail ha]
  clear hf
  induction h with
  | nil => intro _; trivial
  | @cons x y tests table hxy _ ih =>
    obtain ⟨b, a⟩ := x
    intro hf
    cases b with
    | true => exact ⟨fun hn => absurd (hxy.1.mp rfl) hn, fun _ => ih fun a ha => hf a ha⟩
    | false =>
      refine ⟨fun _ => ⟨a, answerServed c a [] s, hxy.2 rfl, ?_, answerServed_only hm c a⟩,
        fun hy => absurd (hxy.1.mpr hy) Bool.false_ne_true⟩
      rw [hi]
      exact serve_refused hs (hf a rfl)

/-! ### Block lists -/

/-- An entry is no block RESERVED by the station exactly when no block of that number is (R39). -/
theorem ownReserved?_eq_none_iff (s : State) (st : StationNo) (e : Nat) :
    ownReserved? s st e = none ↔ ∀ b : BlockNo, b.val = e → s.blocks[b] ≠ .reserved st := by
  unfold ownReserved? index?
  by_cases h : e < 96
  · rw [dif_pos h]
    constructor
    · rintro hn b rfl hb
      dsimp only at hn
      rw [if_pos hb] at hn
      cases hn
    · intro hn
      dsimp only
      rw [if_neg (hn ⟨e, h⟩ rfl)]
  · rw [dif_neg h]
    exact ⟨fun _ b hb => absurd (hb ▸ b.isLt) h, fun _ => rfl⟩

/-- The walk over a block list from a place on stops at the first entry that fails (R23, R39). -/
theorem firstBadEntry_from (s : State) (st : StationNo) (entries rest seen : List Nat) (i : Nat)
    (hr : rest = entries.drop i) (hs : ∀ e, e ∈ seen ↔ e ∈ entries.take i) (hp : ∀ k < i, ¬ BadEntry s st entries k) :
    match firstBadEntry s st i seen rest with
    | none => ∀ k, ¬ BadEntry s st entries k
    | some j => BadEntry s st entries j ∧ ∀ k < j, ¬ BadEntry s st entries k := by
  induction rest generalizing i seen with
  | nil =>
    rintro k ⟨e, he, hb⟩
    have hk : k < entries.length := (List.getElem?_eq_some_iff.mp he).1
    have hi : entries.length ≤ i := List.drop_eq_nil_iff.mp hr.symm
    exact hp k (by omega) ⟨e, he, hb⟩
  | cons e rest ih =>
    have he : entries[i]? = some e := by
      have := congrArg (fun l => l[0]?) hr
      simpa using this.symm
    have hbad : BadEntry s st entries i ↔ ((ownReserved? s st e).isNone || seen.contains e) = true := by
      unfold BadEntry
      rw [he, Bool.or_eq_true, Option.isNone_iff_eq_none, ownReserved?_eq_none_iff, List.contains_iff_mem, hs]
      exact ⟨fun ⟨x, hx, h⟩ => Option.some.inj hx ▸ h, fun h => ⟨e, rfl, h⟩⟩
    unfold firstBadEntry
    by_cases hb : ((ownReserved? s st e).isNone || seen.contains e) = true
    · rw [if_pos hb]
      exact ⟨hbad.mpr hb, hp⟩
    · rw [if_neg hb]
      refine ih (e :: seen) (i + 1) ?_ ?_ ?_
      · rw [← List.tail_drop, ← hr]; rfl
      · intro x
        rw [List.take_add_one, he]
        simp [hs, or_comm]
      · intro k hk
        rcases Nat.lt_succ_iff_lt_or_eq.mp hk with h | rfl
        · exact hp k h
        · exact fun h => hb (hbad.mp h)

/-- A block list passes when no entry fails, and else names its first bad entry (R23, R39). -/
theorem firstBadEntry_first (s : State) (st : StationNo) (entries : List Nat) :
    match firstBadEntry s st 0 [] entries with
    | none => ∀ k, ¬ BadEntry s st entries k
    | some j => BadEntry s st entries j ∧ ∀ k < j, ¬ BadEntry s st entries k :=
  firstBadEntry_from s st entries entries [] 0 rfl (by simp) (by simp)

/-! ### The page walk -/

/-- The page walk of SUBMIT from page i on fails with a detail exactly when the walk fails with it, the pages before i having
passed (R39). -/
theorem pageWalk_from (m : Memory) (bs : List BlockNo) (total pages d n i : Nat) (hi : i + n = pages)
    (hp : ∀ k < i, PagePasses m bs total k) :
    pageWalk m bs total pages n i (pageStart m bs i) = some d ↔ WalkFails m bs total pages d := by
  induction n generalizing i with
  | zero =>
    obtain rfl : i = pages := by omega
    unfold pageWalk
    constructor
    · intro h
      split at h
      · cases h
      · cases h; exact .inr ⟨hp, ‹_›, rfl⟩
    · rintro (⟨k, hk, _, hn, _⟩ | ⟨_, hne, rfl⟩)
      · exact absurd (hp k hk) hn
      · rw [if_neg hne]
  | succ n ih =>
    have hfirst : ∀ {k}, (∀ x < k, PagePasses m bs total x) → ¬ PagePasses m bs total k →
        ¬ PagePasses m bs total i → k = i := by
      intro k hk hnk hni
      rcases Nat.lt_trichotomy k i with h | h | h
      · exact absurd (hp k h) hnk
      · exact h
      · exact absurd (hk i h) hni
    have hwalk : ¬ PagePasses m bs total i → (WalkFails m bs total pages d ↔
        (HeaderFits m bs total i ∧ BadPage m bs i → d = i) ∧
        (¬ (HeaderFits m bs total i ∧ BadPage m bs i) → d = pages)) := by
      intro hni
      constructor
      · rintro (⟨k, _, hk, hnk, hd⟩ | ⟨hall, _⟩)
        · obtain rfl := hfirst hk hnk hni; exact hd
        · exact absurd (hall i (by omega)) hni
      · intro hd
        exact .inl ⟨i, by omega, hp, hni, hd⟩
    unfold pageWalk
    split
    · rename_i hlt
      have hh : ¬ HeaderFits m bs total i := fun hh => by unfold HeaderFits at hh; omega
      rw [hwalk fun hpass => hh hpass.1]
      simp [hh, eq_comm]
    · rename_i hlt
      have hh : HeaderFits m bs total i := by unfold HeaderFits; omega
      dsimp only
      split
      · rename_i hbad
        have hb : BadPage m bs i := hbad
        rw [hwalk fun hpass => hpass.2.1 hb]
        simp [hh, hb, eq_comm]
      · rename_i hbad
        have hb : ¬ BadPage m bs i := hbad
        split
        · rename_i hover
          rw [hwalk fun hpass => absurd hpass.2.2 (by unfold pageStart; omega)]
          simp [hb, eq_comm]
        · rename_i hover
          refine ih (i + 1) (by omega) fun k hk => ?_
          rcases Nat.lt_succ_iff_lt_or_eq.mp hk with h | rfl
          · exact hp k h
          · exact ⟨hh, hb, by unfold pageStart; omega⟩

/-- The page walk of SUBMIT answers a FORMAT detail exactly when the walk fails with it (R39). -/
theorem pageWalk_eq_some_iff (m : Memory) (bs : List BlockNo) (total pages d : Nat) :
    pageWalk m bs total pages pages 0 0 = some d ↔ WalkFails m bs total pages d :=
  pageWalk_from m bs total pages d pages 0 (by omega) (by simp)

/-! ### A printer's choice -/

/-- The candidate of R63 is the one the statements name. -/
theorem candidate?_eq_nextJob? (s : State) (r : Printer) : candidate? s r = nextJob? s r := by
  unfold candidate? urgentHead? nextJob?
  cases hq : r.queue with
  | nil => cases r.suspended <;> rfl
  | cons j rest =>
    have : rank JobClass.long = 2 := rfl
    cases r.suspended with
    | none => simp only [List.head?_cons, this]; split <;> rfl
    | some k => simp only [List.head?_cons, this]; split <;> rfl

/-! ### Contacts ended without a lift -/

/-- A contact record replaced after a record is written: writing changes no contact (R169). -/
theorem setContact_writeRecord (st : StationNo) (r : Record) (x : Half) (s : State) (n : ContactNo) (c : Option Contact) :
    setContact (writeRecord st r x s) n c = { writeRecord st r x s with contacts := put s.contacts n c } := by
  have h : (writeRecord st r x s).contacts = s.contacts := by
    obtain ⟨_, _, _, h⟩ := writeRecord_frame st r x s
    rw [h]
  unfold setContact
  rw [h]

/-- A contact that ends with CANCEL: the record is written and the contact freed, or held and the contact closing (R113). -/
theorem endContact_cancel (n : ContactNo) (p : PortNo) (id : ContactId) (b : Bound) (s : State) (m : Option Spot) :
    endContact n { port := p, id := id, cond := .live b m } b .cancel s =
      if canWrite s b.station (.touch .cancel p id n b.zone b.last.pos) = true then
        setContact (writeRecord b.station (.touch .cancel p id n b.zone b.last.pos) (stampNow s) s) n none
      else setContact s n (some { port := p, id := id, cond := .closing b .cancel }) := by
  have hr : endRecord n { port := p, id := id, cond := .live b m } b .cancel =
    .touch .cancel p id n b.zone b.last.pos := rfl
  unfold endContact offer?
  rw [hr]
  by_cases h : canWrite s b.station (.touch .cancel p id n b.zone b.last.pos) = true
  · rw [if_pos h, if_pos h]
  · rw [if_neg h, if_neg h]

/-- Settling a contact record is ending it without a lift (R113, R114, R119). -/
theorem settle_eq_cancelled (n : ContactNo) (s : State) : settle n s = cancelled s n := by
  unfold settle cancelled
  generalize s.contacts[n] = held
  match held with
  | none => rfl
  | some ⟨p, id, .closing b e⟩ => rfl
  | some ⟨p, id, .suppressed z st⟩ => rfl
  | some ⟨p, id, .ignored place⟩ => rfl
  | some ⟨p, id, .live b m⟩ =>
    dsimp only
    rw [endContact_cancel, setContact_writeRecord]
    rfl

/-- Ending a contact leaves every other contact record as it was. -/
theorem cancelled_contacts_ne (s : State) (n m : ContactNo) (h : n ≠ m) : (cancelled s n).contacts[m] = s.contacts[m] := by
  unfold cancelled
  generalize s.contacts[n] = held
  match held with
  | none => rfl
  | some ⟨p, id, .closing b e⟩ => rfl
  | some ⟨p, id, .suppressed z st⟩ => exact put_get_ne _ _ _ _ h
  | some ⟨p, id, .ignored place⟩ => exact put_get_ne _ _ _ _ h
  | some ⟨p, id, .live b x⟩ =>
    dsimp only
    split
    · exact put_get_ne _ _ _ _ h
    · exact put_get_ne _ _ _ _ h

/-- Settling the records of some ports that hold their keys is ending their contacts in ascending number (R122, R123). -/
theorem settleAll_eq_cancelAll (which : PortNo → Bool) (s : State) :
    settleAll (fun c => which c.port) s = cancelAll which s := by
  unfold settleAll cancelAll
  have key : ∀ (l : List ContactNo), l.Nodup → ∀ t : State, (∀ n ∈ l, t.contacts[n] = s.contacts[n]) →
      l.foldl (fun t n =>
        match t.contacts[n] with
        | some c => if (keyHeld c && which c.port) = true then settle n t else t
        | none => t) t =
      (l.filter fun n => s.contacts[n].any fun c => which c.port).foldl cancelled t := by
    intro l
    induction l with
    | nil => intros; rfl
    | cons n l ih =>
      intro hl t ht
      have hn : t.contacts[n] = s.contacts[n] := ht n (by simp)
      obtain ⟨hnl, hl⟩ := List.nodup_cons.mp hl
      have hrest : ∀ m ∈ l, t.contacts[m] = s.contacts[m] := fun m hm => ht m (by simp [hm])
      have hne : ∀ m ∈ l, (cancelled t n).contacts[m] = s.contacts[m] := fun m hm => by
        rw [cancelled_contacts_ne t n m fun e => hnl (e ▸ hm), hrest m hm]
      rw [List.foldl_cons, List.filter_cons]
      cases hc : s.contacts[n] with
      | none => simp only [hn, hc, Option.any_none, Bool.false_eq_true, if_false]; exact ih hl t hrest
      | some c =>
        cases hw : which c.port with
        | false => simp only [hn, hc, hw, Option.any_some, Bool.and_false, Bool.false_eq_true, if_false]; exact ih hl t hrest
        | true =>
          simp only [hn, hc, hw, Option.any_some, Bool.and_true, if_true, List.foldl_cons]
          cases hk : keyHeld c with
          | true => rw [if_pos rfl, settle_eq_cancelled]; exact ih hl _ hne
          | false =>
            simp only [Bool.false_eq_true, if_false]
            have hid : cancelled t n = t := by
              obtain ⟨q, id, cond⟩ := c
              cases cond with
              | closing b e => unfold cancelled; rw [hn, hc]
              | live b m => cases hk
              | suppressed z st => cases hk
              | ignored place => cases hk
            rw [hid]
            exact ih hl t hrest
  exact key _ (List.nodup_finRange 32) s fun _ _ => rfl

/-! ### The flush -/

/-- Held items in front of others: where the first list is written out the rest goes on, and where it ends the flush all
ends (R172). -/
def FlushesTo (st : StationNo) (xs : List Held) (s : State) (r : State × Bool) : Prop :=
  (r.2 = true → ∀ ys u, Flushed st ys r.1 u → Flushed st (xs ++ ys) s u) ∧
  (r.2 = false → ∀ ys, Flushed st (xs ++ ys) s r.1)

theorem FlushesTo.nil (st : StationNo) (s : State) : FlushesTo st [] s (s, true) :=
  ⟨fun _ _ _ h => h, fun h => absurd h Bool.true_eq_false.mp⟩

theorem FlushesTo.fits {st : StationNo} {x : Held} {xs : List Held} {s : State} {r : State × Bool}
    (hf : fits s.delivery[st] (recordLength x.record) = true) (h : FlushesTo st xs (writeHeld st x s) r) :
    FlushesTo st (x :: xs) s r :=
  ⟨fun hr ys u hu => ⟨fun _ => h.1 hr ys u hu, fun hn => absurd hf (by rw [hn]; exact Bool.false_ne_true)⟩,
   fun hr ys => ⟨fun _ => h.2 hr ys, fun hn => absurd hf (by rw [hn]; exact Bool.false_ne_true)⟩⟩

theorem FlushesTo.stops {st : StationNo} {x : Held} {xs : List Held} {s : State}
    (hf : Machine.fits s.delivery[st] (recordLength x.record) = false) : FlushesTo st (x :: xs) s (s, false) :=
  ⟨fun hr => absurd hr Bool.false_ne_true,
   fun _ _ => ⟨fun hn => absurd hf (by rw [hn]; exact fun h => Bool.false_ne_true h.symm), fun _ => rfl⟩⟩

theorem FlushesTo.ends {st : StationNo} {xs : List Held} {s : State} {r : State × Bool} (h : FlushesTo st xs s r) :
    Flushed st xs s r.1 := by
  rw [← List.append_nil xs]
  cases hr : r.2 with
  | true => exact h.1 hr [] r.1 rfl
  | false => exact h.2 hr []

/-- Writing an owed record takes it off its queue (R169, R172). -/
theorem writeHeld_owed (st : StationNo) (o : Owed) (rest : List Owed) (s : State) (h : s.delivery[st].owed = o :: rest) :
    writeHeld st { record := o.record, stamp := o.stamp, contact := none } s =
      updDelivery (writeRecord st o.record o.stamp s) st fun d => { d with owed := rest } := by
  have hd : (writeRecord st o.record o.stamp s).delivery[st].owed = o :: rest := by
    rw [← h]
    show (put s.delivery st _)[st.val].owed = _
    rw [put_get]
  unfold writeHeld updDelivery
  dsimp only
  rw [hd, List.tail_cons]

/-- Writing the owed queue out is writing its records as held items (R172). -/
theorem flushOwed_flushesTo (st : StationNo) (l : List Owed) (s : State) (h : s.delivery[st].owed = l) :
    FlushesTo st (l.map fun o => { record := o.record, stamp := o.stamp, contact := none }) s (flushOwed st l s) ∧
    (flushOwed st l s).1.contacts = s.contacts := by
  induction l generalizing s with
  | nil => exact ⟨.nil st s, rfl⟩
  | cons o rest ih =>
    unfold flushOwed
    split
    · rename_i hf
      have hw := writeHeld_owed st o rest s h
      obtain ⟨i1, i2⟩ := ih (updDelivery (writeRecord st o.record o.stamp s) st fun d => { d with owed := rest })
        (congrArg Delivery.owed (put_get _ st _))
      refine ⟨.fits hf (hw ▸ i1), i2.trans ?_⟩
      rw [updDelivery_contacts]
      obtain ⟨_, _, _, he⟩ := writeRecord_frame st o.record o.stamp s
      rw [he]
    · rename_i hf
      exact ⟨.stops (Bool.eq_false_iff.mpr hf), rfl⟩

/-- An offer of the contact records that is told by each record: nothing to write, or an item written where it fits. -/
def OffersHeld (st : StationNo) (item : ContactNo → State → Option State)
    (held? : ContactNo → Option Contact → Option Held) : Prop :=
  ∀ n s, match held? n s.contacts[n] with
    | none => item n s = some s
    | some x => (∃ c, x.contact = some (n, c)) ∧
      item n s = if fits s.delivery[st] (recordLength x.record) then some (writeHeld st x s) else none

theorem writeHeld_contacts_ne {st : StationNo} {x : Held} {n : ContactNo} {c : Option Contact} (h : x.contact = some (n, c))
    (s : State) (m : ContactNo) (hm : n ≠ m) : (writeHeld st x s).contacts[m] = s.contacts[m] := by
  unfold writeHeld
  rw [h]
  obtain ⟨_, _, _, he⟩ := writeRecord_frame st x.record x.stamp s
  dsimp only
  rw [he]
  exact put_get_ne _ _ _ _ hm

/-- Offering the contact records in order is writing what they hold (R121, R172). -/
theorem flushAll_flushesTo {st : StationNo} {item : ContactNo → State → Option State}
    {held? : ContactNo → Option Contact → Option Held} (hi : OffersHeld st item held?) (l : List ContactNo) (hl : l.Nodup)
    (s t : State) (ht : ∀ n ∈ l, t.contacts[n] = s.contacts[n]) :
    FlushesTo st (l.filterMap fun n => held? n s.contacts[n]) t (flushAll item l t) := by
  induction l generalizing t with
  | nil => exact .nil st t
  | cons n l ih =>
    obtain ⟨hnl, hl⟩ := List.nodup_cons.mp hl
    have hrest : ∀ m ∈ l, t.contacts[m] = s.contacts[m] := fun m hm => ht m (by simp [hm])
    have h := hi n t
    rw [ht n (by simp)] at h
    unfold flushAll
    rw [List.filterMap_cons]
    cases hx : held? n s.contacts[n] with
    | none =>
      rw [hx] at h
      dsimp only at h ⊢
      rw [h]
      exact ih hl t hrest
    | some x =>
      rw [hx] at h
      obtain ⟨⟨c, hc⟩, h⟩ := h
      dsimp only
      rw [h]
      by_cases hf : fits t.delivery[st] (recordLength x.record) = true
      · rw [if_pos hf]
        refine .fits hf (ih hl _ fun m hm => ?_)
        rw [writeHeld_contacts_ne hc t m fun e => hnl (e ▸ hm), hrest m hm]
      · rw [if_neg hf]
        exact .stops (Bool.eq_false_iff.mpr hf)

theorem flushEnd_offers (st : StationNo) : OffersHeld st (flushEnd st) (pendingEnd? st) := by
  intro n s
  unfold flushEnd
  generalize hc : s.contacts[n] = held
  match held with
  | none => rfl
  | some ⟨p, id, .live b m⟩ => rfl
  | some ⟨p, id, .suppressed z x⟩ => rfl
  | some ⟨p, id, .ignored place⟩ => rfl
  | some ⟨p, id, .closing b e⟩ =>
    unfold pendingEnd?
    by_cases hb : b.station = st
    · cases e with
      | up spot => simp only [hb, if_true]; exact ⟨⟨_, rfl⟩, rfl⟩
      | cancel => simp only [hb, if_true]; exact ⟨⟨_, rfl⟩, rfl⟩
    · simp only [hb, if_false]

theorem flushMove_offers (st : StationNo) : OffersHeld st (flushMove st) (pendingMove? st) := by
  intro n s
  unfold flushMove
  generalize hc : s.contacts[n] = held
  match held with
  | none => rfl
  | some ⟨p, id, .live b none⟩ => rfl
  | some ⟨p, id, .suppressed z x⟩ => rfl
  | some ⟨p, id, .ignored place⟩ => rfl
  | some ⟨p, id, .closing b e⟩ => rfl
  | some ⟨p, id, .live b (some spot)⟩ =>
    unfold pendingMove?
    by_cases hb : b.station = st
    · simp only [hb, if_true]; exact ⟨⟨_, rfl⟩, rfl⟩
    · simp only [hb, if_false]

/-- A property that every written item keeps holds after the offers. -/
theorem flushAll_keeps {P : State → Prop} {item : ContactNo → State → Option State}
    (hi : ∀ n s t, P s → item n s = some t → P t) (l : List ContactNo) (s : State) (hs : P s) : P (flushAll item l s).1 := by
  induction l generalizing s with
  | nil => exact hs
  | cons n l ih =>
    unfold flushAll
    cases h : item n s with
    | none => exact hs
    | some t => exact ih t (hi n s t hs h)

/-- Writing a pending end changes no pending move (R121). -/
theorem flushEnd_pendingMove {st : StationNo} {n : ContactNo} {s t : State} (h : flushEnd st n s = some t) (m : ContactNo) :
    pendingMove? st m t.contacts[m] = pendingMove? st m s.contacts[m] := by
  have ho := flushEnd_offers st n s
  cases hx : pendingEnd? st n s.contacts[n] with
  | none =>
    rw [hx] at ho
    rw [Option.some.inj (h.symm.trans ho)]
  | some x =>
    rw [hx] at ho
    obtain ⟨⟨c, hc⟩, ho⟩ := ho
    rw [h] at ho
    split at ho
    · have ht := Option.some.inj ho
      subst ht
      by_cases hm : n = m
      · subst hm
        have hnone : (writeHeld st x s).contacts[n] = c := by
          unfold writeHeld
          rw [hc]
          exact put_get _ _ _
        rw [hnone]
        revert hx hc
        generalize s.contacts[n] = held
        intro hx hc
        match held, hx with
        | some ⟨p, id, .closing b e⟩, hx =>
          have hcn : c = none := by
            unfold pendingEnd? at hx
            dsimp only at hx
            split at hx
            · cases e <;> cases hx <;> cases hc <;> rfl
            · cases hx
          rw [hcn]; rfl
      · rw [writeHeld_contacts_ne hc s m hm]
    · cases ho

/-- The flush writes what is held for the station, in order, as long as it fits (R121, R172). -/
theorem flush_flushed (st : StationNo) (s : State) : Flushed st (heldItems st s) s (flush st s) := by
  obtain ⟨hw, hc⟩ := flushOwed_flushesTo st s.delivery[st].owed s rfl
  unfold flush heldItems
  rw [List.append_assoc]
  dsimp only
  generalize flushOwed st s.delivery[st].owed s = a at hw hc ⊢
  have he : FlushesTo st (pendingEnds st s) a.1 (flushAll (flushEnd st) (List.finRange 32) a.1) :=
    flushAll_flushesTo (flushEnd_offers st) _ (List.nodup_finRange 32) s _ fun n _ => by rw [hc]
  have hp := flushAll_keeps (P := fun t => ∀ n, pendingMove? st n t.contacts[n] = pendingMove? st n s.contacts[n])
    (item := flushEnd st) (fun n t u ht hu m => (flushEnd_pendingMove hu m).trans (ht m)) (List.finRange 32) a.1
    fun n => by rw [hc]
  generalize flushAll (flushEnd st) (List.finRange 32) a.1 = b at he hp ⊢
  have hlist : pendingMoves st s = (List.finRange 32).filterMap fun n => pendingMove? st n b.1.contacts[n] :=
    List.filterMap_congr fun n _ => (hp n).symm
  have hm : FlushesTo st (pendingMoves st s) b.1 (flushAll (flushMove st) (List.finRange 32) b.1) := by
    rw [hlist]
    exact flushAll_flushesTo (flushMove_offers st) _ (List.nodup_finRange 32) _ _ fun n _ => rfl
  cases ha : a.2 with
  | false => exact hw.2 ha _
  | true =>
    refine hw.1 ha _ _ ?_
    cases hb : b.2 with
    | false => exact he.2 hb _
    | true => exact he.1 hb _ _ hm.ends

/-! ### The page engine and a printer's choice -/

/-- A page frame handed over joins the send list of a port UP with a printer, and is discarded elsewhere (R136, log 20). -/
theorem hand_page {p : PortNo} {f : OutFrame} (hf : frameFor f = some .printer) (s : State) :
    hand p f s = { s with
      ports := put s.ports p
        { s.ports[p] with sendList := s.ports[p].sendList ++ if UpWith .printer p s then [f] else [] } } := by
  unfold hand takesFrame
  rw [hf]
  by_cases h : UpWith .printer p s
  · rw [if_pos (by simpa [UpWith] using h), if_pos h]; rfl
  · rw [if_neg (by simpa [UpWith] using h), if_neg h, List.append_nil]
    exact congrArg (fun a => { s with ports := a }) (put_self s.ports p).symm

/-- A printer record and the frames handed for its port so far (R58–R60). -/
def feeding (p : PortNo) (r : Printer) (frames : List OutFrame) (s : State) : State :=
  { s with
    printers := put s.printers p r
    ports := put s.ports p
      { s.ports[p] with sendList := s.ports[p].sendList ++ if UpWith .printer p s then frames else [] } }

theorem feeding_printer (p : PortNo) (r : Printer) (l : List OutFrame) (s : State) :
    (feeding p r l s).printers[p] = r := put_get ..

theorem feeding_port (p : PortNo) (r : Printer) (l : List OutFrame) (s : State) :
    (feeding p r l s).ports[p] =
      { s.ports[p] with sendList := s.ports[p].sendList ++ if UpWith .printer p s then l else [] } := put_get ..

theorem feeding_upWith (p : PortNo) (r : Printer) (l : List OutFrame) (s : State) :
    UpWith .printer p (feeding p r l s) ↔ UpWith .printer p s := by
  unfold UpWith
  rw [feeding_port]

theorem feeding_updPrinter (p : PortNo) (r : Printer) (l : List OutFrame) (s : State) (f : Printer → Printer) :
    updPrinter (feeding p r l s) p f = feeding p (f r) l s := by
  unfold updPrinter
  rw [feeding_printer]
  unfold feeding
  rw [put_put]

theorem feeding_hand {p : PortNo} {f : OutFrame} (hf : frameFor f = some .printer) (r : Printer) (l : List OutFrame)
    (s : State) : hand p f (feeding p r l s) = feeding p r (l ++ [f]) s := by
  rw [hand_page hf]
  by_cases h : UpWith .printer p s
  · rw [if_pos ((feeding_upWith p r l s).mpr h), feeding_port]
    unfold feeding
    rw [put_put, if_pos h, if_pos h, List.append_assoc]
  · rw [if_neg (mt (feeding_upWith p r l s).mp h), List.append_nil]
    refine (congrArg (fun a => { feeding p r l s with ports := a }) (put_self (feeding p r l s).ports p)).trans ?_
    unfold feeding
    rw [if_neg h, if_neg h]

theorem feeding_start (p : PortNo) (r : Printer) (s : State) : updPrinter s p (fun _ => r) = feeding p r [] s := by
  unfold updPrinter feeding
  rw [ite_self, List.append_nil]
  exact congrArg (fun a => { s with printers := put s.printers p r, ports := a }) (put_self s.ports p).symm

theorem dataFrames_succ (s : State) (job : Job) (page start n : Nat) :
    dataFrames s job page start (n + 1) =
      .pageData job.serial page start
        (dataBytes s.mem job.blocks (job.restart + 4 + start) (min 64 (pageLength s.mem job.blocks job.restart - start))) ::
      dataFrames s job page (start + 64) n := by
  unfold dataFrames
  rw [List.range_succ_eq_map, List.map_cons, List.map_map]
  congr 1
  refine List.map_congr_left fun i _ => ?_
  have : start + 64 * (i + 1) = start + 64 + 64 * i := by omega
  simp only [Function.comp_apply, Nat.succ_eq_add_one, this]

/-- One PAGE DATA frame sent (R59). -/
theorem sendData_feeding {p : PortNo} {j : JobNo} {page : Nat} {r : Printer} (l : List OutFrame) (s : State)
    (hc : r.current = some j) (hp : r.page = some { page := page, stage := .data }) :
    sendData p (feeding p r l s) =
      if 0 < r.credits ∧ r.sent < pageLength s.mem s.jobs[j].blocks s.jobs[j].restart then
        feeding p
          { r with
            credits := r.credits - 1
            sent := r.sent + min 64 (pageLength s.mem s.jobs[j].blocks s.jobs[j].restart - r.sent) }
          (l ++ dataFrames s s.jobs[j] page r.sent 1) s
      else feeding p r l s := by
  cases r
  cases hc
  cases hp
  unfold sendData
  rw [feeding_printer]
  dsimp only
  have hlen : ∀ x, currentLength (feeding p x l s) j = pageLength s.mem s.jobs[j].blocks s.jobs[j].restart := fun _ => rfl
  rw [hlen]
  split
  · rw [feeding_updPrinter, feeding_hand rfl, dataFrames_succ]
    rfl
  · rfl

/-- PAGE DATA frames sent one after the other: as many as bytes are left for and credits allow (R59). -/
theorem sendDataTimes_feeding {p : PortNo} {j : JobNo} {page : Nat} (n : Nat) {r : Printer} (l : List OutFrame) (s : State)
    (hc : r.current = some j) (hp : r.page = some { page := page, stage := .data }) {total k : Nat}
    (ht : total = pageLength s.mem s.jobs[j].blocks s.jobs[j].restart) (hs : r.sent ≤ total) (hn : n ≤ r.credits)
    (hk : k = min n ((total - r.sent + 63) / 64)) :
    sendDataTimes p n (feeding p r l s) =
      feeding p { r with credits := r.credits - k, sent := min total (r.sent + 64 * k) }
        (l ++ dataFrames s s.jobs[j] page r.sent k) s := by
  induction n generalizing r l k with
  | zero =>
    obtain rfl : k = 0 := by omega
    unfold sendDataTimes
    have : min total (r.sent + 64 * 0) = r.sent := by omega
    rw [this, show dataFrames s s.jobs[j] page r.sent 0 = [] from rfl, List.append_nil]
    rfl
  | succ n ih =>
    unfold sendDataTimes
    rw [sendData_feeding l s hc hp, ← ht]
    by_cases hlt : r.sent < total
    · obtain ⟨m, rfl⟩ : ∃ m, k = m + 1 := ⟨k - 1, by omega⟩
      rw [if_pos ⟨by omega, hlt⟩]
      rw [ih (r := { r with credits := r.credits - 1, sent := r.sent + min 64 (total - r.sent) }) (k := m) _ hc hp
        (by dsimp only; omega) (by dsimp only; omega) (by dsimp only; omega)]
      dsimp only
      have h1 : r.credits - 1 - m = r.credits - (m + 1) := by omega
      have h2 : min total (r.sent + min 64 (total - r.sent) + 64 * m) = min total (r.sent + 64 * (m + 1)) := by omega
      rw [h1, h2, List.append_assoc, dataFrames_succ s _ _ r.sent m]
      congr 2
      rw [dataFrames_succ]
      refine congrArg (List.cons _) ?_
      cases m with
      | zero => rfl
      | succ m =>
        have : r.sent + min 64 (total - r.sent) = r.sent + 64 := by omega
        rw [this]
        rfl
    · obtain rfl : k = 0 := by omega
      rw [if_neg fun h => hlt h.2]
      exact ih (k := 0) l hc hp hs (by omega) (by omega)

/-- A page fed: its data sent as credits allow, and the page closed when every byte has gone out (R59, R60). -/
theorem feedPage_feeding {p : PortNo} {j : JobNo} {page : Nat} {r : Printer} (l : List OutFrame) (s : State)
    (hc : r.current = some j) (hp : r.page = some { page := page, stage := .data }) {total k : Nat}
    (ht : total = pageLength s.mem s.jobs[j].blocks s.jobs[j].restart) (hs : r.sent ≤ total)
    (hk : k = min r.credits ((total - r.sent + 63) / 64)) :
    feedPage p (feeding p r l s) =
      let sent := min total (r.sent + 64 * k)
      feeding p
        { r with
          page := some { page := page, stage := if sent = total then .closed else .data }
          credits := r.credits - k
          sent := sent
          pageTimer :=
            if sent = total then some { start := s.time, length := s.printerSet[p].pageTimeout * 1000 } else r.pageTimer }
        (l ++ dataFrames s s.jobs[j] page r.sent k ++ if sent = total then [.pageClose s.jobs[j].serial page] else []) s := by
  unfold feedPage
  rw [feeding_printer, sendDataTimes_feeding r.credits l s hc hp ht hs (Nat.le_refl _) hk]
  generalize hl : min total (r.sent + 64 * k) = sent
  cases r
  cases hc
  cases hp
  unfold closePage
  rw [feeding_printer]
  dsimp only
  have hlen : ∀ x y, currentLength (feeding p x y s) j = total := fun _ _ => ht.symm
  rw [hlen]
  by_cases h : sent = total
  · rw [if_neg (by omega), if_pos h, if_pos h, if_pos h, feeding_updPrinter, feeding_hand rfl]
    rfl
  · rw [if_pos (by omega), if_neg h, if_neg h, if_neg h, List.append_nil]

/-- What opening a page comes to: the words of the statements, and nothing outside the printer's record and the port's send
list has changed (R58, R59). -/
theorem openPage_opened {p : PortNo} {j : JobNo} {s : State} (h : s.printers[p].current = some j) :
    PageOpened p s.jobs[j] s.printers[p] s (openPage p s) ∧
    ∃ r x, openPage p s = { s with printers := put s.printers p r, ports := put s.ports p x } := by
  let r : Printer :=
    { s.printers[p] with
      page := some { page := s.jobs[j].pagesDone + 1, stage := .data }
      sent := 0, credits := s.printers[p].window, pageTimer := none }
  have ho : openPage p s = feedPage p (feeding p r [openFrame s s.jobs[j]] s) := by
    unfold openPage
    rw [h]
    dsimp only
    rw [← List.nil_append [openFrame s s.jobs[j]], ← feeding_hand rfl, ← feeding_start]
    rfl
  rw [feedPage_feeding (r := r) _ s h rfl rfl (Nat.zero_le _) rfl, show r.sent = 0 from rfl, Nat.zero_add,
    Nat.sub_zero] at ho
  rw [ho]
  refine ⟨⟨?_, ?_⟩, _, _, rfl⟩
  · exact feeding_printer ..
  · exact feeding_port ..

/-- The state in which a printer has made its choice, before a page opens (R63). -/
theorem makeCurrent_state (p : PortNo) (j : JobNo) (s : State) (x : PrinterState) :
    updPrinter (makeCurrent p j s) p (fun r => { r with state := x }) =
      { s with
        printers := put s.printers p
          { s.printers[p] with
            state := x
            current := some j
            queue := s.printers[p].queue.filter (· ≠ j)
            suspended := if s.printers[p].suspended = some j then none else s.printers[p].suspended }
        jobs := put s.jobs j { s.jobs[j] with state := .printing } } := by
  unfold makeCurrent updPrinter updJob
  simp only [Fin.getElem_fin, put_get, put_put]

theorem chosenPrinter_none {p : PortNo} {s : State} (h : nextJob? s s.printers[p] = none) :
    chosenPrinter p s = { s.printers[p] with state := if s.printMode = .running then .idle else .quiesced } := by
  unfold chosenPrinter
  dsimp only
  rw [h]

theorem chosenPrinter_some {p : PortNo} {j : JobNo} {s : State} (h : nextJob? s s.printers[p] = some j) :
    chosenPrinter p s =
      { s.printers[p] with
        state := if s.printMode = .running then .sending else .quiesced
        current := some j
        queue := s.printers[p].queue.filter (· ≠ j)
        suspended := if s.printers[p].suspended = some j then none else s.printers[p].suspended } := by
  unfold chosenPrinter
  dsimp only
  rw [h]

/-- A printer's choice touches the jobs, the printers and the ports, and nothing else (R63). -/
theorem choose_frame (p : PortNo) (s : State) :
    choose p s = { s with
      jobs := (choose p s).jobs, printers := (choose p s).printers, ports := (choose p s).ports } := by
  unfold choose
  split
  · rename_i j _ _
    rw [makeCurrent_state]
    obtain ⟨-, _, _, ht⟩ := openPage_opened (p := p) (j := j) (s := { s with
        printers := put s.printers p
          { s.printers[p] with
            state := .sending
            current := some j
            queue := s.printers[p].queue.filter (· ≠ j)
            suspended := if s.printers[p].suspended = some j then none else s.printers[p].suspended }
        jobs := put s.jobs j { s.jobs[j] with state := .printing } }) (congrArg Printer.current (put_get s.printers p _))
    rw [ht]
  all_goals rfl

/-- A printer's choice (R63): the words of the statements, and the other printers and ports as they were. -/
theorem choose_chose (p : PortNo) (s : State) :
    Chose p s (choose p s) ∧ (choose p s).jobs = chosenJobs p s ∧
    ∀ q : PortNo, q ≠ p → (choose p s).printers[q] = s.printers[q] ∧ (choose p s).ports[q] = s.ports[q] := by
  have hne : ∀ {q : PortNo} {x : Printer}, q ≠ p → (put s.printers p x)[q] = s.printers[q] :=
    fun h => put_get_ne _ _ _ _ h.symm
  unfold choose Chose chosenJobs
  rw [candidate?_eq_nextJob?]
  cases hj : nextJob? s s.printers[p] with
  | none =>
    cases hm : s.printMode <;>
      exact ⟨⟨by rw [chosenPrinter_none hj, hm]; exact put_get .., rfl⟩, rfl, fun q h => ⟨hne h, rfl⟩⟩
  | some j =>
    cases hm : s.printMode with
    | quiet =>
      dsimp only
      rw [makeCurrent_state]
      refine ⟨⟨?_, rfl⟩, rfl, fun q h => ⟨hne h, rfl⟩⟩
      rw [chosenPrinter_some hj, hm]
      exact put_get ..
    | running =>
      dsimp only
      rw [makeCurrent_state]
      generalize hr : ({ s.printers[p] with
        state := .sending, current := some j, queue := _, suspended := _ } : Printer) = r
      have hc : r = chosenPrinter p s := by rw [chosenPrinter_some hj, hm, ← hr]; rfl
      generalize hjob : ({ s.jobs[j] with state := .printing } : Job) = job
      generalize hmid : ({ s with printers := put s.printers p r, jobs := put s.jobs j job } : State) = m
      have hmp : m.printers[p] = r := by rw [← hmid]; exact put_get ..
      have hmj : m.jobs[j] = job := by rw [← hmid]; exact put_get ..
      have hcur : m.printers[p].current = some j := by rw [hmp, ← hr]
      obtain ⟨ho, _, _, ht⟩ := openPage_opened hcur
      rw [hmp, hmj] at ho
      generalize openPage p m = t at ht ho ⊢
      refine ⟨?_, ?_, fun q h => ?_⟩
      · rw [← hc]
        subst hmid hjob
        exact ho
      · rw [ht, ← hmid]
      · rw [ht, ← hmid]
        exact ⟨(put_get_ne _ _ _ _ h.symm).trans (hne h), put_get_ne _ _ _ _ h.symm⟩

end Sys2Proof.Machine
end

