-- ==== Sys2Proof/Tests/Slice0.lean ====
section
/-! SUPPORT. Tests: the smoke test of WellFormed, one step of each command on a small state, and for each statement with
hypotheses a witness that meets them. Expected values are worked from the rules of spec/ named beside them. -/

namespace Sys2Proof.Tests

open Sys2Proof Sys2Proof.Machine Sys2Proof.Safety

/-! ### Small states -/

/-- The state a command leaves. -/
def after (s : State) (i : Instr) : State :=
  match exec i s with
  | .next t => t
  | .fault _ => s
  | .refused _ => s

/-- A RUNNING part in which nothing has happened. -/
def base : State := { State.reset with part := .running }

/-- Card `c`, of a kind and with argument bytes from offset 8, being served. -/
def serving (c : CardNo) (kind : Byte) (args : List Byte) (s : State) : State :=
  { s with
    cards := put s.cards c .taken, serving := some c
    mem := writeBytes (writeBytes s.mem (cardAddress c + 1) [kind]) (cardAddress c + 8) args }

/-- A device on a port, UP at pace 2. -/
def linkUp (p : PortNo) (d : DevProfile) (s : State) : State :=
  updPort s p fun r => { r with
    link := .up, profile := some d, resolved := some 2, pace := 2, line := .fill
    silence := some { start := s.time, length := 20 } }

/-- A printer with a receive window of 2. -/
def printerDev : DevProfile := { kind := .printer, paces := 0b0011, model := 0x2201, further := 2 }

/-- A scanner. -/
def scannerDev : DevProfile := { kind := .scanner, paces := 0b1011, model := 0x3A07, further := 0 }

/-- A panel with a contact limit of 10. -/
def panelDev : DevProfile := { kind := .panel, paces := 0b1111, model := 0x4401, further := 10 }

/-- Blocks RESERVED by a station, in their order. -/
def reserved (st : StationNo) (bs : List BlockNo) (s : State) : State :=
  { s with
    blocks := bs.foldl (fun v b => put v b (.reserved st)) s.blocks
    free := s.free.filter fun b => !bs.contains b
    stations := put s.stations st { s.stations[st] with holdings := bs.length } }

/-- Job 4 of station 5 at port 2: one page of 100 bytes in block 6. -/
def job (state : JobState) : Job :=
  { state := state, owner := some 5, port := 2, cls := .short, notices := true, blocks := [6], length := 104
    pageCount := 1, pagesDone := 0, restart := 0, suspensions := 0, transients := 0, accepted := 9, serial := 9
    cancelPending := false, reason := .completed }

/-- A printer record in a state, with nothing at the printer. -/
def idlePrinter (state : PrinterState) : Printer :=
  { state := state, current := none, suspended := none, queue := [], suspendPending := false, page := none, sent := 0
    credits := 0, window := 2, pageTimer := none, reconnect := none, hold := none, paperLow := false }

/-- A printer UP on port 2 with job 4 (or another record of it) and the page header of block 6 in place: L = 100, finish 1,
density 7 (R188). -/
def atPrinter (r : Printer) (j : Job) (s : State) : State :=
  linkUp 2 printerDev
    { s with
      printers := put s.printers 2 r, jobs := put s.jobs 4 j
      blocks := put s.blocks 6 (.committed 4), free := s.free.filter (· ≠ 6)
      stations := put s.stations 5 { s.stations[(5 : StationNo)] with holdings := 1 }
      mem := writeBytes s.mem 0x9600 [100, 0, 1, 7] }

/-- The printer SENDING the page of job 4, in a stage. -/
def sendingPage (stage : Stage) : Printer :=
  { idlePrinter .sending with current := some 4, page := some { page := 1, stage := stage } }

/-- Job 4 current at a SENDING printer, its page in a stage. -/
def printing (stage : Stage) : State := atPrinter (sendingPage stage) (job .printing) base

/-- Job 4 current at a HELD printer. -/
def heldPrinter : State :=
  atPrinter { idlePrinter .held with current := some 4, hold := some .jam } (job .printing) base

/-- Job 4 current at a DETACHED printer whose window ends at 30,000. -/
def detached : State :=
  updPort
    (atPrinter { idlePrinter .detached with current := some 4, reconnect := some { start := 0, length := 30000 } }
      (job .printing) base) 2 fun r => { r with link := .down, silence := none }

/-- A scanner UP on port 1 in a state. -/
def scannerAt (state : ScannerState) (queue : List Wait) : State :=
  linkUp 1 scannerDev
    { base with
      scanners := put base.scanners 1 { base.scanners[(1 : PortNo)] with state := state, queue := queue, grants := 7 } }

/-- A claim of station 5 with grant serial 7, started at 0 for 30 s. -/
def claim (count : Nat) : Claim :=
  { holder := 5, hold := 30, idle := { start := 0, length := 30000 }, count := count, serial := 7 }

/-- The rectangle 0, 0, 2048, 4096 shown as 1024 × 2048, threshold 8 (spec/06, section 6.6). -/
def map4 : Mapping :=
  { x0 := 0, y0 := 0, x1 := 2048, y1 := 4096, orientation := .r0, width := 1024, height := 2048, threshold := 8 }

/-- Zone 4 of panel port 3, station 5. -/
def zone4 : Zone := { port := 3, map := map4, station := 5, wake := true }

/-- A panel UP on port 3 with zone 4 ACTIVE. -/
def panelAt (contacts : List (ContactNo × Contact)) : State :=
  linkUp 3 panelDev
    { base with
      zones := put base.zones 4 (some zone4), panels := put base.panels 3 (some 10)
      contacts := contacts.foldl (fun v c => put v c.1 (some c.2)) base.contacts }

/-- A live contact of id 2 with last delivered (100, 200). -/
def bound : Bound :=
  { zone := 4, station := 5, map := map4, last := { pos := { x := 100, y := 200 }, stamp := 3 } }

/-- That contact's record. -/
def liveContact : Contact := { port := 3, id := 2, cond := .live bound none }

/-- A port INTRODUCING with introduction items. -/
def introducingAt (i : Intro) : State :=
  updPort base 5 fun r => { r with
    link := .introducing, intro := some i, silence := some { start := 0, length := 20 }, line := .fill }

/-- The payload of the scanner's PROFILE (R141, R189): SCANNER, paces 1, 2 and 4, model 3A07H. -/
def scannerProfile : List Byte := [2, 0b1011, 0x07, 0x3A, 0]

/-- Introduction items with a count, a stored profile and flags. -/
def introItems (count : Nat) (stored : Option (List Byte)) (sent received : Bool) : Intro :=
  { advertised := 0b0111, count := count, stored := stored, seenSent := sent, seenReceived := received
    attempt := { start := 0, length := 500 }, handed := 0 }

/-! ### WellFormed refuses ill-formed commands -/

theorem test_wf_run : WellFormed (.run (.word 0xFFFA 1)) = false := by decide
theorem test_wf_softReset : WellFormed (.softReset (.byte 0xFFF7 2)) = false := by decide
theorem test_wf_registerWriteDiscarded : WellFormed (.registerWriteDiscarded (.word 0xFFFC 1)) = false := by decide
theorem test_wf_noticeWrite : WellFormed (.noticeWrite (.byte 0xFFFE 1)) = false := by decide
theorem test_wf_noticeMaskWrite : WellFormed (.noticeMaskWrite (.word 0xFFFC 1)) = false := by decide
theorem test_wf_hostWrite : WellFormed (.hostWrite (.byte 0x9000 1)) = false := by decide
theorem test_wf_poolBlockWrite : WellFormed (.poolBlockWrite (.byte 0xF000 1)) = false := by decide
theorem test_wf_cardByteWrite : WellFormed (.cardByteWrite (.byte 0x1040 1)) = false := by decide
theorem test_wf_cardStateWrite : WellFormed (.cardStateWrite (.byte 0x1041 1)) = false := by decide
theorem test_wf_takenMarkWrite : WellFormed (.takenMarkWrite (.word 0x1002 1)) = false := by decide
theorem test_wf_validGroup : WellFormed (.validGroupReceived 0 0b00000) = false := by decide
theorem test_wf_profile : WellFormed (.profile 0 (List.replicate 97 0)) = false := by decide
theorem test_wf_profileSeen : WellFormed (.profileSeen 0 (List.replicate 97 0)) = false := by decide
theorem test_wf_pageDone : WellFormed (.pageDone 0 (List.replicate 97 0)) = false := by decide
theorem test_wf_credit : WellFormed (.credit 0 (List.replicate 97 0)) = false := by decide
theorem test_wf_pageFault : WellFormed (.pageFault 0 (List.replicate 97 0)) = false := by decide
theorem test_wf_ready : WellFormed (.ready 0 (List.replicate 97 0)) = false := by decide
theorem test_wf_paper : WellFormed (.paper 0 (List.replicate 97 0)) = false := by decide
theorem test_wf_scan : WellFormed (.scan 0 (List.replicate 97 0)) = false := by decide
theorem test_wf_touch : WellFormed (.touch 0 (List.replicate 97 0)) = false := by decide

/-- The twenty valid groups of R189 are those the machine takes as valid (R132). -/
theorem test_valid_groups : ∀ g : Group, isValidGroup g = validGroup g := by decide

/-- No row of the table gives bits. -/
theorem test_no_word : ∀ w : Fin 256, decodeTableWord 8 w.val = none := by decide +kernel

/-! ### Part Control and the registers -/

/-- R176. -/
theorem test_fullReset : (after { base with time := 77 } .fullReset).part = .stopped ∧
    (after { base with time := 77 } .fullReset).time = 0 := by decide

/-- R177: RUN starts a STOPPED part. -/
theorem test_run : (after State.reset (.run (.word 0xFFF8 1))).part = .running := by decide

/-- R178: QUIET becomes RUNNING, and the wake cause stays. -/
theorem test_softReset :
    let t := after { base with part := .quiet, wake := .touch 3, notice := 5 } (.softReset (.word 0xFFF8 2))
    t.part = .running ∧ t.wake = .touch 3 ∧ t.notice = 0 := by decide

/-- R53, R81: job 4 ends SOFT RESET, its printer is IDLE and PAGE ABANDON is sent. -/
theorem test_softReset_print :
    let t := after (printing .data) (.softReset (.byte 0xFFF8 2))
    t.jobs[(4 : JobNo)].state = .free ∧ t.jobs[(4 : JobNo)].reason = .softReset ∧
      t.printers[(2 : PortNo)].state = .idle ∧ t.ports[(2 : PortNo)].sendList = [.pageAbandon 1] := by decide +kernel

/-- R151: PART STATUS is read-only. -/
theorem test_registerWriteDiscarded : (after base (.registerWriteDiscarded (.word 0xFFFA 0))).readWord 0xFFFA = 1 := by
  decide

/-- R174: bits written 1 are cleared; the high byte alone is written. -/
theorem test_noticeWrite : (after { base with notice := 0x0F21 } (.noticeWrite (.byte 0xFFFD 0x03))).notice = 0x0C21 := by
  decide

/-- R175: the interrupt line follows NOTICE AND NOTICE MASK. -/
theorem test_noticeMaskWrite :
    let t := after { base with notice := 0x20 } (.noticeMaskWrite (.word 0xFFFF 0x21))
    t.noticeMask = 0x21 ∧ t.interrupt = true := by decide

/-- R176: the timebase wraps. -/
theorem test_tick : (after { base with time := 0xFFFFFFFF } .millisecondTick).time = 0 := by decide

/-! ### Host writes -/

/-- R151, R153: a ring byte keeps its value. -/
theorem test_hostWrite : (after base (.hostWrite (.byte 0x1100 9))).readByte 0x1100 = 0 := by decide

/-- R24: the RESERVED block takes the word, little-endian. -/
theorem test_poolBlockWrite :
    let t := after (reserved 5 [6] base) (.poolBlockWrite (.word 0x9600 0x1234))
    t.readByte 0x9600 = 0x34 ∧ t.readByte 0x9601 = 0x12 := by decide

/-- R24: a FREE block discards the byte. -/
theorem test_poolBlockWrite_free : (after base (.poolBlockWrite (.byte 0xEFFF 1))).readByte 0xEFFF = 0 := by decide

/-- R157: card B of station 5 begins at 38A0H; its last byte is written in EMPTY. -/
theorem test_cardByteWrite : cardByte (after base (.cardByteWrite (.byte 0x38FF 7))) 11 95 = 7 := by decide

/-- R156, R158: a posting joins the tail. -/
theorem test_cardStateWrite :
    let t := after { base with posting := [3] } (.cardStateWrite (.word 0x3840 0x0601))
    t.posting = [3, 10] ∧ t.cards[(10 : CardNo)] = .posted ∧ cardByte t 10 1 = 0x06 := by decide

/-- R171: 20 in an unread stretch of 48 bytes is taken as 16. -/
theorem test_takenMarkWrite :
    (after { base with delivery := put base.delivery 5 { base.delivery[(5 : StationNo)] with w := 48 } }
      (.takenMarkWrite (.word 0x3800 20))).delivery[(5 : StationNo)].t = 16 := by decide

/-- R172: an owed record is written once the host has made room; the GAP flag goes on it. -/
theorem test_flush :
    let d : Delivery := { w := 16, t := 24, seq := 9, gap := true, owed := [⟨.printerNote 2 true, 5⟩], frozen := false }
    let t := after { base with delivery := put base.delivery 0 d } (.takenMarkWrite (.word 0x1000 16))
    t.delivery[(0 : StationNo)] = { d with w := 32, t := 16, seq := 10, gap := false, owed := [] } ∧
      t.readByte 0x1110 = 0x04 ∧ t.readByte 0x1112 = 1 ∧ t.readByte 0x1116 = 5 := by decide +kernel

/-! ### Requests -/

/-- R160: the head card is taken. -/
theorem test_takeCard :
    let s := { base with posting := [10, 3], cards := put base.cards 10 .posted, mem := [(cardAddress 10 + 1, 0x01)] }
    (after s .takeCard).serving = some 10 ∧ (after s .takeCard).posting = [3] := by decide

/-- R161: 20H from station 5 is refused NOT SUPERVISOR. -/
theorem test_takeCard_supervisor :
    let s := { base with posting := [10], cards := put base.cards 10 .posted, mem := [(cardAddress 10 + 1, 0x20)] }
    cardByte (after s .takeCard) 10 4 = 0x04 ∧ (after s .takeCard).notice = 0x20 := by decide

/-- R22. -/
theorem test_reserve :
    let t := after (serving 10 0x01 [2] base) .reserve
    t.free.length = 94 ∧ t.blocks[(1 : BlockNo)] = .reserved 5 ∧ cardByte t 10 9 = 1 ∧ cardHalf t 10 6 = 94 := by decide

/-- R21: 33 is out of range. -/
theorem test_reserve_range : cardByte (after (serving 10 0x01 [33] base) .reserve) 10 4 = 0x03 := by decide

/-- R23: the list's order is the free list's. -/
theorem test_unreserve :
    let t := after (serving 10 0x02 [2, 3, 1] (reserved 5 [1, 3] base)) .unreserve
    t.free.drop 94 = [3, 1] ∧ t.stations[(5 : StationNo)].holdings = 0 ∧ cardHalf t 10 6 = 96 := by decide

/-- R23: the second entry repeats the first. -/
theorem test_unreserve_repeat :
    let t := after (serving 10 0x02 [2, 3, 3] (reserved 5 [1, 3] base)) .unreserve
    cardByte t 10 4 = 0x03 ∧ cardByte t 10 5 = 1 ∧ t.free.length = 94 := by decide

/-- A printer in a state, UP on port 2, and block 6 RESERVED by station 5 with a page of 100 bytes. -/
def submitState (r : Printer) : State :=
  serving 10 0x03 [2, 1, 1, 1, 104, 0, 1, 6]
    (linkUp 2 printerDev
      { reserved 5 [6] base with
        printers := put base.printers 2 r, mem := writeBytes base.mem 0x9600 [100, 0, 1, 7] })

/-- R40, R42: the job waits behind the current one, under serial 1. -/
theorem test_submit :
    let t := after (submitState { idlePrinter .held with current := some 9 }) .submit
    t.jobs[(0 : JobNo)].state = .waiting ∧ t.printers[(2 : PortNo)].queue = [0] ∧
      t.blocks[(6 : BlockNo)] = .committed 0 ∧ cardHalf t 10 8 = 1 := by decide

/-- R41, R58, R59: an IDLE printer takes it; window 2 carries the whole page, and the page closes. -/
theorem test_submit_idle :
    let t := after (submitState (idlePrinter .idle)) .submit
    t.printers[(2 : PortNo)].page = some { page := 1, stage := .closed } ∧
      (t.ports[(2 : PortNo)].sendList.map frameBytes).map (·.take 6) =
        [[0x10, 5, 1, 100, 0, 1], [0x11, 67, 1, 0, 0, 0], [0x11, 39, 1, 64, 0, 0], [0x12, 1, 1, 0xEC, 0xFF]] := by
  decide

/-- R47: a WAITING job ends CANCELLED. -/
theorem test_cancelJob :
    let t := after (serving 10 0x04 [4, 9, 0]
      (atPrinter { idlePrinter .held with current := some 1, queue := [4] } (job .waiting) base)) .cancelJob
    t.jobs[(4 : JobNo)].state = .free ∧ t.jobs[(4 : JobNo)].reason = .cancelled ∧ t.printers[(2 : PortNo)].queue = [] ∧
      t.blocks[(6 : BlockNo)] = .free ∧ t.stations[(5 : StationNo)].holdings = 0 := by decide

/-- R48: a PRINTING job of a SENDING printer runs on. -/
theorem test_cancelJob_pending :
    let t := after (serving 10 0x04 [4, 9, 0] (printing .data)) .cancelJob
    t.jobs[(4 : JobNo)].cancelPending = true ∧ cardHalf t 10 6 = 1 := by decide

/-- R72. -/
theorem test_clearPrinter :
    let t := after (serving 10 0x05 [2] heldPrinter) .clearPrinter
    t.printers[(2 : PortNo)].state = .sending ∧ t.printers[(2 : PortNo)].hold = none := by decide

/-- R90: a FREE scanner is granted with serial 8; a hold time of 3 is raised to 5. -/
theorem test_claim :
    let t := after (serving 10 0x06 [1, 3, 0, 2, 0] (scannerAt .free [])) .claim
    t.scanners[(1 : PortNo)].state =
      .held { holder := 5, hold := 5, idle := { start := 0, length := 5000 }, count := 2, serial := 8 } ∧
      cardHalf t 10 6 = 8 := by decide

/-- R90: a HELD one lets station 3 wait in place 1. -/
theorem test_claim_wait :
    let t := after (serving 6 0x06 [1, 0, 0, 0, 1] (scannerAt (.held (claim 0)) [])) .claim
    t.scanners[(1 : PortNo)].queue = [{ station := 3, hold := 30, count := 0 }] ∧ cardByte t 6 4 = 0x01 := by decide

/-- R91, R92: the head waiter is granted. -/
theorem test_release :
    let t := after (serving 10 0x07 [1] (scannerAt (.held (claim 0)) [{ station := 3, hold := 9, count := 1 }])) .release
    holds t.scanners[(1 : PortNo)] 3 = true ∧ t.scanners[(1 : PortNo)].lastEnd = some (.released, 7) ∧
      cardHalf t 10 6 = 7 := by decide

/-- R6: the withdrawn port's claim ends. -/
theorem test_setPermits :
    let s := serving 0 0x20 [5, 0xFD] (scannerAt (.held (claim 0)) [])
    let t := after s .setPermits
    t.scanners[(1 : PortNo)].state = .free ∧ t.stations[(5 : StationNo)].permits = 0xFD ∧
      (serveSetPermits 0 s).answer.value = 0xFF := by decide

/-- R10–R14. -/
theorem test_setService :
    let s := serving 0 0x21 [5, 0] (reserved 5 [6, 7] base)
    let t := after s .setService
    inService t 5 = false ∧ t.free.length = 96 ∧ t.delivery[(5 : StationNo)].frozen = true ∧
      (serveSetService 0 s).answer.value = 2 := by decide

/-- R9: station 0 is not retired. -/
theorem test_setService_zero :
    (serveSetService 0 (serving 0 0x21 [0, 0] base)).answer.outcome = .badArgument ∧
      inService (after (serving 0 0x21 [0, 0] base) .setService) 0 = true := by decide

/-- R8: 300 is stored as 96. -/
theorem test_setQuota : (after (serving 0 0x22 [5, 0x2C, 0x01] base) .setQuota).stations[(5 : StationNo)].quota = 96 := by
  decide

/-- R44: a page timeout of 2 is stored as 5. -/
theorem test_setPrinter :
    (after (serving 0 0x23 [2, 2, 40, 0] base) .setPrinter).printerSet[(2 : PortNo)] =
      { pageTimeout := 5, reconnectWindow := 40, suspendAllowed := false } := by decide

/-- R87: default hold 700 is lowered to the maximum given, 60; window 12 to 10. -/
theorem test_setScanner :
    (after (serving 0 0x24 [1, 0xBC, 0x02, 60, 0, 0xFF, 12] base) .setScanner).scannerSet[(1 : PortNo)] =
      { defaultHold := 60, maximumHold := 60, defaultStation := none, repeatWindow := 10 } := by decide

/-- R105, R106: zone 4 of section 6.6. -/
theorem test_setZone :
    (after (serving 0 0x25 [4, 3, 0, 0, 0, 0, 0, 8, 0, 16, 5, 0, 0, 4, 0, 8, 8, 1] base) .setZone).zones[(4 : ZoneNo)] =
      some zone4 := by decide

/-- R105 check 8: the overlapped zone is named. -/
theorem test_setZone_overlap :
    let t := after (serving 0 0x25 [7, 3, 0, 0, 0, 0, 0, 8, 0, 16, 5, 0, 0, 4, 0, 8, 8, 1] (panelAt [])) .setZone
    cardByte t 0 4 = 0x10 ∧ cardByte t 0 5 = 4 := by decide

/-- R107. -/
theorem test_clearZone :
    let t := after (serving 0 0x26 [4] (panelAt [])) .clearZone
    t.zones[(4 : ZoneNo)] = none ∧ cardHalf t 0 6 = 1 := by decide

/-- R148: the flags above the lowest four are not read. -/
theorem test_setPort :
    let t := after (serving 0 0x27 [5, 0xF7] base) .setPort
    t.ports[(5 : PortNo)].advertised = 0b0111 ∧ cardHalf t 0 6 = 15 := by decide

/-- R149. -/
theorem test_ackPort :
    let s := updPort base 5 fun r => { r with link := .quarantined, lost := true, babbleCount := 3, babbleTimes := [1, 2] }
    let t := after (serving 0 0x28 [5] s) .ackPort
    t.ports[(5 : PortNo)].link = .down ∧ t.ports[(5 : PortNo)].lost = false ∧ t.ports[(5 : PortNo)].babbleCount = 0 ∧
      cardHalf t 0 6 = 1 := by decide

/-! ### Quiet hours -/

/-- R179, R181. -/
theorem test_quiet :
    let t := after (serving 0 0x29 [] base) .quiet
    t.part = .quiet ∧ t.quietScan = [.enter] ∧ t.readByte 0x1100 = 0x0D ∧ t.readByte 0x1109 = 2 := by decide

/-- R180. -/
theorem test_wake :
    let t := after (serving 0 0x2A [] { base with part := .quiet }) .wake
    t.part = .running ∧ t.wake = .request ∧ t.quietTouch = [.leave] := by decide

/-- R180, R185: the wake cause TOUCH with zone 9. -/
theorem test_wakeTouch :
    (after { base with part := .quiet, wakeReports := [9] } .wakeTouch).readWord 0xFFFA = 0x0921 := by decide

/-- R78: a SENDING printer keeps its page. -/
theorem test_printersEnterQuiet :
    let t := after { printing .closed with quietPrint := [.enter] } .printersEnterQuiet
    t.printers[(2 : PortNo)] = { sendingPage .closed with state := .quiesced } ∧ t.printMode = .quiet := by decide +kernel

/-- R100: the claim and the wait end QUIET. -/
theorem test_scannersEnterQuiet :
    let t := after { scannerAt (.held (claim 0)) [{ station := 3, hold := 9, count := 1 }] with quietScan := [.enter] }
      .scannersEnterQuiet
    t.scanners[(1 : PortNo)].state = .free ∧ t.scanners[(1 : PortNo)].lastEnd = some (.quiet, 7) ∧ t.notice = 0x28 := by
  decide

/-- R123: the live contact ends with CANCEL. -/
theorem test_touchEnterQuiet :
    let t := after { panelAt [(2, liveContact)] with quietTouch := [.enter] } .touchEnterQuiet
    t.contacts[(2 : ContactNo)] = none ∧ t.readByte 0x3900 = 0x0B ∧ t.touchMode = .quiet := by decide +kernel

/-- R80: a QUIESCED printer with an owed page opens it. -/
theorem test_printersLeaveQuiet :
    let t := after { atPrinter { idlePrinter .quiesced with current := some 4 } (job .printing) base with
      quietPrint := [.leave], printMode := .quiet } .printersLeaveQuiet
    t.printers[(2 : PortNo)].state = .sending ∧ t.printers[(2 : PortNo)].page.isSome = true := by decide

/-- R100: nothing is restored. -/
theorem test_scannersLeaveQuiet :
    (after { base with quietScan := [.leave], scanMode := .quiet } .scannersLeaveQuiet).scanMode = .running := by decide

/-- R123. -/
theorem test_touchLeaveQuiet :
    (after { base with quietTouch := [.leave], touchMode := .quiet } .touchLeaveQuiet).touchMode = .running := by decide

/-! ### Links -/

/-- R140: OPEN on a DOWN port begins its frame. -/
theorem test_validGroup :
    let t := after base (.validGroupReceived 5 openGroup)
    t.ports[(5 : PortNo)].link = .introducing ∧ t.ports[(5 : PortNo)].rx = some [] ∧
      t.ports[(5 : PortNo)].sendList = [.profile 0xF] := by decide

/-- R140: a STOPPED part ignores it. -/
theorem test_validGroup_stopped : after State.reset (.validGroupReceived 5 fillGroup) = State.reset := by decide +kernel

/-- R132: a group that is not valid discards the frame. -/
theorem test_symbolGroup :
    (after (updPort (linkUp 1 scannerDev base) 1 fun r => { r with rx := some [3] })
      (.symbolGroupReceived 1 0b00001)).ports[(1 : PortNo)].rx = none := by decide

/-- R140. -/
theorem test_profileResend :
    (after { introducingAt (introItems 2 none false false) with time := 10 } (.profileResend 5)).ports[(5 : PortNo)].sendList =
      [.profile 0b0111] := by decide

/-- R142. -/
theorem test_profileSeenResend :
    (after { introducingAt (introItems 3 none true false) with time := 10 }
      (.profileSeenResend 5)).ports[(5 : PortNo)].sendList = [.profileSeen false] := by decide

/-- R136. -/
theorem test_sendFrame :
    let t := after (updPort (linkUp 1 scannerDev base) 1 fun r => { r with sendList := [.verdict true, .verdict false] })
      (.sendFrame 1)
    t.ports[(1 : PortNo)].line = .frame (.verdict true) ∧ t.ports[(1 : PortNo)].sendList = [.verdict false] := by decide

/-- R136, R189: FILL stands before the OPEN of a frame, and groups go out from the most significant bit: 11111, 11000. -/
theorem test_lineBits : (lineBits (.frame (.verdict true))).take 10 =
    [true, true, true, true, true, true, true, false, false, false] := by decide

/-- R142: the link switches to pace 2. -/
theorem test_paceSwitch :
    (after (updPort (linkUp 1 scannerDev base) 1 fun r => { r with pace := 1, line := .frame (.profileSeen true) })
      (.paceSwitch 1)).ports[(1 : PortNo)].pace = 2 := by decide

/-- R135: the third within 1 s. -/
theorem test_babbledFrame :
    let s := updPort { linkUp 1 scannerDev base with time := 999 } 1 fun r => { r with babbleTimes := [0, 500] }
    (after s (.babbledFrame 1)).ports[(1 : PortNo)].link = .quarantined ∧
      (after { s with time := 1000 } (.babbledFrame 1)).ports[(1 : PortNo)].babbleTimes = [500, 1000] := by decide

/-- R141, R142: the third equal copy sets seen-sent (section 8.8). -/
theorem test_profile :
    let t := after (introducingAt (introItems 2 (some scannerProfile) false false)) (.profile 5 scannerProfile)
    t.ports[(5 : PortNo)].intro.map Intro.seenSent = some true ∧ t.ports[(5 : PortNo)].sendList = [.profileSeen false] := by
  decide

/-- R142: the common set of {1, 2, 3} and {1, 2, 4} gives pace 2 (section 8.8). -/
theorem test_profileSeen :
    let t := after (introducingAt (introItems 3 (some scannerProfile) true false)) (.profileSeen 5 [])
    t.ports[(5 : PortNo)].link = .up ∧ t.ports[(5 : PortNo)].resolved = some 2 ∧
      t.toScan[(5 : PortNo)] = [.arrival scannerDev] := by decide

/-- R143. -/
theorem test_attemptTimer :
    (after { introducingAt (introItems 3 (some scannerProfile) true false) with time := 500 }
      (.attemptTimerExpiry 5)).ports[(5 : PortNo)].intro.map Intro.count = some 0 := by decide

/-- R144. -/
theorem test_silenceTimer :
    let t := after { linkUp 1 scannerDev base with time := 20 } (.silenceTimerExpiry 1)
    t.ports[(1 : PortNo)].link = .down ∧ t.ports[(1 : PortNo)].lost = true ∧ t.toScan[(1 : PortNo)] = [.loss] := by decide

/-- R74. -/
theorem test_printerLinkLoss :
    let t := after { printing .closed with toPrint := put base.toPrint 2 [.loss] } (.printerLinkLoss 2)
    t.printers[(2 : PortNo)].state = .detached ∧ t.printers[(2 : PortNo)].page = none ∧
      t.printers[(2 : PortNo)].reconnect = some { start := 0, length := 30000 } := by decide

/-- R99. -/
theorem test_scannerLinkLoss :
    let t := after { scannerAt (.held (claim 0)) [] with toScan := put base.toScan 1 [.loss] } (.scannerLinkLoss 1)
    t.scanners[(1 : PortNo)].state = .absent ∧ t.scanners[(1 : PortNo)].lastEnd = some (.deviceLost, 7) := by decide

/-- R122. -/
theorem test_panelLinkLoss :
    let t := after { panelAt [(2, liveContact)] with toTouch := put base.toTouch 3 [.loss] } (.panelLinkLoss 3)
    t.contacts[(2 : ContactNo)] = none ∧ t.panels[(3 : PortNo)] = none ∧ t.portCount[(3 : PortNo)] = 1 := by decide +kernel

/-- R57. -/
theorem test_printerArrival :
    (after { base with toPrint := put base.toPrint 2 [.arrival printerDev] } (.printerArrival 2)).printers[(2 : PortNo)] =
      idlePrinter .idle := by decide

/-- R75. -/
theorem test_printerReturn :
    let t := after { linkUp 2 printerDev detached with toPrint := put base.toPrint 2 [.arrival printerDev] }
      (.printerReturn 2)
    t.printers[(2 : PortNo)].state = .sending ∧ t.printers[(2 : PortNo)].reconnect = none := by decide

/-- R76. -/
theorem test_kindChange :
    let t := after { detached with toPrint := put base.toPrint 2 [.kindChange] } (.kindChange 2)
    t.printers[(2 : PortNo)].state = .absent ∧ t.jobs[(4 : JobNo)].reason = .deviceLost ∧
      t.blocks[(6 : BlockNo)] = .free := by decide

/-- R83. -/
theorem test_scannerArrival :
    (after { base with toScan := put base.toScan 1 [.arrival scannerDev] } (.scannerArrival 1)).scanners[(1 : PortNo)].state =
      .free := by decide

/-- R146. -/
theorem test_panelArrival :
    (after { base with toTouch := put base.toTouch 3 [.arrival panelDev] } (.panelArrival 3)).panels[(3 : PortNo)] =
      some 10 := by decide

/-- R76. -/
theorem test_reconnectTimer :
    (after { detached with time := 30000 } (.reconnectTimerExpiry 2)).printers[(2 : PortNo)].state = .absent ∧
      (after { detached with time := 29999 } (.reconnectTimerExpiry 2)).printers[(2 : PortNo)].state = .detached := by
  decide

/-! ### Device frames -/

/-- R61, R62: the last page ends the job COMPLETED. -/
theorem test_pageDone :
    let t := after (printing .closed) (.pageDone 2 [1])
    t.jobs[(4 : JobNo)].state = .free ∧ t.jobs[(4 : JobNo)].pagesDone = 1 ∧ t.printers[(2 : PortNo)].state = .idle ∧
      t.notice = 0x20 := by decide

/-- R61: in stage DATA it is ignored. -/
theorem test_pageDone_data : (after (printing .data) (.pageDone 2 [1])).printers[(2 : PortNo)] = sendingPage .data := by
  decide

/-- R59: one credit, one frame of 64 bytes. -/
theorem test_credit :
    let t := after (printing .data) (.credit 2 [1])
    t.printers[(2 : PortNo)].sent = 64 ∧ t.printers[(2 : PortNo)].credits = 0 := by decide

/-- R59: credits never exceed the window. -/
theorem test_credit_window : (after (printing .closed) (.credit 2 [200])).printers[(2 : PortNo)].credits = 2 := by decide

/-- R67, R70: JAM holds the printer; the owner and station 0 are told. -/
theorem test_pageFault :
    let t := after (printing .data) (.pageFault 2 [1, 2])
    t.printers[(2 : PortNo)].state = .held ∧ t.printers[(2 : PortNo)].hold = some .jam ∧ t.notice = 0x21 := by decide

/-- R68: HEAD HOT waits for READY. -/
theorem test_pageFault_hot :
    (after (printing .data) (.pageFault 2 [1, 4])).printers[(2 : PortNo)].page =
      some { page := 1, stage := .awaitingReady } := by decide

/-- R68. -/
theorem test_ready :
    ((after (printing .awaitingReady) (.ready 2 [])).ports[(2 : PortNo)].sendList.map framePayload).head? =
      some (0x10, [1, 100, 0, 1, 7]) := by decide

/-- R77. -/
theorem test_paper :
    let t := after (printing .data) (.paper 2 [1])
    t.printers[(2 : PortNo)].paperLow = true ∧ t.readByte 0x1100 = 0x04 := by decide

/-- R69. -/
theorem test_pageTimer :
    let s := atPrinter { sendingPage .closed with pageTimer := some { start := 0, length := 60000 } } (job .printing) base
    let t := after { s with time := 60000 } (.pageTimerExpiry 2)
    t.printers[(2 : PortNo)].hold = some .timeout ∧ t.ports[(2 : PortNo)].sendList = [.pageAbandon 1] := by decide

/-- R96, R97: the last counted scan ends the claim. -/
theorem test_scan :
    let t := after (scannerAt (.held (claim 1)) []) (.scan 1 [0x41, 0x31, 0x32])
    t.scanners[(1 : PortNo)].state = .free ∧ t.scanners[(1 : PortNo)].lastEnd = some (.countSpent, 7) ∧
      t.ports[(1 : PortNo)].sendList = [.verdict true] ∧ t.delivery[(5 : StationNo)].w = 40 := by decide

/-- R98: no default station. -/
theorem test_scan_free :
    (after (scannerAt .free []) (.scan 1 [0x41, 0x31])).ports[(1 : PortNo)].sendList = [.verdict false] := by decide

/-- R93. -/
theorem test_idleTimer :
    let s := scannerAt (.held (claim 0)) []
    (after { s with time := 30000 } (.idleTimerExpiry 1)).scanners[(1 : PortNo)].lastEnd = some (.expired, 7) ∧
      (after { s with time := 29999 } (.idleTimerExpiry 1)).scanners[(1 : PortNo)].lastEnd = none := by decide

/-- R115, R128: raw (1000, 2000) is (500, 1000) on a 1024 × 2048 screen. -/
theorem test_touch_down :
    let t := after (panelAt []) (.touch 3 (oneTouch 2 0 1000 2000))
    (t.contacts[(0 : ContactNo)].map Contact.cond).map isLive = some true ∧ t.readByte 0x3900 = 0x08 ∧
      t.readWord 0x390C = 500 ∧ t.readWord 0x390E = 1000 := by decide

/-- R118: a change of 7 does not pass a threshold of 8. -/
theorem test_touch_move :
    (after (panelAt [(2, liveContact)]) (.touch 3 (oneTouch 2 1 214 400))).notice = 0 ∧
      (after (panelAt [(2, liveContact)]) (.touch 3 (oneTouch 2 1 216 400))).notice = 0x20 := by decide

/-- R134: the frame of the rule's own example. -/
theorem test_check : checkOf [0x31, 2, 0x05, 0x40] = 0xFF88 := by decide

/-- R133: its groups give it back. -/
theorem test_goodFrame : goodFrame? [0x1, 0x3, 0x2, 0x0, 0x5, 0x0, 0x0, 0x4, 0x8, 0x8, 0xF, 0xF] =
    some (0x31, [0x05, 0x40]) := by decide

/-! ### The invariants as checks -/

theorem memOk {s : State} (h : memoryWf s.mem = true) : MemoryOk s := h

theorem ringsOk {s : State} (h : ∀ st : StationNo, s.delivery[st].w % 8 = 0 ∧ s.delivery[st].w < 1792 ∧
    s.delivery[st].t % 8 = 0 ∧ s.delivery[st].t < 1792 ∧ usedBytes s.delivery[st] ≤ 1784 ∧
    s.delivery[st].owed.length ≤ 16) : RingsOk s := h

theorem serviceOk {s : State}
    (h : inService s 0 = true ∧ ∀ st : StationNo, s.delivery[st].frozen = !inService s st) : ServiceOk s := h

theorem poolOk {s : State} (h : s.free.Nodup ∧ ∀ b : BlockNo, b ∈ s.free ↔ s.blocks[b] = .free) : PoolOk s := h

theorem cardsOk {s : State} (h : s.posting.Nodup ∧ (∀ c : CardNo, c ∈ s.posting ↔ s.cards[c] = .posted) ∧
    ∀ c : CardNo, s.serving = some c ↔ s.cards[c] = .taken) : CardsOk s := h

/-- The states of these tests have at most PAGE CLOSE frames to send, on a port with a printer. -/
theorem portsOk {s : State} (h : ∀ p : PortNo, let r := s.ports[p]
    (r.intro.isSome = true ↔ r.link = .introducing) ∧ (r.link ≠ .up → r.pace = 1 ∧ r.resolved = none) ∧
    (linked r = false → r.sendList = [] ∧ r.silence = none ∧ r.rx = none) ∧ r.babbleTimes.length ≤ 2 ∧
    r.babbleCount ≤ 255 ∧ (r.link = .introducing → r.sendList = []) ∧
    (r.link = .up → ∀ f ∈ r.sendList, f = .pageClose 9 1 ∧ r.profile = some printerDev)) : PortsOk s := by
  intro p
  obtain ⟨h1, h2, h3, h4, h5, h6, h7⟩ := h p
  refine ⟨h1, h2, h3, h4, h5, fun hl f hf => ?_, fun hl f hf => ?_⟩
  · rw [h6 hl] at hf; cases hf
  · obtain ⟨rfl, hd⟩ := h7 hl f hf
    exact .inr ⟨.printer, rfl, by rw [hd]; rfl⟩

theorem printersOk {s : State} (h : ∀ p : PortNo, let r := s.printers[p]
    r.queue.length ≤ 12 ∧
    (r.state = .absent → r.current = none ∧ r.suspended = none ∧ r.queue = [] ∧ r.page = none ∧
      r.suspendPending = false ∧ r.pageTimer = none ∧ r.reconnect = none ∧ r.hold = none)) : PrintersOk s := h

/-- ScannerOk as a check. -/
def scannerCheck (r : Scanner) : Bool :=
  r.queue.length ≤ 4 && (r.queue.map Wait.station).Nodup &&
  match r.state with
  | .held c => c.holder ∉ r.queue.map Wait.station
  | .free | .absent => r.queue = []

/-- The states of these tests have at most one contact record, record 2. -/
theorem keysOk {s : State} (h : ∀ n : ContactNo, (s.contacts[n]).isSome = true → n = 2) : KeysOk s :=
  fun m n a b hm hn _ _ _ _ =>
    (h m (by rw [hm]; rfl)).trans (h n (by rw [hn]; rfl)).symm

theorem scannersOk {s : State} (h : ∀ p : PortNo, scannerCheck s.scanners[p] = true) : ScannersOk s := by
  intro p
  have hp := h p
  unfold scannerCheck at hp
  unfold ScannerOk
  simp only [Bool.and_eq_true, decide_eq_true_eq] at hp
  refine ⟨hp.1.1, hp.1.2, ?_⟩
  have h3 := hp.2
  split at h3 <;> simp_all

/-- The clauses of JobsOk about one job and about one printer, as checks. -/
def jobCheck (s : State) (j : JobNo) : Bool :=
  match s.jobs[j].state with
  | .free => true
  | .waiting => j ∈ s.printers[s.jobs[j].port].queue
  | .printing => s.printers[s.jobs[j].port].current = some j
  | .suspended => s.printers[s.jobs[j].port].suspended = some j
  | .ended => false

theorem jobsOk {s : State} (h : ∀ j, jobCheck s j = true)
    (k : ∀ p : PortNo,
      (∀ j ∈ s.printers[p].queue, s.jobs[j].state = .waiting ∧ s.jobs[j].port = p) ∧
      (∀ j, s.printers[p].current = some j → s.jobs[j].state = .printing ∧ s.jobs[j].port = p) ∧
      (∀ j, s.printers[p].suspended = some j → s.jobs[j].state = .suspended ∧ s.jobs[j].port = p) ∧
      s.printers[p].queue.Nodup ∧
      (s.printers[p].suspendPending = true → s.printers[p].current ≠ none ∧ s.printers[p].suspended = none) ∧
      (s.printers[p].state = .idle → s.printers[p].current = none)) : JobsOk s := by
  refine ⟨fun j => ?_, k⟩
  have hj := h j
  unfold jobCheck at hj
  split at hj <;> simp_all

/-- A table of options of which every entry passes a check. -/
theorem every {α : Type} {n : Nat} {v : Vector (Option α) n} {P : Fin n → α → Prop} (f : Fin n → α → Bool)
    (hf : ∀ i a, f i a = true → P i a) (h : ∀ i : Fin n, (v[i]).all (f i) = true) (i : Fin n) (a : α)
    (ha : v[i] = some a) : P i a := by
  have hi := h i
  rw [ha] at hi
  exact hf i a hi

/-- The states of these tests have at most zone 4. -/
theorem zonesOk {s : State} (h : ∀ z : ZoneNo, (s.zones[z]).all (fun a => decide (z = 4 ∧ a = zone4)) = true) :
    ZonesOk s := by
  have all : ∀ (z : ZoneNo) (a : Zone), s.zones[z] = some a → z = 4 ∧ a = zone4 :=
    every (P := fun z a => z = 4 ∧ a = zone4) (fun z a => decide (z = 4 ∧ a = zone4)) (fun z a h => of_decide_eq_true h) h
  refine ⟨fun z a hz => ?_, fun y z a b hy hz hn => ?_, fun p => ?_⟩
  · obtain ⟨-, rfl⟩ := all z a hz
    unfold MappingOk; decide
  · exact absurd ((all y a hy).1.trans (all z b hz).1.symm) hn
  · have : ∀ z ∈ activeZones s p, z = 4 := by
      intro z hz
      unfold activeZones at hz
      rw [List.mem_filter] at hz
      have h2 := hz.2
      cases e : s.zones[z] with
      | none => rw [e] at h2; cases h2
      | some a => exact (all z a e).1
    have nd : (activeZones s p).Nodup := (List.nodup_finRange 16).filter _
    calc (activeZones s p).length ≤ ([4] : List ZoneNo).length :=
          (nd.subperm fun z hz => by rw [this z hz]; exact List.mem_singleton.2 rfl).length_le
      _ ≤ 8 := by decide

/-! ### Witnesses: the step and the invariants -/

/-- A small state in which every invariant holds: job 4 PRINTING, a claim with a waiter, a contact, and a command waiting. -/
def lively : State :=
  { printing .closed with pending := [.pageDone 2 [1]] }

theorem witness_StepRunsFrontCommand :
    lively.pending = .pageDone 2 [1] :: [] ∧ base.pending = [] := by decide

theorem witness_PartStateAndTimebase :
    (∃ t, exec .fullReset base = .next t ∧ base.part ≠ .stopped ∧ t.part = .stopped) ∧
    (∃ t, exec .quiet (serving 0 0x29 [] base) = .next t ∧ t.part = .quiet ∧ base.part ≠ .quiet) ∧
    (∃ t, exec .wakeTouch { base with part := .quiet, wakeReports := [9] } = .next t ∧ t.part = .running) ∧
    (∃ t, exec (.pageDone 2 [1]) lively = .next t ∧
      (Instr.pageDone 2 [1]) ≠ .millisecondTick ∧ (Instr.pageDone 2 [1]) ≠ .fullReset) :=
  ⟨⟨_, rfl, by decide, rfl⟩, ⟨_, rfl, by decide, by decide⟩, ⟨_, rfl, by decide⟩, ⟨_, rfl, by decide, by decide⟩⟩

theorem no_control {bit : Nat} {i : Instr} {s : State} (h : ∀ w, i ∉ hostWrites w) : ¬ WritesControl bit i s :=
  fun ⟨w, hw, _⟩ => h w hw

theorem witness_PartStateAndChangeCounts :
    (∃ t, exec (.run (.byte 0xFFF8 1)) State.reset = .next t ∧ State.reset.part = .stopped ∧ t.part = .running ∧
      WritesControl 0 (.run (.byte 0xFFF8 1)) State.reset) ∧
    (let s := { base with part := .quiet }
     ∃ t, exec (.softReset (.word 0xFFF9 2)) s = .next t ∧ t.part = .running ∧
      WritesControl 1 (.softReset (.word 0xFFF9 2)) s) ∧
    ∃ t, exec (.pageDone 2 [1]) lively = .next t ∧ ¬ WritesControl 1 (.pageDone 2 [1]) lively ∧
      t.jobCount[(4 : JobNo)] = 1 ∧ t.portCount[(2 : PortNo)] = 1 ∧ t.poolCount = 1 ∧ t.jobCount[(5 : JobNo)] = 0 := by
  refine ⟨⟨_, rfl, rfl, by decide, .byte 0xFFF8 1, by simp [hostWrites], by decide, by decide, by decide⟩,
    ⟨_, rfl, by decide, .word 0xFFF9 2, by simp [hostWrites], by decide, by decide, by decide⟩,
    ⟨_, rfl, no_control (by intro w; simp [hostWrites]), by decide +kernel, by decide +kernel, by decide +kernel,
      by decide +kernel⟩⟩

theorem witness_ConfigurationChangesByItsRequests :
    ∃ t, exec .millisecondTick base = .next t ∧ Instr.millisecondTick ≠ .fullReset ∧
      Instr.millisecondTick ≠ .setPermits ∧ Instr.millisecondTick ≠ .setZone ∧ Instr.millisecondTick ≠ .submit :=
  ⟨_, rfl, by decide, by decide, by decide, by decide⟩

theorem lively_jobs : JobsOk lively := jobsOk (by decide +kernel) (by decide +kernel)

theorem witness_StepKeepsMemoryCanonical : MemoryOk lively ∧ ∃ t, step lively = .next t :=
  ⟨memOk (by decide), _, rfl⟩

theorem witness_StepKeepsRingsInOrder : RingsOk lively ∧ ServiceOk lively ∧ ∃ t, step lively = .next t :=
  ⟨ringsOk (by decide), serviceOk (by decide), _, rfl⟩

theorem witness_StepKeepsTheLists : PoolOk lively ∧ CardsOk lively ∧ ∃ t, step lively = .next t :=
  ⟨poolOk (by decide +kernel), cardsOk (by decide), _, rfl⟩

theorem witness_StepKeepsClaimsAndLimits :
    (ScannersOk (scannerAt (.held (claim 1)) [{ station := 3, hold := 9, count := 1 }])) ∧ ZonesOk (panelAt []) ∧
      SettingsOk base ∧ KeysOk (panelAt [(2, liveContact)]) ∧ ∃ t, step base = .next t := by
  refine ⟨scannersOk (by decide), zonesOk (by decide), ?_, keysOk (by decide), _, rfl⟩
  unfold SettingsOk; decide

theorem witness_StepKeepsPortRecords :
    let s := updPort lively 2 fun r => { r with sendList := [.pageClose 9 1] }
    PortsOk s ∧ ∃ t, step s = .next t :=
  ⟨portsOk (by decide +kernel), _, rfl⟩

theorem witness_StepKeepsJobsInPlace :
    JobsOk lively ∧ PrintersOk lively ∧ PoolOk lively ∧ BlocksOk lively ∧ ∃ t, step lively = .next t := by
  refine ⟨lively_jobs, printersOk (by decide), poolOk (by decide +kernel), ?_, _, rfl⟩
  unfold BlocksOk
  decide +kernel

/-! ### Witnesses: host writes and requests -/

theorem witness_RunStartsAStoppedPart :
    ((0xFFF8 : Half) = 0xFFF8 ∨ (0xFFF8 : Half) = 0xFFF9) ∧ (1 : Half).getLsbD 1 = false ∧ (0xFD : Byte).getLsbD 1 = false := by
  decide

theorem witness_SoftResetTearsDown :
    (∃ a v, HostWrite.word 0xFFF9 2 = .word a v ∧ (a = 0xFFF8 ∨ a = 0xFFF9) ∧ v.getLsbD 1 = true) ∧
    (∃ v, HostWrite.byte 0xFFF8 3 = .byte 0xFFF8 v ∧ v.getLsbD 1 = true) ∧
    State.reset.part = .stopped ∧ State.reset.printers[(0 : PortNo)].state = .absent ∧
    (handedValue 0 (.byte 0xFFF8 3)).testBit 0 = true ∧
    (handedValue 0 (.word 0xFFF9 2)).testBit 0 = false :=
  ⟨⟨_, _, rfl, by decide, by decide⟩, ⟨_, rfl, by decide⟩, rfl, by decide, by decide, by decide⟩

theorem witness_DiscardedAndGuardedWrites :
    WellFormed (.hostWrite (.byte 0x0FFF 1)) = true ∧ WellFormed (.hostWrite (.word 0xFFF7 1)) = true ∧
    WellFormed (.registerWriteDiscarded (.word 0xFFFA 1)) = true ∧
    WellFormed (.registerWriteDiscarded (.byte 0xFFFB 1)) = true ∧
    (MemoryOk (reserved 5 [95] base) ∧ WellFormed (.poolBlockWrite (.word 0xEFFF 7)) = true ∧
      (95 : BlockNo).val = ((HostWrite.word 0xEFFF 7).address - 0x9000) / 256 ∧
      (reserved 5 [95] base).blocks[(95 : BlockNo)] = .reserved 5) ∧
    (WellFormed (.poolBlockWrite (.byte 0x9000 7)) = true ∧
      (0 : BlockNo).val = ((HostWrite.byte 0x9000 7).address - 0x9000) / 256 ∧
      ∀ st, base.blocks[(0 : BlockNo)] ≠ .reserved st) := by
  refine ⟨by decide, by decide, by decide, by decide, ⟨memOk (by decide), by decide, by decide, by decide⟩, by decide,
    by decide, by decide⟩

theorem witness_NoticeRegistersAndInterrupt :
    ((0xFFFD : Half) = 0xFFFC ∨ (0xFFFD : Half) = 0xFFFD) ∧ ((0xFFFE : Half) = 0xFFFE ∨ (0xFFFE : Half) = 0xFFFF) ∧
    (5 ≤ 5 ∧ 0xF < 0x10 ∧ 0x572 ≤ 0xFFF ∧ 0xFFF < 0x1000) ∧
    (1 ≤ 95 ∧ 95 < 96 ∧ 0x100 ≤ 0x7FF ∧ 0x7FF < 0x800 ∧ 0x9000 ≤ 0xEFFF ∧ 0xEFFF < 0xF000 ∧ 0xF000 ≤ 0xFFF7 ∧ 0xFFF7 < 0xFFF8) ∧
    (let s := scannerAt (.held (claim 0)) []
     s.ports[(1 : PortNo)].profile = some scannerDev ∧ s.ports[(0 : PortNo)].profile = none ∧
      s.scanners[(1 : PortNo)].state = .held (claim 0) ∧ s.scanners[(0 : PortNo)].lastEnd = none ∧
      ∀ claim, s.scanners[(0 : PortNo)].state ≠ .held claim) ∧
    (after { scannerAt (.held (claim 0)) [] with time := 30000 } (.idleTimerExpiry 1)).scanners[(1 : PortNo)].lastEnd =
      some (.expired, 7) := by
  refine ⟨by decide, by decide, by decide, by decide, ⟨by decide, by decide, by decide, by decide, nofun⟩, by decide⟩

theorem witness_CardWrites :
    MemoryOk base ∧ ((0x1041 : Half).toNat = cardAddress 0 + 1 ∧ (0x109F : Half).toNat = cardAddress 0 + 95 ∧
      base.cards[(0 : CardNo)] = .empty) ∧
    ((0x38FF : Half).toNat / 2 * 2 = cardAddress 11 + 2 * 47 ∧ 2 * 47 < 96) ∧
    ((0x1042 : Half).toNat / 2 * 2 = cardAddress 0 + 2 * 1) ∧
    ((0x88A0 : Half).toNat = cardAddress 31 ∧ (0x88A1 : Half).toNat / 2 * 2 = cardAddress 31) ∧
    (serving 31 1 [] base).cards[(31 : CardNo)] = .taken := by
  refine ⟨memOk (by decide), by decide, by decide, by decide, by decide, by decide⟩

/-- Station 5 OUT OF SERVICE. -/
def retired5 : State :=
  { base with
    stations := put base.stations 5 { base.stations[(5 : StationNo)] with service := .outOfService }
    delivery := put base.delivery 5 { base.delivery[(5 : StationNo)] with frozen := true } }

theorem witness_TakenMarkWriteMovesAndFlushes :
    (MemoryOk base ∧ RingsOk base ∧ ServiceOk base ∧ WellFormed (.takenMarkWrite (.word 0x8801 1784)) = true ∧
      (15 : StationNo).val = ((HostWrite.word 0x8801 1784).address - 0x1000) / 0x800 ∧ inService base 15 = true) ∧
    let s := retired5
    MemoryOk s ∧ RingsOk s ∧ ServiceOk s ∧ WellFormed (.takenMarkWrite (.byte 0x3800 1)) = true ∧
      (5 : StationNo).val = ((HostWrite.byte 0x3800 1).address - 0x1000) / 0x800 ∧ inService s 5 = false := by
  refine ⟨⟨memOk (by decide), ringsOk (by decide), serviceOk (by decide), by decide, by decide, by decide⟩,
    memOk (by decide +kernel), ringsOk (by decide +kernel), serviceOk (by decide +kernel), by decide, by decide,
    by decide +kernel⟩

/-- Station 5 with 1,760 bytes unread, an owed record, a held lift and a pending move. -/
def heldBack : State :=
  { panelAt [(2, { liveContact with cond := .live bound (some { pos := { x := 9, y := 9 }, stamp := 4 }) }),
      (7, { liveContact with id := 3, cond := .closing bound .cancel })] with
    delivery := put base.delivery 5
      { base.delivery[(5 : StationNo)] with w := 1760, owed := [⟨.printerNote 2 true, 5⟩] } }

/-- The owed record goes first, then contact 7's end, then contact 2's move; a mark of 16 makes room for two of them, one of 32
for all three (R172). -/
theorem witness_Flush :
    (RingsOk heldBack ∧ ServiceOk heldBack ∧ inService heldBack 5 = true ∧
      (heldItems 5 heldBack).map (fun x => recordKind x.record) = [0x04, 0x0B, 0x09]) ∧
    ((after heldBack (.takenMarkWrite (.word 0x3800 16))).contacts[(7 : ContactNo)] = none ∧
      (after heldBack (.takenMarkWrite (.word 0x3800 16))).contacts[(2 : ContactNo)] = heldBack.contacts[(2 : ContactNo)]) ∧
    (after heldBack (.takenMarkWrite (.word 0x3800 32))).contacts[(2 : ContactNo)] =
      some { liveContact with
        cond := .live { bound with last := { pos := { x := 9, y := 9 }, stamp := 4 } } none } := by
  refine ⟨⟨ringsOk (by decide +kernel), serviceOk (by decide +kernel), by decide, by decide +kernel⟩,
    by decide +kernel, by decide +kernel⟩

/-- Card 10 POSTED with a kind, at the head of the list. -/
def postedCard (kind : Byte) : State :=
  { base with posting := [10, 3], cards := put (put base.cards 10 .posted) 3 .posted, mem := [(cardAddress 10 + 1, kind)] }

theorem witness_TakeCardAppliesTheCommonChecks :
    MemoryOk (postedCard 0x20) ∧ (postedCard 0x20).posting = 10 :: [3] ∧ (postedCard 0x20).part ≠ .stopped ∧
      (postedCard 0x20).serving = none ∧ requestKind? (cardByte (postedCard 0x20) 10 1) = some .setPermits ∧
      requestKind? (cardByte (postedCard 0x08) 10 1) = none ∧
      requestKind? (cardByte (postedCard 0x01) 10 1) = some .reserve ∧ State.reset.part = .stopped ∧
      (serving 10 0x01 [2] base).serving ≠ none ∧ base.posting = [] := by
  refine ⟨memOk (by decide), by decide, by decide, by decide, by decide, by decide, by decide, by decide, by decide, by decide⟩

theorem serving_reserve : Serving .reserve 10 (serving 10 0x01 [2] base) := ⟨rfl, by decide⟩

theorem witness_ServedRequestsAreAnswered :
    (MemoryOk (serving 10 0x01 [2] base) ∧ RingsOk (serving 10 0x01 [2] base) ∧
      Serving .reserve 10 (serving 10 0x01 [2] base)) ∧ ∀ c, ¬ Serving .reserve c base :=
  ⟨⟨memOk (by decide), ringsOk (by decide), serving_reserve⟩, fun _ h => nomatch h.1⟩

theorem witness_ReserveTakesTheHead :
    (let s := serving 10 0x01 [32] base
    MemoryOk s ∧ PoolOk s ∧ Serving .reserve 10 s ∧ 1 ≤ cardNum s 10 8 ∧ cardNum s 10 8 ≤ 32 ∧
      s.stations[cardStation 10].holdings + cardNum s 10 8 ≤ s.stations[cardStation 10].quota ∧
      cardNum s 10 8 ≤ s.free.length) := by
  refine ⟨memOk (by decide), poolOk (by decide +kernel), ⟨rfl, by decide⟩, by decide, by decide, by decide, by decide⟩

theorem witness_ReserveRefusals :
    (Serving .reserve 10 (serving 10 0x01 [0] base) ∧ ¬ (1 ≤ cardNum (serving 10 0x01 [0] base) 10 8)) ∧
    (Serving .reserve 10 (serving 10 0x01 [33] base) ∧ ¬ (cardNum (serving 10 0x01 [33] base) 10 8 ≤ 32)) ∧
    (let s := serving 10 0x01 [32] (reserved 5 [1] base)
     MemoryOk s ∧ Serving .reserve 10 s ∧ cardNum s 10 8 = 32 ∧
      s.stations[cardStation 10].quota < s.stations[cardStation 10].holdings + cardNum s 10 8) ∧
    (let s := serving 10 0x01 [1] { base with free := [] }
     MemoryOk s ∧ Serving .reserve 10 s ∧ cardNum s 10 8 = 1 ∧
      s.stations[cardStation 10].holdings + cardNum s 10 8 ≤ s.stations[cardStation 10].quota ∧
      s.free.length < cardNum s 10 8) := by
  refine ⟨⟨⟨rfl, by decide⟩, by decide⟩, ⟨⟨rfl, by decide⟩, by decide⟩,
    ⟨memOk (by decide), ⟨rfl, by decide⟩, by decide, by decide⟩, memOk (by decide), ⟨rfl, by decide⟩, by decide,
    by decide, by decide⟩

theorem witness_UnreserveReturnsBlocks :
    (let s := serving 10 0x02 [2, 3, 1] (reserved 5 [1, 3] base)
     MemoryOk s ∧ Serving .unreserve 10 s ∧ cardNum s 10 8 = [3, 1].length ∧
      cardList s 10 9 2 = ([3, 1] : List BlockNo).map Fin.val ∧ ([3, 1] : List BlockNo).Nodup ∧
      ∀ b ∈ ([3, 1] : List BlockNo), s.blocks[b] = .reserved (cardStation 10)) ∧
    (Serving .unreserve 10 (serving 10 0x02 [33] base) ∧ 32 < cardNum (serving 10 0x02 [33] base) 10 8) ∧
    (let s := serving 10 0x02 [2, 3, 96] (reserved 5 [1, 3] base)
     MemoryOk s ∧ Serving .unreserve 10 s ∧ ([3] : List BlockNo).length < cardNum s 10 8 ∧
      cardList s 10 9 2 = ([3] : List BlockNo).map Fin.val ++ [96] ∧
      (∀ b ∈ ([3] : List BlockNo), s.blocks[b] = .reserved (cardStation 10)) ∧
      ∀ b : BlockNo, b.val = 96 → s.blocks[b] = .reserved (cardStation 10) → b ∈ ([3] : List BlockNo)) := by
  refine ⟨⟨memOk (by decide), ⟨rfl, by decide⟩, by decide, by decide, by decide, by decide⟩, ⟨⟨rfl, by decide⟩, by decide⟩,
    memOk (by decide), ⟨rfl, by decide⟩, by decide, by decide, by decide, fun b h => absurd h (by omega)⟩

theorem witness_SubmitQueuesAJob :
    let s := submitState { idlePrinter .held with current := some 9 }
    MemoryOk s ∧ Serving .submit 10 s ∧ cardNum s 10 8 = (2 : PortNo).val ∧ attached s.printers[(2 : PortNo)] = true ∧
      s.printers[(2 : PortNo)].state ≠ .idle ∧ permitted s (cardStation 10) 2 = true ∧
      class? (cardNum s 10 9) = some .short ∧ cardNum s 10 11 = [6].length ∧
      cardList s 10 15 1 = ([6] : List BlockNo).map Fin.val ∧ s.blocks[(6 : BlockNo)] = .reserved (cardStation 10) ∧
      (1 - 1) * 256 < cardHalfNum s 10 12 ∧ cardHalfNum s 10 12 ≤ 1 * 256 ∧ cardNum s 10 14 = 1 ∧
      pageWalk s.mem [6] (cardHalfNum s 10 12) (cardNum s 10 14) (cardNum s 10 14) 0 0 = none ∧
      s.jobs[(0 : JobNo)].state = .free ∧ s.printers[(2 : PortNo)].queue.length < 12 := by
  refine ⟨memOk (by decide), ⟨rfl, by decide⟩, by decide, by decide, by decide, by decide, by decide, by decide, by decide,
    by decide, by decide, by decide, by decide, by decide, by decide, by decide⟩

theorem witness_SubmitAtAnIdlePrinter :
    let s := submitState (idlePrinter .idle)
    MemoryOk s ∧ Serving .submit 10 s ∧ attached s.printers[(2 : PortNo)] = true ∧ s.printers[(2 : PortNo)].state = .idle ∧
      s.printers[(2 : PortNo)].queue = [] ∧ s.printers[(2 : PortNo)].suspended = none := by
  refine ⟨memOk (by decide), ⟨rfl, by decide⟩, by decide, by decide, by decide, by decide⟩

/-- The outcome and the detail that a command leaves in a card. -/
def answerOf (c : CardNo) (i : Instr) (s : State) : Byte × Byte := (cardByte (after s i) c 4, cardByte (after s i) c 5)

/-- A SUBMIT of station 5 or of another card with the arguments given, at a HELD printer. -/
def submitOf (c : CardNo) (args : List Byte) : State :=
  serving c 0x03 args
    { reserved 5 [6] base with
      printers := put base.printers 2 (idlePrinter .held), mem := writeBytes base.mem 0x9600 [100, 0, 1, 7, 0, 0, 0, 0] }

/-- Each check of R38 is the first to fail somewhere: port 8; a withdrawn permit; class 3; PRIORITY from station 5; no block;
block 6 twice; 257 bytes in one block; no page; data left, and a page of length 0; no FREE record; a queue of twelve. -/
theorem witness_SubmitRefusals :
    (let s := submitOf 10 [8, 1, 1, 1, 104, 0, 1, 6]
     MemoryOk s ∧ Serving .submit 10 s ∧ answerOf 10 .submit s = (0x07, 0)) ∧
    (let s := submitOf 10 [2, 3, 1, 1, 104, 0, 1, 6]
     answerOf 10 .submit (updStation s 5 fun r => { r with permits := 0xFB }) = (0x05, 0) ∧
      answerOf 10 .submit s = (0x03, 0xFC)) ∧
    answerOf 10 .submit (submitOf 10 [2, 0, 1, 1, 104, 0, 1, 6]) = (0x05, 1) ∧
    answerOf 10 .submit (submitOf 10 [2, 1, 1, 0, 104, 0, 1, 6]) = (0x03, 0xFF) ∧
    answerOf 10 .submit (submitOf 10 [2, 1, 1, 2, 104, 1, 1, 6, 6]) = (0x03, 1) ∧
    answerOf 10 .submit (submitOf 10 [2, 1, 1, 1, 1, 1, 1, 6]) = (0x03, 0xFE) ∧
    answerOf 10 .submit (submitOf 10 [2, 1, 1, 1, 104, 0, 0, 6]) = (0x03, 0xFD) ∧
    answerOf 10 .submit (submitOf 10 [2, 1, 1, 1, 105, 0, 1, 6]) = (0x0F, 1) ∧
    answerOf 10 .submit (submitOf 10 [2, 1, 1, 1, 108, 0, 2, 6]) = (0x0F, 1) ∧
    (let s := submitOf 10 [2, 1, 1, 1, 104, 0, 1, 6]
     answerOf 10 .submit { s with jobs := Vector.replicate 32 (job .waiting) } = (0x0A, 0) ∧
      answerOf 10 .submit (updPrinter s 2 fun r => { r with queue := List.replicate 12 1 }) = (0x0A, 1)) := by
  refine ⟨⟨memOk (by decide +kernel), ⟨rfl, by decide⟩, by decide +kernel⟩, by decide +kernel, by decide +kernel,
    by decide +kernel, by decide +kernel, by decide +kernel, by decide +kernel, by decide +kernel, by decide +kernel,
    by decide +kernel⟩

theorem witness_CancelEndsAPrintingJob :
    (let s := serving 10 0x04 [4, 9, 0] heldPrinter
     MemoryOk s ∧ RingsOk s ∧ JobsOk s ∧ Serving .cancelJob 10 s ∧ s.jobs[(4 : JobNo)].state = .printing ∧
      s.printers[(2 : PortNo)].state = .held) ∧
    (let s := serving 10 0x04 [4, 9, 0] detached
     JobsOk s ∧ s.printers[(2 : PortNo)].state = .detached) ∧
    (let s := serving 10 0x04 [4, 9, 0] (atPrinter { idlePrinter .quiesced with current := some 4 } (job .printing) base)
     JobsOk s ∧ s.printers[(2 : PortNo)].state = .quiesced ∧ s.printers[(2 : PortNo)].page = none) ∧
    (let s := serving 10 0x04 [4, 9, 0] (atPrinter (sendingPage .data) { job .printing with cancelPending := true } base)
     JobsOk s ∧ s.jobs[(4 : JobNo)].cancelPending = true ∧ s.printers[(2 : PortNo)].state = .sending) ∧
    (let s := serving 10 0x04 [4, 9, 0] (atPrinter { sendingPage .data with state := .quiesced } (job .printing) base)
     JobsOk s ∧ s.printers[(2 : PortNo)].state = .quiesced ∧ s.printers[(2 : PortNo)].page ≠ none) := by
  refine ⟨⟨memOk (by decide), ringsOk (by decide), jobsOk (by decide +kernel) (by decide +kernel), ⟨rfl, by decide⟩,
    by decide, by decide⟩, ⟨jobsOk (by decide +kernel) (by decide +kernel), by decide⟩,
    ⟨jobsOk (by decide +kernel) (by decide +kernel), by decide, by decide⟩,
    ⟨jobsOk (by decide +kernel) (by decide +kernel), by decide, by decide⟩,
    jobsOk (by decide +kernel) (by decide +kernel), by decide, by decide⟩

/-- Each check of R46, R72 and R89 is the first to fail somewhere. -/
theorem witness_Refusals :
    (let s := serving 10 0x04 [32, 9, 0] (printing .data)
     MemoryOk s ∧ Serving .cancelJob 10 s ∧ answerOf 10 .cancelJob s = (0x03, 0)) ∧
    answerOf 10 .cancelJob (serving 10 0x04 [4, 8, 0] (printing .data)) = (0x0D, 0) ∧
    answerOf 8 .cancelJob (serving 8 0x04 [4, 9, 0] (printing .data)) = (0x05, 0) ∧
    (let s := serving 10 0x05 [1] heldPrinter
     MemoryOk s ∧ Serving .clearPrinter 10 s ∧ answerOf 10 .clearPrinter s = (0x07, 0)) ∧
    answerOf 10 .clearPrinter (serving 10 0x05 [2] (printing .data)) = (0x0E, 0) ∧
    answerOf 8 .clearPrinter (serving 8 0x05 [2] heldPrinter) = (0x05, 0) ∧
    (let s := serving 10 0x06 [1, 0, 0, 0, 1] { scannerAt .free [] with scanMode := .quiet }
     MemoryOk s ∧ Serving .claim 10 s ∧ answerOf 10 .claim s = (0x11, 0)) ∧
    answerOf 10 .claim (serving 10 0x06 [2, 0, 0, 0, 1] (scannerAt .free [])) = (0x07, 0) ∧
    answerOf 10 .claim (serving 10 0x06 [1, 0, 0, 0, 1]
      (updStation (scannerAt .free []) 5 fun r => { r with permits := 0xFD })) = (0x05, 0) ∧
    answerOf 10 .claim (serving 10 0x06 [1, 0, 0, 0, 1] (scannerAt (.held (claim 0)) [])) = (0x0E, 0) := by
  refine ⟨⟨memOk (by decide), ⟨rfl, by decide⟩, by decide +kernel⟩, by decide +kernel, by decide +kernel,
    ⟨memOk (by decide), ⟨rfl, by decide⟩, by decide +kernel⟩, by decide +kernel, by decide +kernel,
    ⟨memOk (by decide), ⟨rfl, by decide⟩, by decide +kernel⟩, by decide +kernel, by decide +kernel, by decide +kernel⟩

/-- Each check of R105 is the first to fail somewhere; zone 4 of port 3 covers x 0 to 2047. -/
theorem witness_SetZoneRefusals :
    (let s := serving 0 0x25 [16, 8] (panelAt [])
     MemoryOk s ∧ Serving .setZone 0 s ∧ answerOf 0 .setZone s = (0x03, 0)) ∧
    answerOf 0 .setZone (serving 0 0x25 [15, 8] (panelAt [])) = (0x03, 1) ∧
    answerOf 0 .setZone (serving 0 0x25 [15, 7, 1, 0, 0, 0, 1, 0, 1, 0, 16] (panelAt [])) = (0x03, 2) ∧
    answerOf 0 .setZone (serving 0 0x25 [15, 7, 0, 0, 0, 0, 1, 0, 1, 0, 16] (panelAt [])) = (0x03, 3) ∧
    answerOf 0 .setZone (serving 0 0x25 [15, 7, 0, 0, 0, 0, 1, 0, 1, 0, 15, 4] (panelAt [])) = (0x03, 4) ∧
    answerOf 0 .setZone (serving 0 0x25 [15, 7, 0, 0, 0, 0, 1, 0, 1, 0, 15, 3, 1, 0, 1, 16] (panelAt [])) = (0x03, 5) ∧
    answerOf 0 .setZone (serving 0 0x25 [15, 3, 0, 0, 0, 0, 1, 0, 1, 0, 15, 3, 1, 0, 1, 0]
      { panelAt [] with zones := Vector.ofFn fun z => if z.val < 8 then some zone4 else none }) = (0x0A, 0) ∧
    answerOf 0 .setZone (serving 0 0x25 [15, 3, 0xFF, 7, 0, 0, 0, 8, 1, 0, 15, 3, 1, 0, 1, 0] (panelAt [])) = (0x10, 4) := by
  refine ⟨⟨memOk (by decide), ⟨rfl, by decide⟩, by decide +kernel⟩, by decide +kernel, by decide +kernel,
    by decide +kernel, by decide +kernel, by decide +kernel, by decide +kernel, by decide +kernel⟩

theorem witness_CancelEndsOrMarksAJob :
    (let s := serving 10 0x04 [4, 9, 0] (atPrinter { idlePrinter .held with queue := [4] } (job .waiting) base)
     MemoryOk s ∧ RingsOk s ∧ JobsOk s ∧ Serving .cancelJob 10 s ∧ cardNum s 10 8 = (4 : JobNo).val ∧
      cardHalf s 10 9 = s.jobs[(4 : JobNo)].serial ∧ s.jobs[(4 : JobNo)].owner = some (cardStation 10) ∧
      s.jobs[(4 : JobNo)].cancelPending = false ∧ s.jobs[(4 : JobNo)].state = .waiting) ∧
    (let s := serving 0 0x04 [4, 9, 0] (printing .data)
     MemoryOk s ∧ RingsOk s ∧ JobsOk s ∧ Serving .cancelJob 0 s ∧ cardNum s 0 8 = (4 : JobNo).val ∧
      cardHalf s 0 9 = s.jobs[(4 : JobNo)].serial ∧ cardStation 0 = 0 ∧ s.jobs[(4 : JobNo)].cancelPending = false ∧
      s.jobs[(4 : JobNo)].state = .printing ∧ s.printers[s.jobs[(4 : JobNo)].port].state = .sending) := by
  refine ⟨⟨memOk (by decide), ringsOk (by decide), jobsOk (by decide +kernel) (by decide +kernel), ⟨rfl, by decide⟩,
    by decide, by decide, by decide, by decide, by decide⟩, memOk (by decide), ringsOk (by decide),
    jobsOk (by decide +kernel) (by decide +kernel), ⟨rfl, by decide⟩, by decide, by decide, by decide, by decide, by decide,
    by decide⟩

theorem witness_ClearPrinterSendsAgain :
    (let s := serving 10 0x05 [2] heldPrinter
     MemoryOk s ∧ Serving .clearPrinter 10 s ∧ cardNum s 10 8 = (2 : PortNo).val ∧
      s.printers[(2 : PortNo)].state = .held ∧ s.printers[(2 : PortNo)].current = some 4 ∧
      s.jobs[(4 : JobNo)].owner = some (cardStation 10) ∧ s.printMode = .running ∧ s.ports[(2 : PortNo)].link = .up) ∧
    (let s := serving 0 0x05 [2] { heldPrinter with printMode := .quiet }
     Serving .clearPrinter 0 s ∧ cardStation 0 = 0 ∧ s.printMode = .quiet) := by
  refine ⟨⟨memOk (by decide), ⟨rfl, by decide⟩, by decide, by decide, by decide, by decide, by decide, by decide⟩,
    ⟨rfl, by decide⟩, by decide, by decide⟩

theorem witness_ClaimGrantsOrWaits :
    (let s := serving 10 0x06 [1, 3, 0, 2, 0] (scannerAt .free [])
     MemoryOk s ∧ Serving .claim 10 s ∧ s.scanMode = .running ∧ cardNum s 10 8 = (1 : PortNo).val ∧
      permitted s (cardStation 10) 1 = true ∧ s.scanners[(1 : PortNo)].state = .free ∧
      cardStation 10 ∉ s.scanners[(1 : PortNo)].queue.map Wait.station) ∧
    (let s := serving 6 0x06 [1, 0, 0, 0, 1] (scannerAt (.held (claim 0)) [])
     Serving .claim 6 s ∧ s.scanners[(1 : PortNo)].state = .held (claim 0) ∧ (claim 0).holder ≠ cardStation 6 ∧
      cardNum s 6 12 ≠ 0 ∧ s.scanners[(1 : PortNo)].queue.length < 4) ∧
    (let s := serving 6 0x06 [1, 0, 0, 0, 1] (scannerAt (.held (claim 0)) [⟨1, 9, 0⟩, ⟨2, 9, 0⟩, ⟨4, 9, 0⟩, ⟨6, 9, 0⟩])
     Serving .claim 6 s ∧ cardStation 6 ∉ s.scanners[(1 : PortNo)].queue.map Wait.station ∧
      4 ≤ s.scanners[(1 : PortNo)].queue.length) ∧
    (let s := serving 6 0x06 [1, 0, 0, 0, 0] (scannerAt (.held (claim 0)) [])
     Serving .claim 6 s ∧ cardNum s 6 12 = 0) := by
  refine ⟨⟨memOk (by decide), ⟨rfl, by decide⟩, by decide, by decide, by decide, by decide, by decide⟩,
    ⟨⟨rfl, by decide⟩, by decide, by decide, by decide, by decide⟩, ⟨⟨rfl, by decide⟩, by decide, by decide⟩,
    ⟨rfl, by decide⟩, by decide⟩

theorem witness_ReleasePassesTheScannerOn :
    (let s := serving 10 0x07 [1] (scannerAt (.held (claim 0)) [⟨3, 9, 1⟩])
     MemoryOk s ∧ RingsOk s ∧ Serving .release 10 s ∧ cardNum s 10 8 = (1 : PortNo).val ∧
      s.scanners[(1 : PortNo)].state = .held (claim 0) ∧ (claim 0).holder = cardStation 10 ∧
      s.scanners[(1 : PortNo)].queue = ⟨3, 9, 1⟩ :: []) ∧
    (let s := serving 10 0x07 [1] (scannerAt (.held (claim 0)) [])
     Serving .release 10 s ∧ s.scanners[(1 : PortNo)].queue = []) ∧
    (let s := serving 6 0x07 [1] (scannerAt (.held (claim 0)) [⟨3, 9, 1⟩])
     Serving .release 6 s ∧ (claim 0).holder ≠ cardStation 6 ∧
      cardStation 6 ∈ s.scanners[(1 : PortNo)].queue.map Wait.station) ∧
    (let s := serving 8 0x07 [1] (scannerAt (.held (claim 0)) [⟨3, 9, 1⟩])
     Serving .release 8 s ∧ (claim 0).holder ≠ cardStation 8 ∧
      cardStation 8 ∉ s.scanners[(1 : PortNo)].queue.map Wait.station) := by
  refine ⟨⟨memOk (by decide), ringsOk (by decide), ⟨rfl, by decide⟩, by decide, by decide, by decide, by decide⟩,
    ⟨⟨rfl, by decide⟩, by decide⟩, ⟨⟨rfl, by decide⟩, by decide, by decide⟩, ⟨rfl, by decide⟩, by decide, by decide⟩

theorem witness_ReleaseRefusals :
    (let s := serving 10 0x07 [8] base
     MemoryOk s ∧ Serving .release 10 s ∧ 7 < cardNum s 10 8) ∧
    (let s := serving 10 0x07 [7] base
     MemoryOk s ∧ Serving .release 10 s ∧ cardNum s 10 8 = (7 : PortNo).val ∧ s.scanners[(7 : PortNo)].state = .absent) ∧
    (let s := serving 10 0x07 [1] (scannerAt .free [])
     MemoryOk s ∧ Serving .release 10 s ∧ s.scanners[(1 : PortNo)].state = .free) := by
  refine ⟨⟨memOk (by decide), ⟨rfl, by decide⟩, by decide⟩, ⟨memOk (by decide), ⟨rfl, by decide⟩, by decide, by decide⟩,
    memOk (by decide), ⟨rfl, by decide⟩, by decide⟩

theorem witness_SetPermitsWithdrawsScanners :
    (let s := serving 0 0x20 [5, 0xFD] (scannerAt (.held (claim 0)) [⟨3, 9, 1⟩])
     MemoryOk s ∧ RingsOk s ∧ ScannersOk s ∧ Serving .setPermits 0 s ∧ cardNum s 0 8 = (5 : StationNo).val ∧
      s.stations[(5 : StationNo)].permits.getLsbD 1 = true ∧ (cardByte s 0 9).getLsbD 1 = false ∧
      s.scanners[(1 : PortNo)].state = .held (claim 0) ∧ (cardByte s 0 9).getLsbD 7 = true) ∧
    (Serving .setPermits 0 (serving 0 0x20 [16, 0] base) ∧ 15 < cardNum (serving 0 0x20 [16, 0] base) 0 8) := by
  refine ⟨⟨memOk (by decide), ringsOk (by decide), scannersOk (by decide), ⟨rfl, by decide⟩, by decide, by decide, by decide,
    by decide, by decide⟩, ⟨rfl, by decide⟩, by decide⟩

theorem witness_RetirementGivesEverythingUp :
    let s := serving 0 0x21 [5, 0] (printing .closed)
    MemoryOk s ∧ RingsOk s ∧ CardsOk s ∧ JobsOk s ∧ PrintersOk s ∧ ScannersOk s ∧ Serving .setService 0 s ∧
      cardStation 0 = 0 ∧ (5 : StationNo) ≠ 0 ∧ cardNum s 0 8 = (5 : StationNo).val ∧ cardNum s 0 9 = 0 ∧
      inService s 5 = true := by
  refine ⟨memOk (by decide), ringsOk (by decide), cardsOk (by decide), jobsOk (by decide +kernel) (by decide +kernel),
    printersOk (by decide), scannersOk (by decide), ⟨rfl, by decide⟩, by decide, by decide, by decide, by decide, by decide⟩

/-- Station 5 about to be retired: job 4 at a printer in a state without a page in flight, card 11 POSTED, and the scanner of
port 1 held, with station 3 waiting. -/
def retiring (state : PrinterState) (hold : Option Cause) : State :=
  let s := scannerAt (.held (claim 0)) [⟨3, 9, 1⟩]
  { serving 0 0x21 [5, 0] (atPrinter { idlePrinter state with current := some 4, hold := hold } (job .printing)
      { s with cards := put s.cards 11 .posted }) with posting := [11] }

theorem retiring_premises {state : PrinterState} {hold : Option Cause}
    (h : (state, hold) = (.held, some .jam) ∨ (state, hold) = (.quiesced, none) ∨ (state, hold) = (.detached, none)) :
    let s := retiring state hold
    MemoryOk s ∧ RingsOk s ∧ CardsOk s ∧ JobsOk s ∧ PrintersOk s ∧ ScannersOk s ∧ Serving .setService 0 s ∧
      cardNum s 0 8 = (5 : StationNo).val ∧ cardNum s 0 9 = 0 ∧ inService s 5 = true ∧ 4 ∈ stoppedJobs 5 s ∧
      s.printers[(2 : PortNo)].current = some 4 ∧ s.cards[(11 : CardNo)] = .posted ∧ cardStation 11 = 5 ∧
      holds s.scanners[(1 : PortNo)] 5 = true ∧ (retiredBlocks 5 s).Nodup ∧
      ∀ b ∈ retiredBlocks 5 s, s.blocks[b] ≠ .free := by
  rcases h with h | h | h <;> cases h <;>
    exact ⟨memOk (by decide +kernel), ringsOk (by decide +kernel), cardsOk (by decide +kernel),
      jobsOk (by decide +kernel) (by decide +kernel), printersOk (by decide +kernel), scannersOk (by decide +kernel),
      ⟨rfl, by decide +kernel⟩, by decide +kernel, by decide +kernel, by decide +kernel, by decide +kernel,
      by decide +kernel, by decide +kernel, by decide, by decide +kernel, by decide +kernel, by decide +kernel⟩

/-- R12, R13: each of them ends at once, and the waiter is granted the scanner. -/
theorem witness_RetirementEndsAtOnce :
    (let s := retiring .held (some .jam)
     MemoryOk s ∧ 4 ∈ stoppedJobs 5 s ∧ (after s .setService).printers[(2 : PortNo)].state = .idle ∧
      holds (after s .setService).scanners[(1 : PortNo)] 3 = true) ∧
    (MemoryOk (retiring .quiesced none) ∧ 4 ∈ stoppedJobs 5 (retiring .quiesced none)) ∧
    (MemoryOk (retiring .detached none) ∧ 4 ∈ stoppedJobs 5 (retiring .detached none)) := by
  have a := retiring_premises (.inl rfl)
  have b := retiring_premises (state := .quiesced) (hold := none) (.inr (.inl rfl))
  have c := retiring_premises (state := .detached) (hold := none) (.inr (.inr rfl))
  exact ⟨⟨a.1, a.2.2.2.2.2.2.2.2.2.2.1, by decide +kernel, by decide +kernel⟩, ⟨b.1, b.2.2.2.2.2.2.2.2.2.2.1⟩, c.1,
    c.2.2.2.2.2.2.2.2.2.2.1⟩

theorem witness_ReinstatementRestartsTheRing :
    (let s := serving 0 0x21 [5, 1] retired5
     MemoryOk s ∧ Serving .setService 0 s ∧ cardNum s 0 8 = (5 : StationNo).val ∧ cardNum s 0 9 = 1 ∧
      inService s 5 = false) ∧
    (let s := serving 0 0x21 [15, 1] base
     Serving .setService 0 s ∧ cardNum s 0 8 = (15 : StationNo).val ∧ cardNum s 0 9 = 1 ∧ inService s 15 = true) ∧
    (let s := serving 0 0x21 [5, 0] retired5
     Serving .setService 0 s ∧ cardNum s 0 9 = 0 ∧ inService s 5 = false ∧ (5 : StationNo) ≠ 0) ∧
    (Serving .setService 0 (serving 0 0x21 [16, 1] base) ∧ 15 < cardNum (serving 0 0x21 [16, 1] base) 0 8) ∧
    (Serving .setService 0 (serving 0 0x21 [5, 2] base) ∧ 1 < cardNum (serving 0 0x21 [5, 2] base) 0 9) ∧
    (let s := serving 0 0x21 [0, 0] base
     Serving .setService 0 s ∧ cardNum s 0 8 = 0 ∧ cardNum s 0 9 = 0) := by
  refine ⟨⟨memOk (by decide), ⟨rfl, by decide⟩, by decide, by decide, by decide⟩,
    ⟨⟨rfl, by decide⟩, by decide, by decide, by decide⟩, ⟨⟨rfl, by decide⟩, by decide, by decide, by decide⟩,
    ⟨⟨rfl, by decide⟩, by decide⟩, ⟨⟨rfl, by decide⟩, by decide⟩, ⟨rfl, by decide⟩, by decide, by decide⟩

theorem witness_SettingsAreStoredWithinLimits :
    (let s := serving 0 0x22 [15, 97, 0] base
     MemoryOk s ∧ Serving .setQuota 0 s ∧ cardNum s 0 8 = (15 : StationNo).val ∧ 96 < cardHalfNum s 0 9) ∧
    (Serving .setQuota 0 (serving 0 0x22 [16, 97, 0] base) ∧ 15 < cardNum (serving 0 0x22 [16, 97, 0] base) 0 8) ∧
    (let s := serving 0 0x23 [7, 4, 0, 0] base
     MemoryOk s ∧ Serving .setPrinter 0 s ∧ cardNum s 0 8 = (7 : PortNo).val ∧ cardNum s 0 9 < 5) ∧
    (let s := serving 0 0x24 [7, 4, 0, 0x59, 2, 15, 11] base
     MemoryOk s ∧ Serving .setScanner 0 s ∧ cardNum s 0 8 = (7 : PortNo).val ∧ cardNum s 0 13 = (15 : StationNo).val) ∧
    (let s := serving 0 0x24 [7, 4, 0, 0x59, 2, 0xFF, 11] base
     Serving .setScanner 0 s ∧ cardNum s 0 13 = 0xFF) ∧
    (Serving .setPrinter 0 (serving 0 0x23 [8] base) ∧ 7 < cardNum (serving 0 0x23 [8] base) 0 8) ∧
    (Serving .setScanner 0 (serving 0 0x24 [8] base) ∧ 7 < cardNum (serving 0 0x24 [8] base) 0 8) ∧
    (let s := serving 0 0x24 [7, 4, 0, 0x59, 2, 16, 11] base
     Serving .setScanner 0 s ∧ cardNum s 0 8 ≤ 7 ∧ 15 < cardNum s 0 13 ∧ cardNum s 0 13 ≠ 0xFF) := by
  refine ⟨⟨memOk (by decide), ⟨rfl, by decide⟩, by decide, by decide⟩, ⟨⟨rfl, by decide⟩, by decide⟩,
    ⟨memOk (by decide), ⟨rfl, by decide⟩, by decide, by decide⟩, ⟨memOk (by decide), ⟨rfl, by decide⟩, by decide, by decide⟩,
    ⟨⟨rfl, by decide⟩, by decide⟩, ⟨⟨rfl, by decide⟩, by decide⟩, ⟨⟨rfl, by decide⟩, by decide⟩, ⟨rfl, by decide⟩, by decide,
    by decide, by decide⟩

theorem witness_SetZoneMakesAZoneActive :
    let s := serving 0 0x25 [4, 3, 0, 0, 0, 0, 0, 8, 0, 16, 5, 0, 0, 4, 0, 8, 8, 1] (panelAt [])
    MemoryOk s ∧ Serving .setZone 0 s ∧ cardNum s 0 8 = (4 : ZoneNo).val ∧ cardNum s 0 9 = (3 : PortNo).val ∧
      cardNum s 0 18 = (5 : StationNo).val ∧ cardNum s 0 19 = 0 ∧
      map4 = { x0 := cardHalfNum s 0 10, y0 := cardHalfNum s 0 12, x1 := cardHalfNum s 0 14, y1 := cardHalfNum s 0 16
               orientation := .r0, width := cardHalfNum s 0 20, height := cardHalfNum s 0 22
               threshold := cardNum s 0 24 } ∧
      MappingOk map4 ∧ ((activeZones s 3).filter (· ≠ 4)).length < 8 ∧
      ∀ (y : ZoneNo) a, s.zones[y] = some a → y ≠ 4 → a.port = 3 →
        ¬ (map4.x0 < a.map.x1 ∧ a.map.x0 < map4.x1 ∧ map4.y0 < a.map.y1 ∧ a.map.y0 < map4.y1) := by
  refine ⟨memOk (by decide), ⟨rfl, by decide⟩, by decide, by decide, by decide, by decide, by decide, ?_, by decide, ?_⟩
  · unfold MappingOk; decide
  · exact fun y a hy hn => absurd
      (every (P := fun (y : ZoneNo) (_ : Zone) => y = 4) (fun y _ => decide (y = 4)) (fun _ _ h => of_decide_eq_true h)
        (by decide) y a hy) hn

theorem witness_ClearZoneMakesAZoneUnused :
    (let s := serving 0 0x26 [4] (panelAt [])
     MemoryOk s ∧ Serving .clearZone 0 s ∧ cardNum s 0 8 = (4 : ZoneNo).val ∧ s.zones[(4 : ZoneNo)] = some zone4) ∧
    (let s := serving 0 0x26 [15] (panelAt [])
     Serving .clearZone 0 s ∧ cardNum s 0 8 = (15 : ZoneNo).val ∧ s.zones[(15 : ZoneNo)] = none) ∧
    (Serving .clearZone 0 (serving 0 0x26 [16] base) ∧ 15 < cardNum (serving 0 0x26 [16] base) 0 8) := by
  refine ⟨⟨memOk (by decide), ⟨rfl, by decide⟩, by decide, by decide⟩, ⟨⟨rfl, by decide⟩, by decide, by decide⟩,
    ⟨rfl, by decide⟩, by decide⟩

theorem witness_SetPortStoresThePaceSet :
    (MemoryOk (serving 0 0x27 [8, 1] base) ∧ Serving .setPort 0 (serving 0 0x27 [8, 1] base) ∧
      7 < cardNum (serving 0 0x27 [8, 1] base) 0 8) ∧
    (let s := serving 0 0x27 [7, 0xF0] base
     Serving .setPort 0 s ∧ cardNum s 0 8 = (7 : PortNo).val ∧ cardNum s 0 9 % 16 = 0) ∧
    (let s := serving 0 0x27 [7, 0xF1] base
     Serving .setPort 0 s ∧ cardNum s 0 8 = (7 : PortNo).val ∧ cardNum s 0 9 % 16 ≠ 0) := by
  refine ⟨⟨memOk (by decide), ⟨rfl, by decide⟩, by decide⟩, ⟨⟨rfl, by decide⟩, by decide, by decide⟩, ⟨rfl, by decide⟩,
    by decide, by decide⟩

theorem witness_AckPortClearsTheLatch :
    (MemoryOk (serving 0 0x28 [8] base) ∧ Serving .ackPort 0 (serving 0 0x28 [8] base) ∧
      7 < cardNum (serving 0 0x28 [8] base) 0 8) ∧
    (let s := serving 0 0x28 [7] (updPort base 7 fun r => { r with link := .failed, lost := true })
     Serving .ackPort 0 s ∧ cardNum s 0 8 = (7 : PortNo).val ∧ s.ports[(7 : PortNo)].link = .failed) ∧
    (let s := serving 0 0x28 [1] (linkUp 1 scannerDev base)
     Serving .ackPort 0 s ∧ cardNum s 0 8 = (1 : PortNo).val ∧ s.ports[(1 : PortNo)].link = .up) := by
  refine ⟨⟨memOk (by decide), ⟨rfl, by decide⟩, by decide⟩, ⟨⟨rfl, by decide⟩, by decide, by decide⟩, ⟨rfl, by decide⟩,
    by decide, by decide⟩

/-! ### Witnesses: quiet hours and links -/

theorem witness_QuietAndWakeMoveThePartState :
    (let s := serving 0 0x29 [] base
     MemoryOk s ∧ RingsOk s ∧ Serving .quiet 0 s ∧ s.part = .running) ∧
    (let s := serving 0 0x29 [] { base with part := .quiet }
     Serving .quiet 0 s ∧ s.part = .quiet) ∧
    (let s := serving 0 0x2A [] { base with part := .quiet }
     MemoryOk s ∧ RingsOk s ∧ Serving .wake 0 s ∧ s.part = .quiet) ∧
    (Serving .wake 0 (serving 0 0x2A [] base) ∧ (serving 0 0x2A [] base).part = .running) ∧
    (let s := { base with part := .quiet, wakeReports := [9] }
     RingsOk s ∧ s.wakeReports = 9 :: [] ∧ s.part = .quiet) ∧
    (let s := { base with wakeReports := [9] }
     RingsOk s ∧ s.wakeReports = 9 :: [] ∧ s.part ≠ .quiet) := by
  refine ⟨⟨memOk (by decide), ringsOk (by decide), ⟨rfl, by decide⟩, by decide⟩, ⟨⟨rfl, by decide⟩, by decide⟩,
    ⟨memOk (by decide), ringsOk (by decide), ⟨rfl, by decide⟩, by decide⟩, ⟨⟨rfl, by decide⟩, by decide⟩,
    ⟨ringsOk (by decide), by decide, by decide⟩, ringsOk (by decide), by decide, by decide⟩

theorem witness_PrintersTakeTheirQuietNotices :
    (let s := { printing .closed with quietPrint := [.enter] }
     s.quietPrint = .enter :: [] ∧ s.printers[(2 : PortNo)].state = .sending) ∧
    (let s := { atPrinter { sendingPage .closed with state := .quiesced } (job .printing) base with quietPrint := [.leave] }
     s.quietPrint = .leave :: [] ∧ s.printers[(2 : PortNo)].state = .quiesced ∧ s.printers[(2 : PortNo)].current ≠ none ∧
      s.printers[(2 : PortNo)].page ≠ none ∧ s.printers[(0 : PortNo)].state ≠ .quiesced) ∧
    (let s := { atPrinter { idlePrinter .quiesced with current := some 4 } (job .printing) base with
      quietPrint := [.leave] }
     s.quietPrint = .leave :: [] ∧ s.printers[(2 : PortNo)].current = some 4 ∧ s.printers[(2 : PortNo)].page = none) ∧
    (let s := { atPrinter { idlePrinter .quiesced with queue := [4] } (job .waiting) base with quietPrint := [.leave] }
     s.printers[(2 : PortNo)].current = none ∧ s.printers[(2 : PortNo)].queue ≠ [] ∧
      ∀ p : PortNo, s.printers[p].state = .quiesced → s.printers[p].current = none →
        nextJob? s s.printers[p] ≠ some 31) ∧
    (let s := { atPrinter (idlePrinter .quiesced) (job .free) base with quietPrint := [.leave] }
     s.printers[(2 : PortNo)].current = none ∧ s.printers[(2 : PortNo)].suspended = none ∧
      s.printers[(2 : PortNo)].queue = []) := by
  refine ⟨by decide, by decide, by decide, by decide, by decide⟩

theorem witness_ScannersAndTouchTakeTheirQuietNotices :
    (let s := { scannerAt (.held (claim 0)) [⟨3, 9, 1⟩] with quietScan := [.enter] }
     s.quietScan = .enter :: [] ∧ s.scanners[(1 : PortNo)].state = .held (claim 0) ∧
      s.scanners[(0 : PortNo)].state = .absent) ∧
    ({ base with quietScan := [.leave] }).quietScan = .leave :: [] ∧
    (let s := { panelAt [(2, liveContact), (0, { liveContact with cond := .closing bound .cancel }),
        (1, { liveContact with id := 3, cond := .ignored none })] with quietTouch := [.enter] }
     s.quietTouch = .enter :: [] ∧ s.contacts[(2 : ContactNo)] = some liveContact ∧
      s.contacts[(0 : ContactNo)] = some { liveContact with cond := .closing bound .cancel } ∧
      s.contacts[(1 : ContactNo)] = some { liveContact with id := 3, cond := .ignored none }) ∧
    ({ base with quietTouch := [.leave] }).quietTouch = .leave :: [] := by
  refine ⟨by decide, by decide, by decide, by decide⟩

theorem witness_AValidGroupStartsAnIntroduction :
    (PortsOk base ∧ base.ports[(5 : PortNo)].link = .down ∧ validGroup 0b11000 = true ∧ base.part ≠ .stopped) ∧
    (PortsOk State.reset ∧ State.reset.ports[(5 : PortNo)].link = .down ∧ State.reset.part = .stopped) ∧
    (let s := linkUp 1 scannerDev base
     PortsOk s ∧ s.ports[(1 : PortNo)].link = .up ∧ s.ports[(1 : PortNo)].rx = none ∧ validGroup 0b00001 = false) := by
  refine ⟨⟨portsOk (by decide), by decide, by decide, by decide⟩, ⟨portsOk (by decide), by decide, by decide⟩,
    portsOk (by decide), by decide, by decide, by decide⟩

/-- Linked ports inside a frame: one nibble short of the babbling one, at it, and at a SHUT with a good frame of PROFILE
SEEN, with a frame of an odd number of groups, and with a good frame of the kind 0xFF. -/
theorem witness_AValidGroupStartsAnIntroduction_inside :
    let receiving := fun frame => updPort (linkUp 1 scannerDev base) 1 fun r => { r with rx := some frame }
    (∀ frame, frame ∈ [List.replicate 200 0, List.replicate 201 0, [2, 0, 0, 0, 0xE, 0xF, 0xF, 0xF], [2, 0, 0],
        [0xF, 0xF, 0, 0, 1, 0, 0xF, 0xF]] →
      PortsOk (receiving frame) ∧ (receiving frame).ports[(1 : PortNo)].link = .up ∧
        (receiving frame).ports[(1 : PortNo)].rx = some frame) ∧
    (List.replicate 200 (0 : BitVec 4)).length < 201 ∧ 201 ≤ (List.replicate 201 (0 : BitVec 4)).length ∧
    GoodFrame [2, 0, 0, 0, 0xE, 0xF, 0xF, 0xF] 2 [] ∧ (.profileSeen 1 [], 2) ∈ frameCommands 1 [] ∧
    (∀ kind payload, ¬ GoodFrame [2, 0, 0] kind payload) ∧
    GoodFrame [0xF, 0xF, 0, 0, 1, 0, 0xF, 0xF] 0xFF [] ∧ (∀ i, (i, 0xFF) ∉ frameCommands 1 []) := by
  refine ⟨?_, by rw [List.length_replicate]; decide, by rw [List.length_replicate], ⟨by decide, 0xFE, 0xFF, by decide, by decide⟩, by simp [frameCommands], ?_,
    ⟨by decide, 0x01, 0xFF, by decide, by decide⟩, by simp [frameCommands]⟩
  · intro frame h
    simp only [List.mem_cons, List.not_mem_nil, or_false] at h
    rcases h with rfl | rfl | rfl | rfl | rfl <;> exact ⟨portsOk (by decide +kernel), by decide, rfl⟩
  · rintro kind payload ⟨-, c0, c1, h, -⟩
    have := congrArg List.length h
    simp [frameBody] at this

theorem witness_FramesByGroupsAreFramesWhole :
    let s := linkUp 1 scannerDev base
    ((Instr.scan 1 (List.replicate 96 7), (0x28 : Byte)) ∈ frameCommands 1 (List.replicate 96 7)) ∧
      (List.replicate 96 (7 : Byte)).length ≤ 96 ∧ s.ports[(1 : PortNo)].link = .up := by
  refine ⟨?_, by decide, by decide⟩
  simp [frameCommands]

theorem witness_FrameCheckIsTheSum :
    let s := linkUp 1 scannerDev base
    ([0x05, 0x40] : List Byte).length ≤ 96 ∧ s.ports[(1 : PortNo)].link = .up ∧
      ((0x31 : Byte).toNat + 2 + (([0x05, 0x40] : List Byte).map BitVec.toNat).sum +
        ((0x88 : Byte).toNat + 256 * (0xFE : Byte).toNat)) % 65536 ≠ 0 := by decide

theorem witness_ProfilesAreCounted :
    (let s := introducingAt (introItems 2 (some scannerProfile) false false)
     scannerProfile.length = 5 ∧ s.ports[(5 : PortNo)].link = .introducing ∧
      s.ports[(5 : PortNo)].intro = some (introItems 2 (some scannerProfile) false false) ∧
      profile? scannerProfile ≠ none ∧ profile? [4, 1, 0, 0, 0] = none) ∧
    (introItems 1 (some scannerProfile) false false).count < 2 ∧
    (introItems 3 (some scannerProfile) true false).seenSent = true ∧
    (introItems 0 none false false).stored ≠ some scannerProfile ∧
    (let s := linkUp 1 scannerDev base
     s.ports[(1 : PortNo)].link = .up ∧ s.ports[(1 : PortNo)].profile = some scannerDev) ∧
    base.ports[(1 : PortNo)].link = .down := by decide

theorem witness_ProfileCompletes :
    (let i := introItems 2 (some scannerProfile) false true
     let s := introducingAt i
     s.ports[(5 : PortNo)].link = .introducing ∧ s.ports[(5 : PortNo)].intro = some i ∧ i.seenReceived = true ∧
      profile? scannerProfile ≠ none ∧ i.stored = some scannerProfile ∧ 2 ≤ i.count ∧ i.seenSent = false ∧
      (after s (.profile 5 scannerProfile)).ports[(5 : PortNo)].link = .up) ∧
    (introItems 1 (some scannerProfile) false true).count < 2 ∧
    ([1, 2, 3] : List Byte).length ≠ 5 ∧ ([1, 2, 3] : List Byte).length ≤ 96 := by
  refine ⟨by decide, by decide, by decide, by decide⟩

theorem witness_IntroductionsComplete :
    (let s := introducingAt (introItems 3 (some scannerProfile) true false)
     s.ports[(5 : PortNo)].link = .introducing ∧
      s.ports[(5 : PortNo)].intro = some (introItems 3 (some scannerProfile) true false) ∧
      profile? scannerProfile = some scannerDev ∧
      (0b0111 &&& scannerDev.paces).getLsbD (1 : Fin 4).val = true ∧
      ∀ m : Fin 4, 1 < m → (0b0111 &&& scannerDev.paces).getLsbD m.val = false) ∧
    (introItems 1 none false false).seenSent = false ∧
    (profile? [1, 0b1000, 0, 0, 2]).map DevProfile.paces = some 0b1000 ∧ (0b0111 : BitVec 4) &&& 0b1000 = 0 ∧
    (linkUp 1 scannerDev base).ports[(1 : PortNo)].link = .up ∧ base.ports[(1 : PortNo)].link = .down := by decide

theorem witness_AttemptAndSilenceTimers :
    (let s := { introducingAt (introItems 3 none true false) with time := 500 }
     s.ports[(5 : PortNo)].link = .introducing ∧ s.ports[(5 : PortNo)].intro = some (introItems 3 none true false)) ∧
    (let s := { linkUp 1 scannerDev base with time := 20 }
     s.ports[(1 : PortNo)].link = .up ∧ s.ports[(1 : PortNo)].silence = some { start := 0, length := 20 } ∧
      20 ≤ (s.time - 0).toNat ∧ s.ports[(1 : PortNo)].profile = some scannerDev) ∧
    (let s := { linkUp 1 scannerDev base with time := 19 }
     s.ports[(1 : PortNo)].silence = some { start := 0, length := 20 } ∧ (s.time - 0).toNat < 20) ∧
    (introducingAt (introItems 3 none true false)).ports[(5 : PortNo)].silence = some { start := 0, length := 20 } := by
  decide

theorem witness_FramesAreSentInOrder :
    (let s := linkUp 1 scannerDev base
     s.ports[(1 : PortNo)].link = .up ∧ s.ports[(1 : PortNo)].line ≠ .frame (.profileSeen true) ∧
      s.ports[(1 : PortNo)].sendList = []) ∧
    (let s := updPort (linkUp 1 scannerDev base) 1 fun r => { r with sendList := [.verdict true, .verdict false] }
     s.ports[(1 : PortNo)].sendList = .verdict true :: [.verdict false]) ∧
    (let s := updPort (linkUp 1 scannerDev base) 1 fun r => { r with pace := 1, line := .frame (.profileSeen true) }
     s.ports[(1 : PortNo)].link = .up ∧ s.ports[(1 : PortNo)].line = .frame (.profileSeen true) ∧
      s.ports[(1 : PortNo)].resolved = some 2) ∧
    base.ports[(1 : PortNo)].link = .down ∧
    (let s := introducingAt (introItems 3 none true false)
     s.ports[(5 : PortNo)].link = .introducing ∧ s.ports[(5 : PortNo)].intro = some (introItems 3 none true false)) := by
  decide

theorem witness_BabbleQuarantinesAPort :
    (let s := updPort { linkUp 1 scannerDev base with time := 999 } 1 fun r => { r with babbleTimes := [0, 500] }
     s.ports[(1 : PortNo)].link = .up ∧ s.ports[(1 : PortNo)].babbleTimes = [0, 500] ∧ (s.time - 0).toNat < 1000 ∧
      s.ports[(1 : PortNo)].profile = some scannerDev) ∧
    (let s := { introducingAt (introItems 3 none true false) with time := 1000 }
     s.ports[(5 : PortNo)].link = .introducing ∧ s.ports[(5 : PortNo)].babbleTimes.length ≤ 2 ∧
      s.ports[(5 : PortNo)].babbleTimes = [] ∧ (List.replicate 202 (7 : BitVec 4)).length = 202) ∧
    base.ports[(1 : PortNo)].link = .down := by
  refine ⟨by decide, ⟨by decide, by decide, by decide, List.length_replicate⟩, by decide⟩

theorem witness_LinkLossesReachTheOwners :
    (let s := { printing .closed with toPrint := put base.toPrint 2 [.loss] }
     s.toPrint[(2 : PortNo)] = .loss :: [] ∧ attached s.printers[(2 : PortNo)] = true ∧
      s.printers[(2 : PortNo)].current = some 4 ∧ s.jobs[(4 : JobNo)].cancelPending = false) ∧
    (let s := { atPrinter (sendingPage .data) { job .printing with cancelPending := true, reason := .cancelled } base with
      toPrint := put base.toPrint 2 [.loss] }
     s.toPrint[(2 : PortNo)] = .loss :: [] ∧ attached s.printers[(2 : PortNo)] = true ∧
      s.printers[(2 : PortNo)].current = some 4 ∧ s.jobs[(4 : JobNo)].cancelPending = true ∧
      s.jobs[(4 : JobNo)].port = 2) ∧
    (let s := { base with toPrint := put base.toPrint 2 [.loss] }
     s.toPrint[(2 : PortNo)] = .loss :: [] ∧ attached s.printers[(2 : PortNo)] = false) ∧
    (let s := { scannerAt (.held (claim 0)) [⟨3, 9, 1⟩] with toScan := put base.toScan 1 [.loss] }
     s.toScan[(1 : PortNo)] = .loss :: [] ∧ s.scanners[(1 : PortNo)].state ≠ .absent) ∧
    (let s := { base with toScan := put base.toScan 1 [.loss] }
     s.toScan[(1 : PortNo)] = .loss :: [] ∧ s.scanners[(1 : PortNo)].state = .absent) ∧
    (let s := { panelAt [(2, liveContact)] with toTouch := put base.toTouch 3 [.loss] }
     s.toTouch[(3 : PortNo)] = .loss :: [] ∧ s.contacts[(2 : ContactNo)] = some liveContact ∧ liveContact.port = 3) := by
  refine ⟨by decide, by decide, by decide, by decide, by decide, by decide⟩

theorem witness_ArrivalsReachTheOwners :
    (let s := { base with toPrint := put base.toPrint 2 [.arrival printerDev] }
     s.toPrint[(2 : PortNo)] = .arrival printerDev :: [] ∧ s.printers[(2 : PortNo)].state = .absent) ∧
    (let s := { linkUp 2 printerDev detached with toPrint := put base.toPrint 2 [.arrival printerDev] }
     s.toPrint[(2 : PortNo)] = .arrival printerDev :: [] ∧ s.printers[(2 : PortNo)].state = .detached ∧
      s.printers[(2 : PortNo)].current = some 4 ∧ s.printMode = .running ∧ s.ports[(2 : PortNo)].link = .up) ∧
    (let s := { base with toScan := put base.toScan 1 [.arrival scannerDev] }
     s.toScan[(1 : PortNo)] = .arrival scannerDev :: [] ∧ s.scanners[(1 : PortNo)].state = .absent) ∧
    ({ base with toTouch := put base.toTouch 3 [.arrival panelDev] }).toTouch[(3 : PortNo)] = .arrival panelDev :: [] := by
  refine ⟨by decide, by decide, by decide, by decide⟩

/-- A printer that returns without a current job opens the page of the job that waited (R75, R63). -/
theorem witness_PrintersReturnAndChoose :
    let s := { atPrinter { idlePrinter .detached with queue := [4] } (job .waiting) base with
      toPrint := put base.toPrint 2 [.arrival printerDev] }
    s.toPrint[(2 : PortNo)] = .arrival printerDev :: [] ∧ s.printers[(2 : PortNo)].state = .detached ∧
      s.printers[(2 : PortNo)].current = none ∧ s.printMode = .running ∧ nextJob? s s.printers[(2 : PortNo)] = some 4 ∧
      (after s (.printerReturn 2)).printers[(2 : PortNo)].page = some { page := 1, stage := .closed } ∧
      (after s (.printerReturn 2)).printers[(2 : PortNo)].credits = 0 := by
  refine ⟨by decide, by decide, by decide, by decide, by decide, by decide +kernel, by decide +kernel⟩

theorem witness_LostPrintersGiveUpTheirJobs :
    (let s := { detached with toPrint := put base.toPrint 2 [.kindChange] }
     JobsOk s ∧ s.printers[(2 : PortNo)].state = .detached ∧ s.toPrint[(2 : PortNo)] = .kindChange :: [] ∧
      s.jobs[(4 : JobNo)].state ≠ .free ∧ s.jobs[(4 : JobNo)].port = 2 ∧ s.jobs[(5 : JobNo)].state = .free) ∧
    (let s := { detached with time := 30000 }
     JobsOk s ∧ s.printers[(2 : PortNo)].reconnect = some { start := 0, length := 30000 } ∧ 30000 ≤ (s.time - 0).toNat) := by
  refine ⟨⟨jobsOk (by decide +kernel) (by decide +kernel), by decide, by decide, by decide, by decide, by decide⟩,
    jobsOk (by decide +kernel) (by decide +kernel), by decide, by decide⟩

/-! ### Witnesses: frames of devices, timers and rings -/

theorem printing_up (r : Printer) (j : Job) : UpWith .printer 2 (atPrinter r j base) := ⟨rfl, rfl⟩

theorem witness_PagesAreCounted :
    (let s := printing .closed
     JobsOk s ∧ UpWith .printer 2 s ∧ s.printers[(2 : PortNo)].state = .sending ∧
      s.printers[(2 : PortNo)].current = some 4 ∧ s.printers[(2 : PortNo)].page = some { page := 1, stage := .closed } ∧
      s.jobs[(4 : JobNo)].pagesDone + 1 = s.jobs[(4 : JobNo)].pageCount) ∧
    (let s := atPrinter (sendingPage .closed) { job .printing with pageCount := 2 } base
     JobsOk s ∧ s.jobs[(4 : JobNo)].cancelPending = false ∧ s.jobs[(4 : JobNo)].pagesDone + 1 ≠ s.jobs[(4 : JobNo)].pageCount ∧
      s.printers[(2 : PortNo)].suspendPending = false) := by
  refine ⟨⟨jobsOk (by decide +kernel) (by decide +kernel), printing_up _ _, by decide, by decide, by decide, by decide⟩,
    jobsOk (by decide +kernel) (by decide +kernel), by decide, by decide, by decide⟩

/-- Job 4, LONG and of two pages, at a boundary with job 5, SHORT, waiting in the queue of a printer that is to suspend. -/
def suspending (state : PrinterState) (flag : Bool) : State :=
  let s := atPrinter { sendingPage .closed with state := state, suspendPending := flag, queue := [5] }
    { job .printing with cls := .long, pageCount := 2 } base
  { s with jobs := put s.jobs 5 { job .waiting with blocks := [] } }

theorem witness_BoundariesSuspend :
    (let s := suspending .sending true
     JobsOk s ∧ UpWith .printer 2 s ∧ s.printers[(2 : PortNo)].state = .sending ∧ s.printers[(2 : PortNo)].current = some 4 ∧
      s.jobs[(4 : JobNo)].pagesDone + 1 ≠ s.jobs[(4 : JobNo)].pageCount ∧ s.jobs[(4 : JobNo)].cancelPending = false ∧
      s.printers[(2 : PortNo)].suspendPending = true ∧ s.printers[(2 : PortNo)].queue.head? = some 5 ∧
      rank s.jobs[(5 : JobNo)].cls < 2 ∧ (after s (.pageDone 2 [1])).printers[(2 : PortNo)].current = some 5) ∧
    (let s := suspending .quiesced false
     JobsOk s ∧ UpWith .printer 2 s ∧ s.printers[(2 : PortNo)].state = .quiesced ∧
      s.printers[(2 : PortNo)].suspendPending = false) := by
  refine ⟨⟨jobsOk (by decide +kernel) (by decide +kernel), ⟨rfl, rfl⟩, by decide, by decide, by decide, by decide, by decide,
    by decide, by decide, by decide +kernel⟩, jobsOk (by decide +kernel) (by decide +kernel), ⟨rfl, rfl⟩, by decide, by decide⟩

theorem witness_CreditFeedsThePage :
    (let s := printing .data
     UpWith .printer 2 s ∧ s.printers[(2 : PortNo)].state = .sending ∧ s.printers[(2 : PortNo)].current = some 4 ∧
      s.printers[(2 : PortNo)].page = some { page := 1, stage := .data } ∧
      s.printers[(2 : PortNo)].sent < currentLength s 4) ∧
    (printing .closed).printers[(2 : PortNo)].page = some { page := 1, stage := .closed } ∧
    (let s := atPrinter (idlePrinter .quiesced) (job .free) base
     s.printers[(2 : PortNo)].state = .quiesced ∧ s.printers[(2 : PortNo)].page = none) := by
  refine ⟨⟨printing_up _ _, by decide, by decide, by decide, by decide⟩, by decide, by decide⟩

theorem witness_FaultsHoldThePrinter :
    (let s := printing .data
     s.printers[(2 : PortNo)].current = some 4 ∧ s.printers[(2 : PortNo)].page = some { page := 1, stage := .data } ∧
      1 = s.jobs[(4 : JobNo)].pagesDone + 1 ∧ s.jobs[(4 : JobNo)].cancelPending = false ∧ UpWith .printer 2 s ∧
      s.jobs[(4 : JobNo)].transients < 2) ∧
    (let s := atPrinter (sendingPage .data) { job .printing with transients := 2 } base
     2 ≤ s.jobs[(4 : JobNo)].transients) ∧
    (printing .awaitingReady).printers[(2 : PortNo)].page = some { page := 1, stage := .awaitingReady } ∧
    (let s := atPrinter { sendingPage .closed with pageTimer := some { start := 0, length := 60000 } } (job .printing)
      { base with time := 60000 }
     s.printers[(2 : PortNo)].pageTimer = some { start := 0, length := 60000 } ∧ 60000 ≤ (s.time - 0).toNat) := by
  refine ⟨⟨by decide, by decide, by decide, by decide, printing_up _ _, by decide⟩, by decide, by decide, by decide⟩

theorem witness_FaultsLeaveACancelledJob :
    let s := fun stage => atPrinter (sendingPage stage) { job .printing with cancelPending := true, reason := .cancelled } base
    (∀ stage, UpWith .printer 2 (s stage) ∧ (s stage).printers[(2 : PortNo)].state = .sending ∧
      (s stage).printers[(2 : PortNo)].current = some 4 ∧
      (s stage).printers[(2 : PortNo)].page = some { page := 1, stage := stage } ∧ (1 : Byte).toNat = 1 ∧
      (s stage).jobs[(4 : JobNo)].transients < 2 ∧ (s stage).jobs[(4 : JobNo)].cancelPending = true) ∧
    (after (s .data) (.pageFault 2 [1, 4])).printers[(2 : PortNo)].page = some { page := 1, stage := .awaitingReady } ∧
    (after (s .awaitingReady) (.pageFault 2 [1, 4])).jobs[(4 : JobNo)].transients = 0 ∧ (2 : Byte).toNat ≠ 1 := by
  refine ⟨fun stage => ⟨⟨rfl, rfl⟩, rfl, rfl, rfl, rfl, by cases stage <;> decide, rfl⟩, by decide +kernel, by decide +kernel,
    by decide⟩

theorem witness_FaultsEndACancelledJob :
    (let s := atPrinter { sendingPage .closed with pageTimer := some { start := 0, length := 60000 } }
      { job .printing with cancelPending := true, reason := .cancelled, transients := 2 } { base with time := 60000 }
     JobsOk s ∧ UpWith .printer 2 s ∧ s.jobs[(4 : JobNo)].cancelPending = true ∧
      s.printers[(2 : PortNo)].pageTimer = some { start := 0, length := 60000 } ∧ 60000 ≤ (s.time - 0).toNat ∧
      2 ≤ s.jobs[(4 : JobNo)].transients ∧ s.printers[(2 : PortNo)].page = some { page := 1, stage := .closed } ∧
      (after s (.pageFault 2 [1, 4])).printers[(2 : PortNo)].state = .idle) := by
  refine ⟨jobsOk (by decide +kernel) (by decide +kernel), ⟨rfl, rfl⟩, by decide, by decide, by decide, by decide, by decide,
    by decide +kernel⟩

theorem witness_ReadyAndPaper :
    (let s := printing .awaitingReady
     UpWith .printer 2 s ∧ s.printers[(2 : PortNo)].current = some 4 ∧
      s.printers[(2 : PortNo)].page = some { page := 1, stage := .awaitingReady } ∧
      s.printers[(2 : PortNo)].state = .sending ∧ attached s.printers[(2 : PortNo)] = true ∧
      s.printers[(2 : PortNo)].paperLow ≠ decide ((1 : Byte) ≠ 0) ∧
      s.printers[(2 : PortNo)].paperLow = decide ((0 : Byte) ≠ 0)) := by
  refine ⟨printing_up _ _, by decide, by decide, by decide, by decide, by decide, by decide⟩

/-- Frames that leave no trace: at a HELD printer and at one without a page (R64), of a device of another kind, of a length that
does not fit, in INTRODUCING and on a DOWN port (R147). -/
theorem witness_FramesAreIgnored :
    (UpWith .printer 2 heldPrinter ∧ heldPrinter.printers[(2 : PortNo)].state ≠ .sending ∧
      heldPrinter.printers[(2 : PortNo)].state ≠ .quiesced) ∧
    (let s := atPrinter { idlePrinter .quiesced with current := some 4 } (job .printing) base
     UpWith .printer 2 s ∧ s.printers[(2 : PortNo)].page = none) ∧
    ((Instr.pageDone 1 [1], (0x18 : Byte)) ∈ frameCommands 1 [1] ∧ deviceFrame? 0x18 = some (.printer, 1, 1)) ∧
    (let s := scannerAt .free []
     s.ports[(1 : PortNo)].link = .up ∧ s.ports[(1 : PortNo)].profile = some scannerDev ∧ scannerDev.kind ≠ .printer) ∧
    ((Instr.pageFault 2 [1], (0x19 : Byte)) ∈ frameCommands 2 [1] ∧ deviceFrame? 0x19 = some (.printer, 2, 2) ∧
      ([1] : List Byte).length < 2 ∧ (printing .data).ports[(2 : PortNo)].profile = some printerDev) ∧
    ((Instr.scan 5 [1], (0x28 : Byte)) ∈ frameCommands 5 [1] ∧ deviceFrame? 0x28 = some (.scanner, 1, 96) ∧
      (introducingAt (introItems 0 none false false)).ports[(5 : PortNo)].link = .introducing ∧
      base.ports[(5 : PortNo)].link = .down) := by
  refine ⟨⟨⟨rfl, rfl⟩, by decide, by decide⟩, ⟨⟨rfl, rfl⟩, by decide⟩, ⟨by simp [frameCommands], by decide⟩, by decide,
    ⟨by simp [frameCommands], by decide, by decide, by decide⟩, by simp [frameCommands], by decide, by decide, by decide⟩

/-- A scanner as above, with a last code and a default station. -/
def scannerWith (state : ScannerState) (code : Option LastCode) (station : Option StationNo) : State :=
  { updScanner (scannerAt state []) 1 fun r => { r with lastCode := code } with
    scannerSet := put base.scannerSet 1 { base.scannerSet[(1 : PortNo)] with defaultStation := station } }

theorem witness_ScansAreDelivered :
    (let s := scannerWith (.held (claim 1)) none none
     UpWith .scanner 1 s ∧ RingsOk s ∧ s.scanners[(1 : PortNo)].state = .held (claim 1) ∧
      s.scanners[(1 : PortNo)].lastCode = none ∧ canWrite s 5 (.scan 1 0x41 [0x31] 7 false) = true) ∧
    (let s := scannerWith (.held (claim 0)) (some { symbology := 0x41, code := [0x31], arrival := 0 }) none
     s.scanners[(1 : PortNo)].state ≠ .absent ∧ s.scanners[(1 : PortNo)].lastCode =
      some { symbology := 0x41, code := [0x31], arrival := 0 } ∧
      (s.time - 0).toNat < s.scannerSet[(1 : PortNo)].repeatWindow * 1000) ∧
    (let s := updDelivery (scannerWith (.held (claim 0)) none none) 5 fun d => { d with owed := [⟨.printerNote 0 true, 0⟩] }
     canWrite s 5 (.scan 1 0x41 [0x31] 7 false) = false) ∧
    (let s := scannerWith .free none (some 5)
     UpWith .scanner 1 s ∧ s.scanners[(1 : PortNo)].state = .free ∧ s.scanMode = .running ∧
      s.scannerSet[(1 : PortNo)].defaultStation = some 5 ∧ inService s 5 = true ∧ permitted s 5 1 = true ∧
      canWrite s 5 (.scan 1 0x41 [0x31] 0 true) = true) ∧
    (scannerWith .free none none).scannerSet[(1 : PortNo)].defaultStation = none := by
  refine ⟨⟨⟨rfl, rfl⟩, ringsOk (by decide), by decide, by decide, by decide⟩, by decide, by decide,
    ⟨⟨rfl, rfl⟩, by decide, by decide, by decide, by decide, by decide, by decide⟩, by decide⟩

theorem witness_ScansAreIgnored :
    (UpWith .scanner 1 (scannerAt .absent []) ∧ (scannerAt .absent []).scanners[(1 : PortNo)].state = .absent) ∧
    (UpWith .scanner 1 (scannerAt .free []) ∧ ([] : List Byte).length = 0 ∧ 64 < (List.replicate 65 (0x31 : Byte)).length ∧
      (List.replicate 65 (0x31 : Byte)).length ≤ 95) :=
  ⟨⟨⟨rfl, rfl⟩, by decide⟩, ⟨rfl, rfl⟩, by decide, by decide, by decide⟩

theorem witness_IdleClaimsExpire :
    let s := { scannerAt (.held (claim 0)) [⟨3, 9, 1⟩] with time := 30000 }
    s.scanners[(1 : PortNo)].state = .held (claim 0) ∧
      (claim 0).idle.length ≤ (s.time - (claim 0).idle.start).toNat := by decide

theorem witness_MappedPositionsStayOnScreen :
    MappingOk map4 ∧
      MappingOk { map4 with x0 := 4095, x1 := 4096, y0 := 0, y1 := 4096, orientation := .r270, width := 4096, height := 1 } := by
  refine ⟨?_, ?_⟩ <;> (unfold MappingOk; decide)

theorem no_contacts (s : State) (h : ∀ n : ContactNo, s.contacts[n] = none) (p : PortNo) (id : ContactId) :
    ∀ (n : ContactNo) c, s.contacts[n] = some c → keyHeld c = true → ¬ (c.port = p ∧ c.id = id) :=
  fun n _ hc => absurd ((h n).symm.trans hc) nofun

theorem witness_TouchDownsAreBound :
    let s := panelAt []
    UpWith .panel 3 s ∧ ZonesOk s ∧ s.panels[(3 : PortNo)] = some 10 ∧ (9 : ContactId).val < 10 ∧
      s.touchMode = .running ∧
      (∀ (n : ContactNo) c, s.contacts[n] = some c → keyHeld c = true → ¬ (c.port = 3 ∧ c.id = 9)) ∧
      s.contacts[(0 : ContactNo)] = none ∧
      (s.zones[(4 : ZoneNo)] = some zone4 ∧ zone4.port = 3 ∧ zone4.map.x0 ≤ 2047 ∧ 2047 < zone4.map.x1 ∧
        zone4.map.y0 ≤ 4095 ∧ 4095 < zone4.map.y1) ∧
      inService s 5 = true ∧ permitted s 5 3 = true ∧
      canWrite s 5 (.touch .down 3 9 0 4 (mapRaw map4 2047 4095)) = true := by
  refine ⟨⟨rfl, rfl⟩, zonesOk (by decide), by decide, by decide, by decide, no_contacts _ (by decide) _ _, by decide,
    by decide, by decide, by decide, by decide⟩

theorem witness_TouchMovesAndEnds :
    let s := panelAt [(2, liveContact)]
    UpWith .panel 3 s ∧ s.panels[(3 : PortNo)] = some 10 ∧ (2 : ContactId).val < 10 ∧
      s.contacts[(2 : ContactNo)] = some { port := 3, id := 2, cond := .live bound none } ∧
      (∀ (m : ContactNo) c, s.contacts[m] = some c → keyHeld c = true → c.port = 3 → c.id = 2 → m = 2) ∧
      movePasses map4 bound.last.pos (mapRaw map4 214 400) = false ∧
      movePasses map4 bound.last.pos (mapRaw map4 216 400) = true ∧
      canWrite s 5 (.touch .up 3 2 2 4 (mapRaw map4 216 400)) = true := by
  refine ⟨⟨rfl, rfl⟩, by decide, by decide, by decide, ?_, by decide, by decide, by decide⟩
  exact every (P := fun m c => keyHeld c = true → c.port = 3 → c.id = 2 → m = 2) (fun m _ => decide (m = 2))
    (fun _ _ h _ _ _ => of_decide_eq_true h) (by decide)

/-- DOWN entries that are not bound live: outside every zone, without a permit, at a ring without room, and with the contact
table full. -/
theorem witness_DownsThatAreNotLive :
    (∀ (z : ZoneNo) a, (panelAt []).zones[z] = some a → a.port = 3 →
      ¬ (a.map.x0 ≤ 2048 ∧ 2048 < a.map.x1 ∧ a.map.y0 ≤ 0 ∧ 0 < a.map.y1)) ∧
    (let s := { panelAt [] with stations := put base.stations 5 { base.stations[(5 : StationNo)] with permits := 0xF7 } }
     UpWith .panel 3 s ∧ s.touchMode = .running ∧ inService s 5 = true ∧ permitted s 5 3 = false) ∧
    (let s := updDelivery (panelAt []) 5 fun d => { d with owed := [⟨.printerNote 0 true, 0⟩] }
     UpWith .panel 3 s ∧ s.touchMode = .running ∧ inService s 5 = true ∧ permitted s 5 3 = true ∧
      canWrite s 5 (.touch .down 3 9 0 4 (mapRaw map4 2047 4095)) = false) ∧
    (let s := { panelAt [] with contacts := Vector.replicate 32 (some { liveContact with cond := .ignored none }) }
     UpWith .panel 3 s ∧ s.touchMode = .running ∧ (∀ n : ContactNo, s.contacts[n] ≠ none) ∧
      ∀ (n : ContactNo) c, s.contacts[n] = some c → keyHeld c = true → ¬ (c.port = 3 ∧ c.id = 9)) := by
  refine ⟨?_, ⟨⟨rfl, rfl⟩, by decide, by decide, by decide⟩, ⟨⟨rfl, rfl⟩, by decide, by decide, by decide, by decide⟩,
    ⟨rfl, rfl⟩, by decide, by decide, ?_⟩
  · exact every (P := fun _ (a : Zone) => a.port = 3 → ¬ (a.map.x0 ≤ 2048 ∧ 2048 < a.map.x1 ∧ a.map.y0 ≤ 0 ∧ 0 < a.map.y1))
      (fun _ (a : Zone) => decide (¬ (a.map.x0 ≤ 2048 ∧ 2048 < a.map.x1 ∧ a.map.y0 ≤ 0 ∧ 0 < a.map.y1)))
      (fun _ _ h _ => of_decide_eq_true h) (by decide)
  · exact every (P := fun _ (c : Contact) => keyHeld c = true → ¬ (c.port = 3 ∧ c.id = 9)) (fun _ (c : Contact) => decide (¬ (c.port = 3 ∧ c.id = 9)))
      (fun _ _ h _ => of_decide_eq_true h) (by decide)

/-- A live contact's MOVE, UP and CANCEL at a ring without room. -/
theorem witness_MovesAndEndsThatWait :
    let s := updDelivery (panelAt [(2, liveContact)]) 5 fun d => { d with owed := [⟨.printerNote 0 true, 0⟩] }
    UpWith .panel 3 s ∧ s.contacts[(2 : ContactNo)] = some { port := 3, id := 2, cond := .live bound none } ∧
      canWrite s 5 (.touch .move 3 2 2 4 (mapRaw map4 216 400)) = false ∧
      canWrite s 5 (.touch .up 3 2 2 4 (mapRaw map4 216 400)) = false ∧
      canWrite s 5 (.touch .cancel 3 2 2 4 bound.last.pos) = false :=
  ⟨⟨rfl, rfl⟩, by decide, by decide, by decide, by decide⟩

/-- The panel of port 3 in QUIET, with zone 4, a wake zone. -/
def quietPanel (contacts : Vector (Option Contact) 32) : State :=
  { panelAt [] with touchMode := .quiet, contacts := contacts }

theorem witness_DownsInQuietAndOnHeldKeys :
    (let s := quietPanel (Vector.replicate 32 none)
     UpWith .panel 3 s ∧ ZonesOk s ∧ s.touchMode = .quiet ∧
      (∀ (n : ContactNo) c, s.contacts[n] = some c → keyHeld c = true → ¬ (c.port = 3 ∧ c.id = 9)) ∧
      s.zones[(4 : ZoneNo)] = some zone4 ∧ zone4.wake = true ∧
      (after s (.touch 3 (oneTouch 9 0 2047 4095))).wakeReports = [4] ∧
      (after s (.touch 3 (oneTouch 9 0 2048 4095))).wakeReports = []) ∧
    (let s := quietPanel (Vector.replicate 32 (some { liveContact with id := 3, cond := .ignored none }))
     (∀ n : ContactNo, s.contacts[n] ≠ none) ∧ (after s (.touch 3 (oneTouch 9 0 0 0))).wakeReports = [4]) ∧
    (let s := panelAt [(2, liveContact)]
     UpWith .panel 3 s ∧ KeysOk s ∧ s.contacts[(2 : ContactNo)] = some liveContact ∧ keyHeld liveContact = true ∧
      liveContact.port = 3 ∧ liveContact.id = 2) := by
  refine ⟨⟨⟨rfl, rfl⟩, zonesOk (by decide), by decide, no_contacts _ (by decide) _ _, by decide, by decide,
    by decide +kernel, by decide +kernel⟩, ⟨by decide, by decide +kernel⟩, ⟨rfl, rfl⟩, keysOk (by decide), by decide,
    by decide, by decide, by decide⟩

theorem witness_EntriesWithoutALiveContact :
    (let s := panelAt [(2, { liveContact with cond := .suppressed 4 5 })]
     UpWith .panel 3 s ∧ KeysOk s ∧ s.panels[(3 : PortNo)] = some 10 ∧ (2 : ContactId).val < 10 ∧
      s.contacts[(2 : ContactNo)] = some { liveContact with cond := .suppressed 4 5 } ∧
      (after s (.touch 3 (oneTouch 2 3 0 0))).contacts[(2 : ContactNo)] = none) ∧
    (∀ (n : ContactNo) c, (panelAt []).contacts[n] = some c → keyHeld c = true → ¬ (c.port = 3 ∧ c.id = 2)) ∧
    (10 ≤ (10 : Byte).toNat ∧ 3 < (4 : Byte).toNat ∧ 4095 < (0x1000 : Half).toNat) ∧
    (∀ count rest, ([0] : List Byte) = count :: rest →
      count.toNat = 0 ∨ 10 < count.toNat ∨ rest.length ≠ 6 * count.toNat) ∧
    (∀ e ∈ ([List.replicate 6 1, List.replicate 6 2] : List (List Byte)), e.length = 6) := by
  refine ⟨⟨⟨rfl, rfl⟩, keysOk (by decide), by decide, by decide, by decide, by decide +kernel⟩,
    no_contacts _ (by decide) _ _, by decide, ?_, by decide⟩
  intro count rest h
  cases h
  exact .inl rfl

/-- Station 5 with a number of owed records. -/
def owing (n : Nat) : State := updDelivery base 5 fun d => { d with owed := List.replicate n ⟨.printerNote 2 true, 5⟩ }

/-- R14, R170: the 16th owed record joins the queue, the 17th leaves a gap, and a station OUT OF SERVICE is owed nothing. -/
theorem witness_RecordsAreOwed :
    (ServiceOk base ∧ inService base 5 = true ∧ base.delivery[(5 : StationNo)].owed = [] ∧
      canWrite base 5 (.printerNote 2 true) = true) ∧
    (ServiceOk (owing 15) ∧ (owing 15).delivery[(5 : StationNo)].owed.length = 15 ∧
      (giveStatus 5 (.printerNote 2 true) (owing 15)).delivery[(5 : StationNo)].owed.length = 16) ∧
    (ServiceOk (owing 16) ∧ (owing 16).delivery[(5 : StationNo)].owed.length = 16 ∧
      (giveStatus 5 (.printerNote 2 true) (owing 16)).delivery[(5 : StationNo)].gap = true) ∧
    (ServiceOk retired5 ∧ inService retired5 5 = false) := by
  refine ⟨⟨serviceOk (by decide), by decide, by decide, by decide⟩, ⟨serviceOk (by decide), by decide, by decide⟩,
    ⟨serviceOk (by decide), by decide, by decide⟩, serviceOk (by decide +kernel), by decide +kernel⟩

theorem witness_RecordsEnterTheRing :
    (let d : Delivery := { w := 1784, t := 1000, seq := 65535, gap := true, owed := [], frozen := false }
     let s := updDelivery base 5 fun _ => d
     MemoryOk s ∧ RingOk s.delivery[(5 : StationNo)] ∧ s.delivery[(5 : StationNo)] = d ∧
      1792 - d.w < recordLength (.printerNote 2 true) ∧ usedBytes d + (1792 - d.w + 16) ≤ 1784) ∧
    (MemoryOk base ∧ RingOk base.delivery[(5 : StationNo)] ∧ recordLength (.printerNote 2 true) ≤ 1792 - 0) := by
  refine ⟨⟨memOk (by decide), ?_, by decide, by decide, by decide⟩, memOk (by decide), ?_, by decide⟩ <;>
    (unfold RingOk; decide)

end Sys2Proof.Tests
end

section
/-!
## Relations that every operation keeps

A frame lemma says which fields an operation may change; an invariant asks more. Here an induction over the model's
operations is packaged once: a relation between states that is reflexive and transitive, and that the small writes of a
block keep, is kept by every operation of the block, by every served request and by every command.
-/

namespace Sys2Proof.Machine

open Sys2Proof.Safety
open Config

/-! ### What a record written or held does to the delivery states (R169, R170) -/

/-- The delivery state of a station after a record is written for it (R169). -/
def afterWrite (d : Delivery) (n : Nat) : Delivery := { d with w := nextMark d n, seq := d.seq + 1, gap := false }

theorem writeRecord_delivery (st : StationNo) (r : Record) (x : Half) (s : State) :
    (writeRecord st r x s).delivery = put s.delivery st (afterWrite s.delivery[st] (recordLength r)) := rfl

@[simp] theorem writeRecord_delivery_self (st : StationNo) (r : Record) (x : Half) (s : State) :
    (writeRecord st r x s).delivery[st.val] = afterWrite s.delivery[st.val] (recordLength r) := put_get ..

theorem writeRecord_delivery_ne {st other : StationNo} (h : other ≠ st) (r : Record) (x : Half) (s : State) :
    (writeRecord st r x s).delivery[other] = s.delivery[other] := put_get_ne _ _ _ _ h.symm

/-- A record that can be written at once fits (R170). -/
theorem canWrite_fits {s : State} {st : StationNo} {r : Record} (h : canWrite s st r = true) :
    fits s.delivery[st] (recordLength r) = true := by
  unfold canWrite at h
  simp only [Bool.and_eq_true] at h
  exact h.2

/-! ### The small writes of each block -/

/-- The fields of the notices, the modes, the panels, Part Control and the change counts. -/
def ControlStep (s t : State) : Prop :=
  ∃ x0 x1 x2 x3 x4 x5 x6 x7 x8 x9 x10 x11 x12 x13 x14 x15 x16 x17 x18, t =
    { s with
      printMode := x0, scanMode := x1, touchMode := x2, panels := x3, toPrint := x4, toScan := x5, toTouch := x6
      quietPrint := x7, quietScan := x8, quietTouch := x9, wakeReports := x10, part := x11, wake := x12, time := x13
      portCount := x14, jobCount := x15, stationCount := x16, poolCount := x17, openCount := x18 }

/-- A relation that the writes of the Delivery Unit keep: a record that fits written, a status record that joins a queue
with room, a gap owed. -/
structure DeliveryClosed (R : State → State → Prop) : Prop where
  refl : ∀ s, R s s
  trans : ∀ {s t u}, R s t → R t u → R s u
  write : ∀ st r x s, fits s.delivery[st] (recordLength r) = true → R s (writeRecord st r x s)
  join : ∀ s st r, s.delivery[st].owed.length < owedMax → R s (joinOwed s st r)
  gap : ∀ s st, R s (setGap s st)

/-- A relation that the small writes of the Print Scheduler and the pool it frees blocks to keep. -/
structure PrintClosed (R : State → State → Prop) : Prop extends DeliveryClosed R where
  printers : ∀ s v, R s { s with printers := v }
  jobs : ∀ s v, R s { s with jobs := v }
  block : ∀ s b, R s (freeBlock s b)
  holdings : ∀ s st (g : Nat → Nat), R s (updStation s st fun r => { r with holdings := g r.holdings })
  hand : ∀ p f s, frameFor f ≠ none → R s (hand p f s)
  withdraw : ∀ p serial page s, R s (withdraw p serial page s)

/-- A relation that the small writes of the Scan Router keep. -/
structure ScanClosed (R : State → State → Prop) : Prop extends DeliveryClosed R where
  scanners : ∀ s v, R s { s with scanners := v }
  hand : ∀ p f s, frameFor f ≠ none → R s (hand p f s)

/-- A relation that the small writes of the Touch Router keep, an owed record taken off its queue by a flush among them. -/
structure TouchClosed (R : State → State → Prop) : Prop extends DeliveryClosed R where
  contacts : ∀ s v, R s { s with contacts := v }
  control : ∀ s t, ControlStep s t → R s t
  unqueue : ∀ s st o rest, s.delivery[st].owed = o :: rest → R s (updDelivery s st fun d => { d with owed := rest })

/-- A relation that the small writes of every block keep, a port record changed in all but its advertised set among them. -/
structure LinkClosed (R : State → State → Prop) : Prop extends PrintClosed R, ScanClosed R, TouchClosed R where
  port : ∀ s p f, (∀ r, (f r).advertised = r.advertised) → R s (updPort s p f)

variable {R : State → State → Prop}

/-! ### The Delivery Unit -/

section
variable (h : DeliveryClosed R)
include h

theorem DeliveryClosed.giveStatus (st : StationNo) (r : Record) (s : State) : R s (giveStatus st r s) := by
  unfold Machine.giveStatus
  split
  · exact h.refl s
  · split
    · exact h.write _ _ _ _ (canWrite_fits ‹_›)
    · split
      · exact h.join _ _ _ ‹_›
      · exact h.gap ..

theorem DeliveryClosed.giveStatusTo (o : Option StationNo) (r : Record) (s : State) : R s (giveStatusTo o r s) := by
  cases o with
  | none => exact h.refl s
  | some st => exact h.giveStatus ..

theorem DeliveryClosed.giveProgress (st : StationNo) (r : Record) (s : State) : R s (giveProgress st r s) := by
  unfold Machine.giveProgress
  split
  · exact h.refl s
  · split
    · exact h.write _ _ _ _ (canWrite_fits ‹_›)
    · exact h.gap ..

theorem DeliveryClosed.offer? {st : StationNo} {r : Record} {s t : State} (ht : offer? st r s = some t) : R s t := by
  unfold Machine.offer? at ht
  split at ht
  · cases ht; exact h.write _ _ _ _ (canWrite_fits ‹_›)
  · cases ht

theorem DeliveryClosed.foldl {β : Type} (f : State → β → State) (hf : ∀ s x, R s (f s x)) (l : List β) (s : State) :
    R s (l.foldl f s) := foldl_rel h.refl h.trans f hf l s

end

/-! ### The Print Scheduler -/

section
variable (h : PrintClosed R)
include h

theorem PrintClosed.printer (s : State) (p : PortNo) (f : Printer → Printer) : R s (updPrinter s p f) := h.printers s _

theorem PrintClosed.job (s : State) (j : JobNo) (f : Job → Job) : R s (updJob s j f) := h.jobs s _

theorem PrintClosed.freeBlocks (bs : List BlockNo) (s : State) : R s (freeBlocks bs s) := h.foldl _ h.block bs s

theorem PrintClosed.sendData (p : PortNo) (s : State) : R s (sendData p s) := by
  unfold Machine.sendData
  dsimp only
  split
  · split
    · exact h.trans (h.printer ..) (h.hand _ _ _ (by nofun))
    · exact h.refl s
  · exact h.refl s

theorem PrintClosed.sendDataTimes (p : PortNo) (n : Nat) (s : State) : R s (sendDataTimes p n s) := by
  induction n generalizing s with
  | zero => exact h.refl s
  | succ n ih => exact h.trans (h.sendData p s) (ih _)

theorem PrintClosed.closePage (p : PortNo) (s : State) : R s (closePage p s) := by
  unfold Machine.closePage
  dsimp only
  split
  · split
    · exact h.refl s
    · exact h.trans (h.printer ..) (h.hand _ _ _ (by nofun))
  · exact h.refl s

theorem PrintClosed.feedPage (p : PortNo) (s : State) : R s (feedPage p s) :=
  h.trans (h.sendDataTimes ..) (h.closePage ..)

theorem PrintClosed.openPage (p : PortNo) (s : State) : R s (openPage p s) := by
  unfold Machine.openPage
  split
  · exact h.refl s
  · exact h.trans (h.printer ..) (h.trans (h.hand _ _ _ (by nofun)) (h.feedPage ..))

theorem PrintClosed.makeCurrent (p : PortNo) (j : JobNo) (s : State) : R s (makeCurrent p j s) :=
  h.trans (h.printer ..) (h.job ..)

theorem PrintClosed.choose (p : PortNo) (s : State) : R s (choose p s) := by
  unfold Machine.choose
  split
  · exact h.trans (h.makeCurrent ..) (h.trans (h.printer ..) (h.openPage ..))
  · exact h.trans (h.makeCurrent ..) (h.printer ..)
  · exact h.printer ..
  · exact h.printer ..

theorem PrintClosed.leaveHeld (p : PortNo) (s : State) : R s (leaveHeld p s) := h.trans (h.printer ..) (h.choose ..)

theorem PrintClosed.dropHoldings (o : Option StationNo) (n : Nat) (s : State) : R s (dropHoldings o n s) := by
  cases o with
  | none => exact h.refl s
  | some st => exact h.holdings s st (· - n)

theorem PrintClosed.endJob (reason : EndReason) (s : State) (j : JobNo) : R s (endJob reason s j) := by
  unfold Machine.endJob
  exact h.trans (h.printer ..) (h.trans (h.job ..) (h.trans (h.freeBlocks ..) (h.trans (h.dropHoldings ..)
    (h.trans (h.giveStatusTo ..) (h.job ..)))))

theorem PrintClosed.loseDevice (p : PortNo) (s : State) : R s (loseDevice p s) :=
  h.trans (h.foldl _ (h.endJob .deviceLost) _ s) (h.printer ..)

theorem PrintClosed.suspendJob (p : PortNo) (j : JobNo) (s : State) : R s (suspendJob p j s) :=
  h.trans (h.printer ..) (h.job ..)

theorem PrintClosed.boundary (p : PortNo) (j : JobNo) (s : State) : R s (boundary p j s) := by
  unfold Machine.boundary
  refine h.trans (h.printer s p fun r => { r with suspendPending := false }) ?_
  dsimp only
  split
  · exact h.trans (h.endJob ..) (h.choose ..)
  · split
    · exact h.trans (h.endJob ..) (h.choose ..)
    · split
      · exact h.trans (h.suspendJob ..) (h.choose ..)
      · split
        · exact h.openPage ..
        · exact h.refl _

theorem PrintClosed.reportProgress (j : JobNo) (s : State) : R s (reportProgress j s) := by
  unfold Machine.reportProgress
  dsimp only
  split
  · split
    · exact h.giveProgress ..
    · exact h.refl s
  · exact h.refl s

theorem PrintClosed.confirmPage (p : PortNo) (j : JobNo) (s : State) : R s (confirmPage p j s) :=
  h.trans (h.printer ..) (h.trans (h.job ..) (h.trans (h.reportProgress ..) (h.boundary ..)))

theorem PrintClosed.pageDone (p : PortNo) (n : Nat) (s : State) : R s (pageDone p n s) := by
  unfold Machine.pageDone
  dsimp only
  split
  · split
    · exact h.confirmPage ..
    · exact h.refl s
  · exact h.refl s

theorem PrintClosed.credit (p : PortNo) (n : Nat) (s : State) : R s (credit p n s) := by
  unfold Machine.credit
  dsimp only
  split
  · exact h.trans (h.printer ..) (h.feedPage ..)
  · exact h.refl s

theorem PrintClosed.reportFault (r : Record) (o : Option StationNo) (s : State) : R s (reportFault r o s) := by
  unfold Machine.reportFault
  split
  · split
    · exact h.giveStatus ..
    · exact h.trans (h.giveStatus ..) (h.giveStatus ..)
  · exact h.giveStatus ..

theorem PrintClosed.hardFault (p : PortNo) (j : JobNo) (cause : Cause) (s : State) : R s (hardFault p j cause s) := by
  unfold Machine.hardFault
  dsimp only
  have held := h.trans (h.withdraw p s.jobs[j].serial (s.jobs[j].pagesDone + 1) s) (h.trans
    (h.printer _ p fun r => { dropPage r with state := .held, hold := some cause })
    (h.reportFault (.printerFault p j s.jobs[j].serial (s.jobs[j].pagesDone + 1) cause) s.jobs[j].owner _))
  split
  · exact h.trans held (h.trans (h.endJob ..) (h.leaveHeld ..))
  · exact held

theorem PrintClosed.transientFault (p : PortNo) (j : JobNo) (pg : PageInFlight) (s : State) :
    R s (transientFault p j pg s) := by
  unfold Machine.transientFault
  dsimp only
  split
  · exact h.trans (h.job ..) (h.hardFault ..)
  · exact h.trans (h.job ..) (h.trans (h.withdraw ..) (h.printer ..))

theorem PrintClosed.pageFault (p : PortNo) (n : Nat) (cause : Cause) (s : State) : R s (pageFault p n cause s) := by
  unfold Machine.pageFault
  dsimp only
  split
  · split
    · split
      · split
        · exact h.refl s
        · exact h.transientFault ..
      · exact h.hardFault ..
    · exact h.refl s
  · exact h.refl s

theorem PrintClosed.ready (p : PortNo) (s : State) : R s (ready p s) := by
  unfold Machine.ready
  dsimp only
  split
  · split
    · exact h.openPage ..
    · exact h.refl s
  · exact h.refl s

theorem PrintClosed.paper (p : PortNo) (low : Bool) (s : State) : R s (paper p low s) := by
  unfold Machine.paper
  dsimp only
  split
  · exact h.trans (h.printer ..) (h.giveStatus ..)
  · exact h.refl s

theorem PrintClosed.pageTimerExpiry (p : PortNo) (s : State) : R s (pageTimerExpiry p s) := by
  unfold Machine.pageTimerExpiry
  dsimp only
  split
  · split
    · exact h.trans (h.hand _ _ _ (by nofun)) (h.hardFault ..)
    · exact h.refl s
  · exact h.refl s

theorem PrintClosed.reconnectTimerExpiry (p : PortNo) (s : State) : R s (reconnectTimerExpiry p s) := by
  unfold Machine.reconnectTimerExpiry
  split
  · exact h.loseDevice ..
  · exact h.refl s

theorem PrintClosed.endAtOnce (reason : EndReason) (p : PortNo) (j : JobNo) (s : State) :
    R s (endAtOnce reason p j s) := by
  unfold Machine.endAtOnce
  refine h.trans (h.endJob reason s j) ?_
  dsimp only
  split
  · exact h.leaveHeld ..
  · exact h.choose ..
  all_goals exact h.refl _

theorem PrintClosed.clearTransients (p : PortNo) (s : State) : R s (clearTransients p s) := by
  unfold Machine.clearTransients
  split
  · exact h.job ..
  · exact h.refl s

theorem PrintClosed.resumePage (p : PortNo) (s : State) : R s (resumePage p s) := by
  unfold Machine.resumePage
  split
  · exact h.trans (h.printer ..) (h.openPage ..)
  · exact h.printer ..

theorem PrintClosed.acceptClear (p : PortNo) (s : State) : R s (acceptClear p s) :=
  h.trans (h.printer ..) (h.trans (h.clearTransients ..) (h.resumePage ..))

theorem PrintClosed.afterJoin (p : PortNo) (j : JobNo) (s : State) : R s (afterJoin p j s) := by
  unfold Machine.afterJoin
  split
  · exact h.choose ..
  · split
    · exact h.printer ..
    · exact h.refl s

theorem PrintClosed.losePrinter (p : PortNo) (s : State) : R s (losePrinter p s) := by
  unfold Machine.losePrinter
  refine h.trans (h.printer s p fun r => { dropPage r with
      state := .detached, hold := none
      reconnect := some (startTimer s (s.printerSet[p].reconnectWindow * second)) }) ?_
  dsimp only
  split
  · split
    · exact h.endJob ..
    · exact h.refl _
  · exact h.refl _

theorem PrintClosed.wakePrinter (s : State) (p : PortNo) : R s (wakePrinter s p) := by
  unfold Machine.wakePrinter
  dsimp only
  split
  · split
    · split
      · exact h.printer ..
      · exact h.trans (h.printer ..) (h.openPage ..)
    · exact h.choose ..
  · exact h.refl s

theorem PrintClosed.retireCurrent (s : State) (j : JobNo) : R s (retireCurrent s j) := by
  unfold Machine.retireCurrent
  refine h.trans (h.trans (h.job s j fun r => { r with cancelPending := true, reason := .retired })
    (h.job _ j fun r => { r with owner := none })) ?_
  dsimp only
  split
  · exact h.refl _
  · exact h.endAtOnce ..

theorem PrintClosed.retireJobs (st : StationNo) (s : State) :
    R s (retireCurrents st (retireIdleJobs st (retireBlocks st s))) :=
  h.trans (h.freeBlocks ..) (h.trans (h.foldl _ (h.endJob .retired) _ _) (h.foldl _ h.retireCurrent _ _))

theorem PrintClosed.acceptCancel (j : JobNo) (s : State) : R s (acceptCancel j s).state := by
  unfold Machine.acceptCancel
  dsimp only
  split
  · split
    · show R s (if _ then s else _)
      split
      · exact h.refl s
      · exact h.job ..
    · exact h.endAtOnce ..
  · exact h.endJob ..

end

/-! ### The Scan Router -/

section
variable (h : ScanClosed R)
include h

theorem ScanClosed.scanner (s : State) (p : PortNo) (f : Scanner → Scanner) : R s (updScanner s p f) := h.scanners s _

theorem ScanClosed.verdict (p : PortNo) (accept : Bool) (s : State) : R s (verdict p accept s) := h.hand _ _ _ (by nofun)

theorem ScanClosed.passOn (p : PortNo) (s : State) : R s (passOn p s) := by
  unfold Machine.passOn
  split
  · exact h.scanner ..
  · exact h.trans (h.scanner ..) (h.trans (h.scanner ..) (h.giveStatus ..))

theorem ScanClosed.dropClaim (p : PortNo) (c : Claim) (why : ClaimEnd) (s : State) : R s (dropClaim p c why s) := by
  unfold Machine.dropClaim
  dsimp only
  split
  · exact h.trans (h.scanner ..) (h.giveStatus ..)
  · exact h.scanner ..

theorem ScanClosed.endClaim (p : PortNo) (c : Claim) (why : ClaimEnd) (s : State) : R s (endClaim p c why s) :=
  h.trans (h.dropClaim ..) (h.passOn ..)

theorem ScanClosed.dropWaits (p : PortNo) (why : ClaimEnd) (s : State) : R s (dropWaits p why s) :=
  h.trans (h.scanner ..) (h.foldl _ (fun _ _ => h.giveStatus ..) _ _)

theorem ScanClosed.tearDown (p : PortNo) (why : ClaimEnd) (s : State) : R s (tearDown p why s) := by
  unfold Machine.tearDown
  split
  · exact h.trans (h.dropClaim ..) (h.dropWaits ..)
  · exact h.dropWaits ..

theorem ScanClosed.withdrawPermit (st : StationNo) (s : State) (p : PortNo) : R s (withdrawPermit st s p) := by
  unfold Machine.withdrawPermit
  split
  · split
    · exact h.endClaim ..
    · split
      · exact h.trans (h.scanner ..) (h.giveStatus ..)
      · exact h.refl s
  · exact h.refl s

theorem ScanClosed.retireClaims (st : StationNo) (s : State) : R s (retireClaims st s) := by
  refine h.foldl _ (fun t p => ?_) _ s
  unfold retireScanner
  split
  · split
    · exact h.endClaim ..
    · exact h.scanner ..
  · exact h.refl t

theorem ScanClosed.countScan (p : PortNo) (c : Claim) (s : State) : R s (countScan p c s) := by
  unfold Machine.countScan
  dsimp only
  split
  · exact h.endClaim ..
  · exact h.scanner ..

theorem ScanClosed.scanHeld (p : PortNo) (c : Claim) (y : Byte) (code : List Byte) (s : State) :
    R s (scanHeld p c y code s) := by
  unfold Machine.scanHeld
  split
  · exact h.trans (h.offer? ‹_›) (h.trans (h.verdict ..) (h.trans (h.scanner ..) (h.countScan ..)))
  · exact h.trans (h.verdict ..) (h.gap ..)

theorem ScanClosed.scanFree (p : PortNo) (y : Byte) (code : List Byte) (s : State) : R s (scanFree p y code s) := by
  unfold Machine.scanFree
  split
  · split
    · exact h.trans (h.offer? ‹_›) (h.trans (h.verdict ..) (h.scanner ..))
    · exact h.trans (h.verdict ..) (h.gap ..)
  · exact h.verdict ..

theorem ScanClosed.scan (p : PortNo) (payload : List Byte) (s : State) : R s (scan p payload s) := by
  unfold Machine.scan
  split
  · exact h.refl s
  · split
    · exact h.refl s
    · unfold takeScan
      split
      · exact h.verdict ..
      · split
        · exact h.scanHeld ..
        · exact h.scanFree ..
        · exact h.verdict ..
        · exact h.refl s

theorem ScanClosed.idleTimerExpiry (p : PortNo) (s : State) : R s (idleTimerExpiry p s) := by
  unfold Machine.idleTimerExpiry
  split
  · split
    · exact h.endClaim ..
    · exact h.refl s
  · exact h.refl s

theorem ScanClosed.loseScanner (p : PortNo) (s : State) : R s (loseScanner p s) := h.trans (h.tearDown ..) (h.scanner ..)

theorem ScanClosed.acceptClaim (p : PortNo) (w : Wait) (wait : Bool) (s : State) : R s (acceptClaim p w wait s).state := by
  unfold Machine.acceptClaim
  split
  · exact h.scanner ..
  · split
    · split
      · exact h.scanners s _
      · exact h.refl s
    · exact h.refl s
  · exact h.refl s

theorem ScanClosed.releaseAt (p : PortNo) (st : StationNo) (s : State) : R s (releaseAt p st s).state := by
  unfold Machine.releaseAt
  split
  · split
    · exact h.endClaim ..
    · split
      · exact h.scanners s _
      · exact h.refl s
  · exact h.refl s

end

/-! ### The Touch Router -/

section
variable (h : TouchClosed R)
include h

theorem TouchClosed.contact (s : State) (n : ContactNo) (c : Option Contact) : R s (setContact s n c) := h.contacts s _

theorem TouchClosed.endContact (n : ContactNo) (c : Contact) (b : Bound) (e : ContactEnd) (s : State) :
    R s (endContact n c b e s) := by
  unfold Machine.endContact
  split
  · exact h.trans (h.offer? ‹_›) (h.contact ..)
  · exact h.contact ..

theorem TouchClosed.settle (n : ContactNo) (s : State) : R s (settle n s) := by
  unfold Machine.settle
  split
  · split
    · exact h.endContact ..
    · exact h.refl s
    · exact h.contact ..
    · exact h.contact ..
  · exact h.refl s

theorem TouchClosed.makeContact (p : PortNo) (id : ContactId) (cond : Contact.Condition) (s : State) :
    R s (makeContact p id cond s).1 := by
  unfold Machine.makeContact
  split
  · exact h.contact ..
  · exact h.refl s

theorem TouchClosed.bindContact (p : PortNo) (id : ContactId) (z : ZoneNo) (zn : Zone) (x y : Nat) (s : State) :
    R s (bindContact p id z zn x y s).1 := by
  unfold Machine.bindContact
  split
  · exact h.refl s
  · dsimp only
    split
    · exact h.trans (h.offer? ‹_›) (h.contact ..)
    · exact h.trans (h.contact ..) (h.gap ..)

theorem TouchClosed.downRunning (p : PortNo) (id : ContactId) (x y : Nat) (s : State) : R s (downRunning p id x y s).1 := by
  unfold Machine.downRunning
  split
  · exact h.makeContact ..
  · split
    · exact h.bindContact ..
    · exact h.makeContact ..

theorem TouchClosed.downQuiet (p : PortNo) (id : ContactId) (x y : Nat) (s : State) : R s (downQuiet p id x y s).1 := by
  unfold Machine.downQuiet
  split
  · exact h.makeContact ..
  · dsimp only
    split
    · exact h.trans (h.control _ _ ⟨_, _, _, _, _, _, _, _, _, _, _, _, _, _, _, _, _, _, _, rfl⟩) (h.makeContact ..)
    · exact h.makeContact ..

theorem TouchClosed.downEntry (p : PortNo) (id : ContactId) (x y : Nat) (s : State) : R s (downEntry p id x y s).1 := by
  unfold Machine.downEntry
  have down (t : State) : R t
      (match s.touchMode with | .running => Machine.downRunning p id x y t | .quiet => Machine.downQuiet p id x y t).1 := by
    split
    · exact h.downRunning ..
    · exact h.downQuiet ..
  cases byKey? s p id with
  | none => exact down s
  | some n => exact h.trans (h.settle n s) (down _)

theorem TouchClosed.moveEntry (p : PortNo) (id : ContactId) (x y : Nat) (s : State) : R s (moveEntry p id x y s).1 := by
  unfold Machine.moveEntry
  split
  · split
    · split
      · dsimp only
        unfold moveLive
        dsimp only
        split
        · split
          · exact h.trans (h.offer? ‹_›) (h.contact ..)
          · exact h.contact ..
        · exact h.contact ..
      all_goals exact h.refl s
    · exact h.refl s
  · exact h.refl s

theorem TouchClosed.endEntry (p : PortNo) (id : ContactId) (at? : Option (Nat × Nat)) (s : State) :
    R s (endEntry p id at? s).1 := by
  unfold Machine.endEntry
  split
  · split
    · exact h.endContact ..
    · exact h.settle ..
  · exact h.refl s

theorem TouchClosed.touchEntry (p : PortNo) (limit : Nat) (e : TouchEntry) (s : State) :
    R s (touchEntry p limit e s).1 := by
  unfold Machine.touchEntry
  split
  · split
    · exact h.refl s
    · split
      · exact h.downEntry ..
      · exact h.moveEntry ..
      · exact h.endEntry ..
      · exact h.endEntry ..
      · exact h.refl s
  · exact h.refl s

theorem TouchClosed.touchAll (p : PortNo) (limit : Nat) (l : List TouchEntry) (acc : State × Bool) :
    R acc.1 (touchAll p limit l acc).1 := by
  induction l generalizing acc with
  | nil => exact h.refl _
  | cons e rest ih =>
    obtain ⟨s, touched⟩ := acc
    exact h.trans (h.touchEntry p limit e s)
      (ih ((Machine.touchEntry p limit e s).1, touched || (Machine.touchEntry p limit e s).2))

theorem TouchClosed.touch (p : PortNo) (payload : List Byte) (s : State) : R s (touch p payload s).state := by
  unfold Machine.touch
  split
  · split
    · exact h.refl s
    · exact h.touchAll p _ _ (s, false)
  · exact h.refl s

theorem TouchClosed.flushOwed (st : StationNo) (l : List Owed) (s : State) (hl : s.delivery[st].owed = l) :
    R s (flushOwed st l s).1 := by
  induction l generalizing s with
  | nil => exact h.refl s
  | cons o rest ih =>
    unfold Machine.flushOwed
    split
    · refine h.trans (h.write st o.record o.stamp s ‹_›) (h.trans (h.unqueue _ st o rest ?_) (ih _ ?_))
      · exact (congrArg Delivery.owed (writeRecord_delivery_self ..)).trans hl
      · exact congrArg Delivery.owed (put_get ..)
    · exact h.refl s

theorem TouchClosed.flushEnd {st : StationNo} {n : ContactNo} {s t : State} (ht : flushEnd st n s = some t) : R s t := by
  unfold Machine.flushEnd at ht
  split at ht
  · split at ht
    · dsimp only at ht
      split at ht
      · split at ht
        · exact Option.some.inj ht ▸ h.trans (h.write _ _ _ _ ‹_›) (h.contact ..)
        · cases ht
      · exact Option.some.inj ht ▸ h.refl s
    all_goals exact Option.some.inj ht ▸ h.refl s
  · exact Option.some.inj ht ▸ h.refl s

theorem TouchClosed.flushMove {st : StationNo} {n : ContactNo} {s t : State} (ht : flushMove st n s = some t) : R s t := by
  unfold Machine.flushMove at ht
  split at ht
  · split at ht
    · dsimp only at ht
      split at ht
      · split at ht
        · exact Option.some.inj ht ▸ h.trans (h.write _ _ _ _ ‹_›) (h.contact ..)
        · cases ht
      · exact Option.some.inj ht ▸ h.refl s
    all_goals exact Option.some.inj ht ▸ h.refl s
  · exact Option.some.inj ht ▸ h.refl s

theorem TouchClosed.flushAll {item : ContactNo → State → Option State} (hi : ∀ {n s t}, item n s = some t → R s t)
    (l : List ContactNo) (s : State) : R s (flushAll item l s).1 := by
  induction l generalizing s with
  | nil => exact h.refl s
  | cons n rest ih =>
    unfold Machine.flushAll
    split
    · exact h.trans (hi ‹_›) (ih _)
    · exact h.refl s

theorem TouchClosed.flush (st : StationNo) (s : State) : R s (flush st s) := by
  unfold Machine.flush
  refine h.trans (h.flushOwed st _ s rfl) ?_
  dsimp only
  split
  · refine h.trans (h.flushAll (item := Machine.flushEnd st) h.flushEnd (List.finRange 32) _) ?_
    split
    · exact h.flushAll (item := Machine.flushMove st) h.flushMove ..
    · exact h.refl _
  · exact h.refl _

theorem TouchClosed.settleAll (test : Contact → Bool) (s : State) : R s (settleAll test s) := by
  refine h.foldl _ (fun t n => ?_) _ s
  split
  · split
    · exact h.settle ..
    · exact h.refl t
  · exact h.refl t

end

/-! ### The Port Controllers -/

theorem markSeen_advertised (now : Time) (r : Port) : (markSeen now r).advertised = r.advertised := by
  unfold markSeen
  split
  · split <;> rfl
  · rfl

section
variable (h : LinkClosed R)
include h

theorem LinkClosed.notify (kind : DeviceKind) (p : PortNo) (n : PortNotice) (s : State) : R s (notify kind p n s) := by
  cases kind <;> exact h.control _ _ ⟨_, _, _, _, _, _, _, _, _, _, _, _, _, _, _, _, _, _, _, rfl⟩

theorem LinkClosed.portChange (p : PortNo) (was : LinkState) (cause : LinkCause) (s : State) :
    R s (portChange p was cause s) := h.giveStatus ..

theorem LinkClosed.notifyArrival (p : PortNo) (d : DevProfile) (s : State) : R s (notifyArrival p d s) := by
  unfold Machine.notifyArrival
  dsimp only
  split
  · exact h.trans (h.notify ..) (h.notify ..)
  · exact h.notify ..

theorem LinkClosed.lossOf (p : PortNo) (was : Port) (s : State) : R s (lossOf p was s) := by
  unfold Machine.lossOf notifyLoss
  split
  · split
    · exact h.notify ..
    · exact h.refl s
  · exact h.refl s

theorem LinkClosed.silenceTimerExpiry (p : PortNo) (s : State) : R s (silenceTimerExpiry p s) := by
  unfold Machine.silenceTimerExpiry
  dsimp only
  split
  · exact h.trans (h.port _ _ _ (by exact fun _ => rfl)) (h.trans (h.portChange ..) (h.lossOf ..))
  · exact h.refl s

theorem LinkClosed.babbledFrame (p : PortNo) (s : State) : R s (babbledFrame p s) := by
  unfold Machine.babbledFrame
  dsimp only
  split
  · refine h.trans (h.port s p (fun r => { r with babbleCount := min (r.babbleCount + 1) 255, rx := none }) fun _ => rfl) ?_
    split
    · exact h.trans (h.port _ _ _ (by exact fun _ => rfl)) (h.trans (h.portChange ..) (h.lossOf ..))
    · exact h.port _ _ _ fun _ => rfl
  · exact h.refl s

theorem LinkClosed.completeIntro (p : PortNo) (s : State) : R s (completeIntro p s) := by
  unfold Machine.completeIntro
  split
  · split
    · split
      · dsimp only
        split
        · exact h.trans (h.port _ _ _ (by exact fun _ => rfl)) (h.portChange ..)
        · exact h.trans (h.port _ _ _ (by exact fun _ => rfl)) (h.trans (h.portChange ..) (h.notifyArrival ..))
      · exact h.refl s
    · exact h.refl s
  · exact h.refl s

theorem LinkClosed.profileFrame (p : PortNo) (payload : List Byte) (s : State) : R s (profileFrame p payload s) := by
  unfold Machine.profileFrame
  split
  · split
    · exact h.trans (h.port _ _ _ (by exact fun _ => markSeen_advertised ..)) (h.completeIntro ..)
    · exact h.trans (h.port _ _ _ (by exact fun _ => rfl)) (h.trans (h.portChange ..) (h.lossOf ..))
    all_goals exact h.refl s
  · exact h.refl s

theorem LinkClosed.profileSeenFrame (p : PortNo) (s : State) : R s (profileSeenFrame p s) := by
  unfold Machine.profileSeenFrame
  split
  · exact h.trans (h.port _ _ _ (by exact fun _ => rfl)) (h.completeIntro ..)
  · exact h.refl s

theorem LinkClosed.attemptTimerExpiry (p : PortNo) (s : State) : R s (attemptTimerExpiry p s) := by
  unfold Machine.attemptTimerExpiry
  split
  · split
    · exact h.port _ _ _ fun _ => rfl
    · exact h.refl s
  · exact h.refl s

theorem LinkClosed.profileResend (p : PortNo) (s : State) : R s (profileResend p s) := by
  unfold Machine.profileResend
  split
  · split
    · exact h.port _ _ _ fun _ => rfl
    · exact h.refl s
  · exact h.refl s

theorem LinkClosed.profileSeenResend (p : PortNo) (s : State) : R s (profileSeenResend p s) := by
  unfold Machine.profileSeenResend
  split
  · split
    · exact h.port _ _ _ fun _ => rfl
    · exact h.refl s
  · exact h.refl s

theorem LinkClosed.printerFrame (p : PortNo) (kind : Byte) (payload : List Byte) (s : State) :
    R s (printerFrame p kind payload s) := by
  unfold Machine.printerFrame
  split
  · split
    · split
      · exact h.ready ..
      · exact h.refl s
    · split
      · exact h.pageDone ..
      · split
        · exact h.credit ..
        · split
          · exact h.paper ..
          · exact h.refl s
    · split
      · exact h.pageFault ..
      · exact h.refl s
    · exact h.refl s
  · exact h.refl s

theorem LinkClosed.takeFrame (p : PortNo) (kind : Byte) (payload : List Byte) (s : State) :
    R s (takeFrame p kind payload s).state := by
  unfold Machine.takeFrame
  split
  · exact h.profileFrame ..
  · split
    · exact h.profileSeenFrame ..
    · split
      · show R s (scanFrame p payload s)
        unfold scanFrame
        split
        · exact h.scan ..
        · exact h.refl s
      · split
        · unfold touchFrame
          split
          · exact h.touch ..
          · exact h.refl s
        · exact h.printerFrame ..

theorem LinkClosed.restartSilence (p : PortNo) (s : State) : R s (restartSilence p s) := by
  unfold Machine.restartSilence
  split
  · exact h.port _ _ _ fun _ => rfl
  · exact h.refl s

theorem LinkClosed.setRx (p : PortNo) (rx : Option (List (BitVec 4))) (s : State) : R s (setRx p rx s) :=
  h.port _ _ _ fun _ => rfl

theorem LinkClosed.frameReceived (p : PortNo) (kind : Byte) (payload : List Byte) (s : State) :
    R s (frameReceived p kind payload s).state := by
  unfold Machine.frameReceived
  split
  · exact h.trans (h.restartSilence ..) (h.trans (h.setRx ..) (h.takeFrame ..))
  · exact h.refl s

theorem LinkClosed.assemble (p : PortNo) (g : GroupKind) (s : State) : R s (assemble p g s).state := by
  unfold Machine.assemble
  split
  · exact h.setRx p (some []) s
  · show R s (dataGroupIn p _ _ s)
    unfold dataGroupIn
    dsimp only
    split
    · exact h.babbledFrame ..
    · exact h.setRx ..
  · unfold endFrame
    dsimp only
    split
    · exact h.trans (h.setRx p none s) (h.takeFrame ..)
    · exact h.setRx p none s
  · exact h.setRx p none s
  · exact h.setRx p none s
  all_goals exact h.refl s

theorem LinkClosed.groupReceived (p : PortNo) (g : Group) (s : State) : R s (groupReceived p g s).state := by
  unfold Machine.groupReceived
  have linked : R s (Machine.assemble p (groupKind g)
      (if validGroup g = true then Machine.restartSilence p s else s)).state := by
    split
    · exact h.trans (h.restartSilence ..) (h.assemble ..)
    · exact h.assemble ..
  split
  · split
    · exact h.trans (h.port _ _ _ (by exact fun _ => rfl)) (h.assemble ..)
    · exact h.refl s
  · exact linked
  · exact linked
  · exact h.refl s
  · exact h.refl s

theorem LinkClosed.sendNext (p : PortNo) (s : State) : R s (updPort s p sendNext) := by
  refine h.port _ _ _ fun r => ?_
  unfold Machine.sendNext
  split
  · split <;> rfl
  · rfl

theorem LinkClosed.switchPace (p : PortNo) (s : State) : R s (updPort s p switchPace) := by
  refine h.port _ _ _ fun r => ?_
  unfold Machine.switchPace
  split <;> rfl

theorem LinkClosed.acknowledge (p : PortNo) (s : State) : R s (updPort s p acknowledge) := by
  refine h.port _ _ _ fun r => ?_
  unfold Machine.acknowledge
  split <;> rfl

end

end Sys2Proof.Machine
end

section
/-! ## Requests and commands that keep a relation -/

namespace Sys2Proof.Machine

open Sys2Proof.Safety
open Config

/-- What the owning block makes of a request of each kind (R161, R162). -/
def served : RequestKind → CardNo → State → Served
  | .reserve => serveReserve
  | .unreserve => serveUnreserve
  | .submit => serveSubmit
  | .cancelJob => serveCancel
  | .clearPrinter => serveClear
  | .claim => serveClaim
  | .release => serveRelease
  | .setPermits => serveSetPermits
  | .setService => serveSetService
  | .setQuota => serveSetQuota
  | .setPrinter => serveSetPrinter
  | .setScanner => serveSetScanner
  | .setZone => serveSetZone
  | .clearZone => serveClearZone
  | .setPort => serveSetPort
  | .ackPort => serveAckPort
  | .quiet => serveQuiet
  | .wake => serveWake

/-- A request row serves the card being served, when it is of its kind. -/
theorem exec_requestRow (k : RequestKind) (s : State) : exec (requestRow k) s = serve k (served k) s := by
  cases k <;> rfl

/-- The requests that act on the pool, the Station Table, the settings or the zone table, beside the records of a block. -/
def tableRequests : List RequestKind :=
  [.reserve, .unreserve, .submit, .setPermits, .setService, .setQuota, .setPrinter, .setScanner, .setZone, .clearZone,
   .setPort]

/-- A relation that the small writes of every block keep, and the answer in a card. -/
structure CommandClosed (R : State → State → Prop) : Prop extends LinkClosed R where
  answered : ∀ c a args s, R s (answerServed c a args s)

variable {R : State → State → Prop}

/-- A relation that follows from one that the small writes keep is kept by them, where it is transitive. -/
theorem CommandClosed.weaken (h : CommandClosed R) {R' : State → State → Prop} (follows : ∀ {s t}, R s t → R' s t)
    (trans : ∀ {s t u}, R' s t → R' t u → R' s u) : CommandClosed R' where
  refl s := follows (h.refl s)
  trans := trans
  write st r x s hf := follows (h.write st r x s hf)
  join s st r hl := follows (h.join s st r hl)
  gap s st := follows (h.gap s st)
  printers s v := follows (h.printers s v)
  jobs s v := follows (h.jobs s v)
  block s b := follows (h.block s b)
  holdings s st g := follows (h.holdings s st g)
  hand p f s hf := follows (h.hand p f s hf)
  withdraw p serial page s := follows (h.withdraw p serial page s)
  scanners s v := follows (h.scanners s v)
  contacts s v := follows (h.contacts s v)
  control s t hc := follows (h.control s t hc)
  unqueue s st o rest ho := follows (h.unqueue s st o rest ho)
  port s p f hf := follows (h.port s p f hf)
  answered c a args s := follows (h.answered c a args s)

theorem DeliveryClosed.checked (h : DeliveryClosed R) {s : State} (l : List (Bool × Answer)) {r : Served}
    (hr : R s r.state) : R s (checked s l r).state := by
  unfold Machine.checked
  split
  · exact h.refl s
  · exact hr

section
variable (h : LinkClosed R)
include h

theorem LinkClosed.publish (ps : List PortNo) (s t : State) : R t (publish ps s t) :=
  h.control _ _ ⟨_, _, _, _, _, _, _, _, _, _, _, _, _, _, _, _, _, _, _, rfl⟩

theorem LinkClosed.useOpen (s : State) : R s (useOpen s) :=
  h.control _ _ ⟨_, _, _, _, _, _, _, _, _, _, _, _, _, _, _, _, _, _, _, rfl⟩

theorem LinkClosed.tellRouters (n : QuietNotice) (s : State) : R s (tellRouters n s) :=
  h.control _ _ ⟨_, _, _, _, _, _, _, _, _, _, _, _, _, _, _, _, _, _, _, rfl⟩

theorem LinkClosed.reportPart (was : PartState) (s : State) : R s (reportPart was s) := h.giveStatus ..

theorem LinkClosed.enterQuietPart (s : State) : R s (enterQuietPart s) :=
  h.trans (h.control s { s with part := .quiet } ⟨_, _, _, _, _, _, _, _, _, _, _, _, _, _, _, _, _, _, _, rfl⟩)
    (h.trans (h.reportPart ..) (h.tellRouters ..))

theorem LinkClosed.wakePart (cause : WakeCause) (s : State) : R s (wakePart cause s) :=
  h.trans (h.control s { s with part := .running, wake := cause }
    ⟨_, _, _, _, _, _, _, _, _, _, _, _, _, _, _, _, _, _, _, rfl⟩) (h.trans (h.reportPart ..) (h.tellRouters ..))

/-- A request that acts on the records of one block keeps the relation. -/
theorem LinkClosed.served {k : RequestKind} (hk : k ∉ tableRequests) (c : CardNo) (s : State) :
    R s (served k c s).state := by
  cases k with
  | cancelJob =>
    refine h.checked _ ?_
    split
    · exact h.acceptCancel ..
    · exact h.refl s
  | clearPrinter =>
    refine h.checked _ ?_
    split
    · exact h.acceptClear ..
    · exact h.refl s
  | claim =>
    refine h.checked _ ?_
    split
    · exact h.acceptClaim ..
    · exact h.refl s
  | release =>
    show R s (serveRelease c s).state
    unfold serveRelease
    split
    · exact h.releaseAt ..
    · exact h.refl s
  | ackPort =>
    show R s (serveAckPort c s).state
    unfold serveAckPort
    split
    · exact h.refl s
    · exact h.acknowledge _ s
  | quiet =>
    show R s (serveQuiet c s).state
    unfold serveQuiet
    split
    · exact h.enterQuietPart s
    · exact h.refl s
  | wake =>
    show R s (serveWake c s).state
    unfold serveWake
    split
    · exact h.wakePart .request s
    · exact h.refl s
  | reserve | unreserve | submit | setPermits | setService | setQuota | setPrinter | setScanner | setZone | clearZone
  | setPort => exact absurd (by decide) hk

/-! ### The requests that act on the tables -/

theorem LinkClosed.reserve (pool : ∀ s m b f, R s { s with mem := m, blocks := b, free := f }) (c : CardNo) (s : State) :
    R s (serveReserve c s).state := by
  refine h.checked _ ?_
  have taken : ∀ (l : List BlockNo) t, R t (l.foldl (reserveBlock (cardStation c)) t) :=
    h.foldl _ fun t b => pool t _ _ _
  exact h.trans (pool s s.mem s.blocks _) (h.trans (taken _ _) (h.holdings _ _ (· + cardNum s c 8)))

theorem LinkClosed.unreserve (c : CardNo) (s : State) : R s (serveUnreserve c s).state :=
  h.checked _ (h.trans (h.freeBlocks ..) (h.holdings _ _ (· - cardNum s c 8)))

theorem LinkClosed.submit (pool : ∀ s m b f, R s { s with mem := m, blocks := b, free := f })
    (count : ∀ s n, R s { s with acceptance := n }) (c : CardNo) (s : State) : R s (serveSubmit c s).state := by
  refine h.checked _ ?_
  split
  · rename_i p cls j _ _ _
    have committed : ∀ l t, R t (commitBlocks j l t) := h.foldl _ fun t b => pool t t.mem _ t.free
    exact h.trans (count s (s.acceptance + 1)) (h.trans (h.jobs _ _) (h.trans (committed ..)
      (h.trans (h.printer _ _ _) (h.afterJoin ..))))
  · exact h.refl s

theorem LinkClosed.setPermits (permits : ∀ s st x, R s (updStation s st fun r => { r with permits := x })) (c : CardNo)
    (s : State) : R s (serveSetPermits c s).state := by
  unfold serveSetPermits
  split
  · exact h.trans (permits s _ _) (h.trans (h.foldl _ (h.withdrawPermit _) _ _) (h.useOpen _))
  · exact h.useOpen s

theorem LinkClosed.setService (retire : ∀ s st, st ≠ 0 → R s (retire st s)) (reinstate : ∀ s st, R s (reinstate st s))
    (c : CardNo) (s : State) : R s (serveSetService c s).state := by
  unfold serveSetService
  split
  · rename_i st _
    unfold Machine.checked
    split
    · exact h.useOpen s
    · rename_i hpass
      unfold acceptSetService
      split
      · rename_i hv
        have h0 := (firstFailing_none_iff _).mp hpass _ (.tail _ (.head _))
        refine h.trans (retire s st fun h => ?_) (h.useOpen _)
        simp [h, hv] at h0
      · exact h.trans (reinstate s st) (h.useOpen _)
  · exact h.useOpen s

theorem LinkClosed.setQuota (quota : ∀ s st x, R s (updStation s st fun r => { r with quota := x })) (c : CardNo)
    (s : State) : R s (serveSetQuota c s).state := by
  unfold serveSetQuota
  split
  · exact h.trans (quota s _ _) (h.useOpen _)
  · exact h.useOpen s

theorem LinkClosed.setPrinter (settings : ∀ s v, R s { s with printerSet := v }) (c : CardNo) (s : State) :
    R s (serveSetPrinter c s).state := by
  unfold serveSetPrinter
  split
  · rename_i p _
    have stored := settings s (put s.printerSet p
      { pageTimeout := max (cardNum s c 9) 5, reconnectWindow := cardNum s c 10
        suspendAllowed := cardByte s c 11 ≠ 0 })
    unfold acceptSetPrinter
    dsimp only
    split
    · exact stored
    · exact h.trans stored (h.printer ..)
  · exact h.refl s

theorem LinkClosed.setScanner (settings : ∀ s v, R s { s with scannerSet := v }) (c : CardNo) (s : State) :
    R s (serveSetScanner c s).state := by
  unfold serveSetScanner
  split
  · exact h.refl s
  · dsimp only
    split
    · exact settings s _
    · exact h.refl s

theorem LinkClosed.setZone (zones : ∀ s v, R s { s with zones := v }) (c : CardNo) (s : State) :
    R s (serveSetZone c s).state := by
  refine h.checked _ ?_
  split
  · exact zones s _
  · exact h.refl s

theorem LinkClosed.clearZone (zones : ∀ s v, R s { s with zones := v }) (c : CardNo) (s : State) :
    R s (serveClearZone c s).state := by
  unfold serveClearZone
  split
  · exact h.refl s
  · split
    · exact zones s _
    · exact h.refl s

theorem LinkClosed.setPort (paces : ∀ s p x, R s (updPort s p fun r => { r with advertised := x })) (c : CardNo)
    (s : State) : R s (serveSetPort c s).state := by
  unfold serveSetPort
  dsimp only
  split
  · exact h.refl s
  · split
    · exact h.refl s
    · exact paces s _ _

/-! ### Events -/

/-- An event keeps the relation when what it does to the state does. -/
theorem LinkClosed.event {f : State → State} {s t : State} (ht : event f s = .next t) (hf : R s (f s)) : R s t :=
  Host.Outcome.next.inj ht ▸ h.trans hf (h.publish ..)

theorem LinkClosed.eventMarked {f : State → Marked} {s t : State} (ht : eventMarked f s = .next t)
    (hf : R s (f s).state) : R s t :=
  Host.Outcome.next.inj ht ▸ h.trans hf (h.publish ..)

/-! ### Notices taken by the blocks -/

theorem LinkClosed.popPrint (p : PortNo) (s : State) : R s (popPrint p s) :=
  h.control _ _ ⟨_, _, _, _, _, _, _, _, _, _, _, _, _, _, _, _, _, _, _, rfl⟩

theorem LinkClosed.popScan (p : PortNo) (s : State) : R s (popScan p s) :=
  h.control _ _ ⟨_, _, _, _, _, _, _, _, _, _, _, _, _, _, _, _, _, _, _, rfl⟩

theorem LinkClosed.printerLinkLoss (p : PortNo) (s : State) : R s (printerLinkLoss p s) := by
  unfold Machine.printerLinkLoss
  split
  · split
    · exact h.trans (h.popPrint ..) (h.losePrinter ..)
    · exact h.popPrint ..
  · exact h.refl s

theorem LinkClosed.printerArrival (p : PortNo) (s : State) : R s (printerArrival p s) := by
  unfold Machine.printerArrival
  split
  · split
    · exact h.trans (h.popPrint ..) (h.printer ..)
    · exact h.refl s
  · exact h.refl s

theorem LinkClosed.printerReturn (p : PortNo) (s : State) : R s (printerReturn p s) := by
  unfold Machine.printerReturn
  split
  · split
    · rename_i d _ _
      refine h.trans (h.trans (h.popPrint p s) (h.trans (h.printer _ p (comeBack d)) (h.clearTransients p _))) ?_
      dsimp only
      split
      · exact h.resumePage ..
      · exact h.choose ..
    · exact h.refl s
  · exact h.refl s

theorem LinkClosed.kindChange (p : PortNo) (s : State) : R s (kindChange p s) := by
  unfold Machine.kindChange
  split
  · split
    · exact h.trans (h.popPrint ..) (h.loseDevice ..)
    · exact h.popPrint ..
  · exact h.refl s

theorem LinkClosed.scannerLinkLoss (p : PortNo) (s : State) : R s (scannerLinkLoss p s) := by
  unfold Machine.scannerLinkLoss
  split
  · split
    · exact h.popScan ..
    · exact h.trans (h.popScan ..) (h.loseScanner ..)
  · exact h.refl s

theorem LinkClosed.scannerArrival (p : PortNo) (s : State) : R s (scannerArrival p s) := by
  unfold Machine.scannerArrival
  split
  · split
    · exact h.trans (h.popScan ..) (h.scanner ..)
    · exact h.popScan ..
  · exact h.refl s

theorem LinkClosed.panelLinkLoss (p : PortNo) (s : State) : R s (panelLinkLoss p s).state := by
  unfold Machine.panelLinkLoss
  split
  · dsimp only
    exact h.trans (h.control _ _ ⟨_, _, _, _, _, _, _, _, _, _, _, _, _, _, _, _, _, _, _, rfl⟩) (h.settleAll ..)
  · exact h.refl s

theorem LinkClosed.panelArrival (p : PortNo) (s : State) : R s (panelArrival p s) := by
  unfold Machine.panelArrival
  split
  · exact h.control _ _ ⟨_, _, _, _, _, _, _, _, _, _, _, _, _, _, _, _, _, _, _, rfl⟩
  · exact h.refl s

theorem LinkClosed.printersEnterQuiet (s : State) : R s (printersEnterQuiet s) := by
  unfold Machine.printersEnterQuiet
  split
  · exact h.trans (h.printers s (s.printers.map enterQuiet))
      (h.control _ _ ⟨_, _, _, _, _, _, _, _, _, _, _, _, _, _, _, _, _, _, _, rfl⟩)
  · exact h.refl s

theorem LinkClosed.printersLeaveQuiet (s : State) : R s (printersLeaveQuiet s) := by
  unfold Machine.printersLeaveQuiet
  split
  · exact h.trans (h.control _ _ ⟨_, _, _, _, _, _, _, _, _, _, _, _, _, _, _, _, _, _, _, rfl⟩)
      (h.foldl _ h.wakePrinter _ _)
  · exact h.refl s

theorem LinkClosed.scannersEnterQuiet (s : State) : R s (scannersEnterQuiet s) := by
  unfold Machine.scannersEnterQuiet
  split
  · exact h.trans (h.control _ _ ⟨_, _, _, _, _, _, _, _, _, _, _, _, _, _, _, _, _, _, _, rfl⟩)
      (h.foldl _ (fun t p => h.tearDown p .quiet t) _ _)
  · exact h.refl s

theorem LinkClosed.scannersLeaveQuiet (s : State) : R s (scannersLeaveQuiet s) := by
  unfold Machine.scannersLeaveQuiet
  split
  · exact h.control _ _ ⟨_, _, _, _, _, _, _, _, _, _, _, _, _, _, _, _, _, _, _, rfl⟩
  · exact h.refl s

theorem LinkClosed.touchEnterQuiet (s : State) : R s (touchEnterQuiet s) := by
  unfold Machine.touchEnterQuiet
  split
  · exact h.trans (h.control _ _ ⟨_, _, _, _, _, _, _, _, _, _, _, _, _, _, _, _, _, _, _, rfl⟩) (h.settleAll ..)
  · exact h.refl s

theorem LinkClosed.touchLeaveQuiet (s : State) : R s (touchLeaveQuiet s) := by
  unfold Machine.touchLeaveQuiet
  split
  · exact h.control _ _ ⟨_, _, _, _, _, _, _, _, _, _, _, _, _, _, _, _, _, _, _, rfl⟩
  · exact h.refl s

theorem LinkClosed.wakeTouch (s : State) : R s (wakeTouch s) := by
  unfold Machine.wakeTouch
  split
  · rename_i rest _
    have taken : R s { s with wakeReports := rest } :=
      h.control _ _ ⟨_, _, _, _, _, _, _, _, _, _, _, _, _, _, _, _, _, _, _, rfl⟩
    dsimp only
    split
    · exact h.trans taken (h.wakePart ..)
    · exact taken
  · exact h.refl s

end

/-! ### Host writes and the taking of a card -/

/-- What a host write can do (R151): nothing, a taken mark, a card's state byte after its other bytes, other bytes of
memory, NOTICE, NOTICE MASK or PART CONTROL written. -/
theorem hostWrite_induction {P : State → Prop} (w : HostWrite) {s : State} (same : P s)
    (mark : ∀ st v, P (Machine.publish [] s (takenMarkWrite st v s)))
    (card : ∀ c v a bs, P (writeCardState c v { s with mem := writeBytes s.mem a bs }))
    (bytes : ∀ a bs, P { s with mem := writeBytes s.mem a bs })
    (notice : ∀ n, P { s with notice := n }) (mask : ∀ n, P { s with noticeMask := n })
    (control : ∀ v, P (controlWrite v s)) : P (hostWrite w s) := by
  have cardBytes : ∀ c a bs, P (writeCardBytes c a bs s) := fun c a bs => by
    unfold writeCardBytes
    split
    · exact bytes a bs
    · exact same
  unfold hostWrite
  dsimp only
  split
  · exact same
  · split
    · split
      · unfold writeArea
        dsimp only
        split
        · exact mark _ _
        · split
          · exact same
          · split
            · unfold writeCard
              split
              · split
                · exact same
                · unfold writeCardBytes
                  split
                  · exact card _ _ _ _
                  · exact card _ _ 0 []
              · exact cardBytes _ _ _
            · exact same
      · exact same
    · split
      · unfold writePool
        split
        · exact bytes _ _
        · exact same
      · split
        · exact same
        · unfold writeRegister
          split
          · exact control _
          · exact same
          · exact notice _
          · exact mask _

/-- What the taking of a card can do (R160, R161): nothing, the head card taken, or taken and answered. -/
theorem takeCard_induction {P : State → Prop} {s : State} (same : P s) (taken : ∀ c rest, P (takeHead s c rest))
    (answered : ∀ c rest a, P (answerServed c a [] (takeHead s c rest))) : P (takeCard s) := by
  unfold takeCard
  split
  · exact same
  · split
    · dsimp only
      split
      · exact answered _ _ _
      · exact taken _ _
    · exact same

/-! ### Every command -/

section
variable (h : CommandClosed R)
include h

/-- A request row keeps the relation when its owning block does. -/
theorem CommandClosed.serve {k : RequestKind} {f : CardNo → State → Served} {s t : State} (ht : serve k f s = .next t)
    (hf : ∀ c, R s (f c s).state) : R s t := by
  unfold Machine.serve at ht
  split at ht
  · exact Host.Outcome.next.inj ht ▸ h.refl s
  · split at ht
    · exact Host.Outcome.next.inj ht ▸ h.trans (hf _) (h.trans (h.answered ..) (h.publish ..))
    · exact Host.Outcome.next.inj ht ▸ h.refl s

/-- A relation that the small writes keep is kept by every command but a full reset, when it is kept by host writes, by the
taking of a card and, for a request row, by what its owning block does. -/
theorem CommandClosed.exec {i : Instr} {s t : State} (ht : exec i s = .next t) (hi : i ≠ .fullReset)
    (hw : ∀ w, R s (hostWrite w s)) (hc : R s (takeCard s))
    (hq : ∀ k, i = requestRow k → ∀ c, R s (Machine.served k c s).state) : R s t := by
  have write : ∀ w, (Host.Outcome.next (hostWrite w s) : Out) = .next t → R s t :=
    fun w e => Host.Outcome.next.inj e ▸ hw w
  have row : ∀ k, i = requestRow k → R s t := fun k e =>
    h.serve ((exec_requestRow k s).symm.trans (e ▸ ht)) (hq k e)
  cases i with
  | fullReset => exact absurd rfl hi
  | run w | softReset w | registerWriteDiscarded w | noticeWrite w | noticeMaskWrite w | hostWrite w | poolBlockWrite w
  | cardByteWrite w | cardStateWrite w | takenMarkWrite w => exact write w ht
  | takeCard => exact Host.Outcome.next.inj ht ▸ hc
  | reserve => exact row .reserve rfl
  | unreserve => exact row .unreserve rfl
  | submit => exact row .submit rfl
  | cancelJob => exact row .cancelJob rfl
  | clearPrinter => exact row .clearPrinter rfl
  | claim => exact row .claim rfl
  | release => exact row .release rfl
  | setPermits => exact row .setPermits rfl
  | setService => exact row .setService rfl
  | setQuota => exact row .setQuota rfl
  | setPrinter => exact row .setPrinter rfl
  | setScanner => exact row .setScanner rfl
  | setZone => exact row .setZone rfl
  | clearZone => exact row .clearZone rfl
  | setPort => exact row .setPort rfl
  | ackPort => exact row .ackPort rfl
  | quiet => exact row .quiet rfl
  | wake => exact row .wake rfl
  | wakeTouch => exact h.event ht (h.wakeTouch s)
  | printersEnterQuiet => exact h.event ht (h.printersEnterQuiet s)
  | scannersEnterQuiet => exact h.event ht (h.scannersEnterQuiet s)
  | touchEnterQuiet => exact h.event ht (h.touchEnterQuiet s)
  | printersLeaveQuiet => exact h.event ht (h.printersLeaveQuiet s)
  | scannersLeaveQuiet => exact h.event ht (h.scannersLeaveQuiet s)
  | touchLeaveQuiet => exact h.event ht (h.touchLeaveQuiet s)
  | validGroupReceived p g => exact h.eventMarked ht (h.groupReceived p g s)
  | profileResend p => exact Host.Outcome.next.inj ht ▸ h.profileResend p s
  | profileSeenResend p => exact Host.Outcome.next.inj ht ▸ h.profileSeenResend p s
  | sendFrame p => exact Host.Outcome.next.inj ht ▸ h.sendNext p s
  | paceSwitch p => exact Host.Outcome.next.inj ht ▸ h.switchPace p s
  | babbledFrame p =>
    exact h.event (f := fun s => Machine.babbledFrame p (Machine.restartSilence p s)) ht
      (h.trans (h.restartSilence p s) (h.babbledFrame p _))
  | profile p payload | profileSeen p payload | pageDone p payload | credit p payload | pageFault p payload
  | ready p payload | paper p payload | scan p payload | touch p payload =>
    exact h.eventMarked ht (h.frameReceived p _ payload s)
  | attemptTimerExpiry p => exact Host.Outcome.next.inj ht ▸ h.attemptTimerExpiry p s
  | silenceTimerExpiry p => exact h.event ht (h.silenceTimerExpiry p s)
  | printerLinkLoss p => exact h.event ht (h.printerLinkLoss p s)
  | scannerLinkLoss p => exact h.event ht (h.scannerLinkLoss p s)
  | panelLinkLoss p => exact h.eventMarked ht (h.panelLinkLoss p s)
  | printerArrival p => exact h.event ht (h.printerArrival p s)
  | printerReturn p => exact h.event ht (h.printerReturn p s)
  | kindChange p => exact h.event ht (h.kindChange p s)
  | scannerArrival p => exact h.event ht (h.scannerArrival p s)
  | panelArrival p => exact h.event ht (h.panelArrival p s)
  | reconnectTimerExpiry p => exact h.event ht (h.reconnectTimerExpiry p s)
  | pageTimerExpiry p => exact h.event ht (h.pageTimerExpiry p s)
  | idleTimerExpiry p => exact h.event ht (h.idleTimerExpiry p s)
  | symbolGroupReceived p g => exact h.eventMarked ht (h.groupReceived p g s)
  | millisecondTick =>
    exact Host.Outcome.next.inj ht ▸ h.control _ _ ⟨_, _, _, _, _, _, _, _, _, _, _, _, _, _, _, _, _, _, _, rfl⟩

end

end Sys2Proof.Machine
end

section
/-! ## The law of a ring (R166–R172) -/

namespace Sys2Proof.Machine

open Sys2Proof.Safety
open Config

/-- Every record takes a multiple of 8 bytes (R167). -/
theorem recordLength_mod (r : Record) : recordLength r % 8 = 0 := by
  unfold recordLength
  split <;> omega

/-- A record that fits keeps the law of the ring (R168, R169). -/
theorem ringOk_afterWrite {d : Delivery} {n : Nat} (hd : RingOk d) (hn : n % 8 = 0) (hf : fits d n = true) :
    RingOk (afterWrite d n) := by
  obtain ⟨hw8, hw, ht8, ht, hu, ho⟩ := hd
  unfold fits neededBytes at hf
  unfold RingOk afterWrite nextMark
  unfold usedBytes toEnd ringBytes ringFull at *
  dsimp only
  simp only [decide_eq_true_eq] at hf
  split at hf
  · rw [if_pos ‹_›]
    omega
  · rw [if_neg ‹_›]
    omega

/-- A taken mark moved as R171 says keeps the law of the ring. -/
theorem ringOk_takenMark {d : Delivery} (hd : RingOk d) (v : Nat) : RingOk { d with t := takenMark d v } := by
  obtain ⟨hw8, hw, ht8, ht, hu, ho⟩ := hd
  unfold RingOk takenMark
  unfold usedBytes ringBytes ringFull at *
  dsimp only
  split
  · omega
  · split <;> omega

/-- A ring with both marks 0 keeps its law while its queue is short enough (R16, R166). -/
theorem ringOk_empty {d : Delivery} (hw : d.w = 0) (ht : d.t = 0) (ho : d.owed.length ≤ owedMax) : RingOk d := by
  unfold RingOk usedBytes
  rw [hw, ht]
  exact ⟨rfl, by decide, rfl, by decide, by decide, ho⟩

/-- One delivery state replaced by one that keeps the law. -/
theorem ringsOk_put {s t : State} (hs : RingsOk s) {st : StationNo} {d : Delivery} (hd : RingOk d)
    (ht : t.delivery = put s.delivery st d) : RingsOk t := by
  intro other
  rw [ht, Fin.getElem_fin, put_get_eq]
  split
  · exact hd
  · exact hs other

theorem ringsOk_updDelivery {s : State} (hs : RingsOk s) {st : StationNo} {f : Delivery → Delivery}
    (hf : RingOk s.delivery[st] → RingOk (f s.delivery[st])) : RingsOk (updDelivery s st f) :=
  ringsOk_put hs (hf (hs st)) rfl

/-- Every ring keeps its law where the delivery states are the same. -/
theorem ringsOk_of_delivery {s t : State} (hs : RingsOk s) (ht : t.delivery = s.delivery) : RingsOk t := by
  intro st
  rw [ht]
  exact hs st

theorem hand_delivery (p : PortNo) (f : OutFrame) (s : State) : (hand p f s).delivery = s.delivery := by
  unfold hand
  split <;> rfl

theorem freeBlock_delivery (s : State) (b : BlockNo) : (freeBlock s b).delivery = s.delivery := by
  unfold freeBlock
  split <;> rfl

/-- The law of each ring goes over from one state to another. -/
def RingsKept (s t : State) : Prop := RingsOk s → RingsOk t

/-- The small writes of every block keep the law of each ring. -/
theorem ringsKept_commandClosed : CommandClosed RingsKept where
  refl _ := id
  trans h k := k ∘ h
  write st r x s hf hs := ringsOk_put hs (ringOk_afterWrite (hs st) (recordLength_mod r) hf) rfl
  join s st r hl hs := ringsOk_updDelivery hs fun ⟨hw8, hw, ht8, ht, hu, _⟩ =>
    ⟨hw8, hw, ht8, ht, hu, (List.length_append ..).trans_le hl⟩
  gap s st hs := ringsOk_updDelivery hs id
  printers s v hs := hs
  jobs s v hs := hs
  block s b hs := ringsOk_of_delivery hs (freeBlock_delivery s b)
  holdings s st g hs := hs
  hand p f s _ hs := ringsOk_of_delivery hs (hand_delivery p f s)
  withdraw p serial page s hs := hs
  scanners s v hs := hs
  contacts s v hs := hs
  control s t h hs := by
    obtain ⟨_, _, _, _, _, _, _, _, _, _, _, _, _, _, _, _, _, _, _, rfl⟩ := h
    exact hs
  unqueue s st o rest h hs := ringsOk_updDelivery hs fun ⟨hw8, hw, ht8, ht, hu, ho⟩ =>
    ⟨hw8, hw, ht8, ht, hu, (Nat.le_succ rest.length).trans ((congrArg List.length h).symm.trans_le ho)⟩
  port s p f _ hs := hs
  answered c a args s hs := hs

theorem retireCards_delivery (st : StationNo) (s : State) : (retireCards st s).delivery = s.delivery := by
  unfold retireCards
  refine foldl_inv (P := fun t : State => t.delivery = s.delivery) _ (fun _ _ h => ?_) _ _ rfl
  exact h

/-- A frozen ring keeps its law (R14). -/
theorem freezeRing_ringsKept (st : StationNo) (s : State) : RingsKept s (freezeRing st s) := fun hs =>
  ringsOk_put hs (st := st) (d := { s.delivery[st] with owed := [], frozen := true })
    (by obtain ⟨hw8, hw, ht8, ht, hu, _⟩ := hs st; exact ⟨hw8, hw, ht8, ht, hu, Nat.zero_le _⟩) rfl

/-- A retirement is its seven steps (R10). -/
theorem retire_eq (st : StationNo) (s : State) : retire st s =
    freezeRing st (freeContacts st (retireClaims st (updStation (retireCurrents st (retireIdleJobs st (retireBlocks st
      (retireCards st (updStation s st fun r => { r with service := .outOfService }))))) st
      fun r => { r with holdings := 0 }))) := rfl

/-- A retirement keeps the law of each ring (R14). -/
theorem retire_ringsKept (st : StationNo) (s : State) : RingsKept s (retire st s) := by
  have closed := ringsKept_commandClosed
  have cards : RingsKept s (retireCards st (updStation s st fun r => { r with service := .outOfService })) :=
    fun hs => ringsOk_of_delivery hs (retireCards_delivery ..)
  rw [retire_eq]
  exact closed.trans cards (closed.trans (closed.retireJobs st _) (closed.trans (closed.holdings _ st fun _ => 0)
    (closed.trans (closed.retireClaims st _) (closed.trans (closed.contacts _ _) (freezeRing_ringsKept st _)))))

/-- A reinstatement keeps the law of each ring (R16). -/
theorem reinstate_ringsKept (st : StationNo) (s : State) : RingsKept s (reinstate st s) := fun hs =>
  ringsOk_updDelivery (s := updStation s st _) hs fun ⟨_, _, _, _, _, ho⟩ => ringOk_empty rfl rfl ho

/-- A taken-mark write keeps the law of each ring (R171, R172). -/
theorem takenMarkWrite_ringsKept (st : StationNo) (v : Nat) (s : State) : RingsKept s (takenMarkWrite st v s) := by
  have closed := ringsKept_commandClosed
  unfold takenMarkWrite
  split
  · exact closed.trans (fun hs => ringsOk_updDelivery hs fun hd => ringOk_takenMark hd v) (closed.flush st _)
  · exact closed.refl s

/-- A soft reset leaves every ring empty (R166). -/
theorem softReset_ringsKept (s : State) : RingsKept s (softReset s) := by
  intro _ st
  have hd : (softReset s).delivery[st] = softDelivery ((List.finRange 8).foldl abandonPage s).delivery[st] :=
    Vector.getElem_map ..
  rw [hd]
  exact ringOk_empty rfl rfl (Nat.zero_le _)

theorem controlWrite_ringsKept (v : Half) (s : State) : RingsKept s (controlWrite v s) := by
  have run : ∀ t, RingsKept t (startPart t) := fun t => by
    unfold startPart
    split
    · exact id
    · exact id
  have reset : RingsKept s (if v.getLsbD 1 = true then softReset s else s) := by
    split
    · exact softReset_ringsKept s
    · exact id
  unfold controlWrite
  dsimp only
  split
  · exact fun hs => run _ (reset hs)
  · exact reset

theorem writeCardState_delivery (c : CardNo) (v : Byte) (s : State) :
    (writeCardState c v s).delivery = s.delivery := by
  unfold writeCardState
  split
  · rfl
  · split <;> rfl

theorem hostWrite_ringsKept (w : HostWrite) (s : State) : RingsKept s (hostWrite w s) :=
  hostWrite_induction (P := RingsKept s) w id (fun st v => takenMarkWrite_ringsKept st v s)
    (fun c v _ _ hs => ringsOk_of_delivery hs (writeCardState_delivery c v _))
    (fun _ _ => id) (fun _ => id) (fun _ => id) fun v => controlWrite_ringsKept v s

/-- What a served request makes of the state keeps the law of each ring. -/
theorem served_ringsKept (k : RequestKind) (c : CardNo) (s : State) : RingsKept s (served k c s).state := by
  have closed := ringsKept_commandClosed.toLinkClosed
  cases k with
  | reserve => exact closed.reserve (fun _ _ _ _ => id) c s
  | unreserve => exact closed.unreserve c s
  | submit => exact closed.submit (fun _ _ _ _ => id) (fun _ _ => id) c s
  | setPermits => exact closed.setPermits (fun _ _ _ => id) c s
  | setService => exact closed.setService (fun s st _ => retire_ringsKept st s) (fun s st => reinstate_ringsKept st s) c s
  | setQuota => exact closed.setQuota (fun _ _ _ => id) c s
  | setPrinter => exact closed.setPrinter (fun _ _ => id) c s
  | setScanner => exact closed.setScanner (fun _ _ => id) c s
  | setZone => exact closed.setZone (fun _ _ => id) c s
  | clearZone => exact closed.clearZone (fun _ _ => id) c s
  | setPort => exact closed.setPort (fun _ _ _ => id) c s
  | cancelJob | clearPrinter | claim | release | ackPort | quiet | wake => exact closed.served (by decide) c s

/-- Every command keeps the law of each ring (R166). -/
theorem exec_ringsKept {i : Instr} {s t : State} (ht : exec i s = .next t) : RingsKept s t := by
  by_cases hi : i = .fullReset
  · subst hi
    cases ht
    intro _ st
    have hd : State.reset.delivery[st] = Delivery.reset := Vector.getElem_replicate ..
    show RingOk State.reset.delivery[st]
    rw [hd]
    exact ringOk_empty rfl rfl (Nat.zero_le _)
  · exact ringsKept_commandClosed.exec ht hi (fun w => hostWrite_ringsKept w s)
      (takeCard_induction (P := RingsKept s) id (fun _ _ => id) fun _ _ _ => id) fun k _ c => served_ringsKept k c s

/-! ## Configuration -/

/-- What the requests of the supervisor and SUBMIT set, from one state to another where the command is none that sets it:
the items of the Station Table, whether a ring is frozen, the settings, the zone table, the advertised sets and the
acceptance counter (R1, R14, R34, R44, R87, R103, R137). -/
structure ConfigKept (i : Instr) (s t : State) : Prop where
  permits : i ≠ .setPermits → ∀ st : StationNo, t.stations[st].permits = s.stations[st].permits
  quota : i ≠ .setQuota → ∀ st : StationNo, t.stations[st].quota = s.stations[st].quota
  service : i ≠ .setService → ∀ st : StationNo, t.stations[st].service = s.stations[st].service
  frozen : i ≠ .setService → ∀ st : StationNo, t.delivery[st].frozen = s.delivery[st].frozen
  printerSet : i ≠ .setPrinter → t.printerSet = s.printerSet
  scannerSet : i ≠ .setScanner → t.scannerSet = s.scannerSet
  zones : i ≠ .setZone → i ≠ .clearZone → t.zones = s.zones
  advertised : i ≠ .setPort → ∀ p : PortNo, t.ports[p].advertised = s.ports[p].advertised
  acceptance : i ≠ .submit → t.acceptance = s.acceptance

theorem ConfigKept.refl (i : Instr) (s : State) : ConfigKept i s s :=
  ⟨fun _ _ => rfl, fun _ _ => rfl, fun _ _ => rfl, fun _ _ => rfl, fun _ => rfl, fun _ => rfl, fun _ _ => rfl,
   fun _ _ => rfl, fun _ => rfl⟩

theorem ConfigKept.trans {i : Instr} {s t u : State} (h : ConfigKept i s t) (k : ConfigKept i t u) : ConfigKept i s u where
  permits hi st := (k.permits hi st).trans (h.permits hi st)
  quota hi st := (k.quota hi st).trans (h.quota hi st)
  service hi st := (k.service hi st).trans (h.service hi st)
  frozen hi st := (k.frozen hi st).trans (h.frozen hi st)
  printerSet hi := (k.printerSet hi).trans (h.printerSet hi)
  scannerSet hi := (k.scannerSet hi).trans (h.scannerSet hi)
  zones hi hj := (k.zones hi hj).trans (h.zones hi hj)
  advertised hi p := (k.advertised hi p).trans (h.advertised hi p)
  acceptance hi := (k.acceptance hi).trans (h.acceptance hi)

/-- A field of a table's entries is kept when the one entry that is replaced keeps it. -/
theorem put_field {α β : Type} {n : Nat} (g : α → β) (v : Vector α n) (i : Fin n) (x : α) (h : g x = g v[i]) (j : Fin n) :
    g (put v i x)[j] = g v[j] := by
  rw [Fin.getElem_fin, put_get_eq]
  split
  · subst_vars; exact h
  · rfl

theorem configKept_updDelivery (i : Instr) (s : State) (st : StationNo) (f : Delivery → Delivery)
    (h : (f s.delivery[st]).frozen = s.delivery[st].frozen) : ConfigKept i s (updDelivery s st f) :=
  { ConfigKept.refl i s with frozen := fun _ => put_field Delivery.frozen s.delivery st _ h }

theorem configKept_updPort (i : Instr) (s : State) (p : PortNo) (f : Port → Port)
    (h : i ≠ .setPort → (f s.ports[p]).advertised = s.ports[p].advertised) : ConfigKept i s (updPort s p f) :=
  { ConfigKept.refl i s with advertised := fun hi => put_field Port.advertised s.ports p _ (h hi) }

/-- The small writes of every block leave the configuration as it is. -/
theorem configKept_commandClosed (i : Instr) : CommandClosed (ConfigKept i) where
  refl := .refl i
  trans := .trans
  write st r x s _ :=
    { ConfigKept.refl i s with frozen := fun _ => put_field Delivery.frozen s.delivery st _ rfl }
  join s st r _ := configKept_updDelivery i s st _ rfl
  gap s st := configKept_updDelivery i s st _ rfl
  printers s _ := { ConfigKept.refl i s with }
  jobs s _ := { ConfigKept.refl i s with }
  block s b := by
    unfold freeBlock
    split
    · exact .refl i s
    · exact { ConfigKept.refl i s with }
  holdings s st g :=
    { ConfigKept.refl i s with
      permits := fun _ => put_field Station.permits s.stations st _ rfl
      quota := fun _ => put_field Station.quota s.stations st _ rfl
      service := fun _ => put_field Station.service s.stations st _ rfl }
  hand p f s _ := by
    unfold hand
    split
    · exact configKept_updPort i s p _ fun _ => rfl
    · exact .refl i s
  withdraw p serial page s := configKept_updPort i s p _ fun _ => rfl
  scanners s _ := { ConfigKept.refl i s with }
  contacts s _ := { ConfigKept.refl i s with }
  control s t h := by
    obtain ⟨_, _, _, _, _, _, _, _, _, _, _, _, _, _, _, _, _, _, _, rfl⟩ := h
    exact { ConfigKept.refl i s with }
  unqueue s st o rest _ := configKept_updDelivery i s st _ rfl
  port s p f h := configKept_updPort i s p f fun _ => h _
  answered c a args s := { ConfigKept.refl i s with }

theorem configKept_updStation (i : Instr) (s : State) (st : StationNo) (f : Station → Station)
    (hp : i ≠ .setPermits → (f s.stations[st]).permits = s.stations[st].permits)
    (hq : i ≠ .setQuota → (f s.stations[st]).quota = s.stations[st].quota)
    (hs : i ≠ .setService → (f s.stations[st]).service = s.stations[st].service) : ConfigKept i s (updStation s st f) :=
  { ConfigKept.refl i s with
    permits := fun hi => put_field Station.permits s.stations st _ (hp hi)
    quota := fun hi => put_field Station.quota s.stations st _ (hq hi)
    service := fun hi => put_field Station.service s.stations st _ (hs hi) }

/-- The steps of a retirement between the service state and the frozen ring change no configuration (R11–R13). -/
theorem retireSteps_configKept (i : Instr) (st : StationNo) (s : State) :
    ConfigKept i s (freeContacts st (retireClaims st (updStation (retireCurrents st (retireIdleJobs st (retireBlocks st
      (retireCards st s)))) st fun r => { r with holdings := 0 }))) := by
  have closed := configKept_commandClosed i
  have cards : ConfigKept i s (retireCards st s) :=
    .trans (t := { s with posting := s.posting.filter fun c => cardStation c ≠ st }) { ConfigKept.refl i s with }
      (closed.foldl (fun u c => answerCard c { outcome := .outOfService } [] u) (fun u _ => { ConfigKept.refl i u with })
        _ _)
  exact cards.trans ((closed.retireJobs st _).trans ((closed.holdings _ st fun _ => 0).trans
    ((closed.retireClaims st _).trans (closed.contacts _ _))))

/-- A retirement changes the service state and the frozen ring, and no other configuration (R10–R14). -/
theorem retire_configKept (st : StationNo) (s : State) : ConfigKept .setService s (retire st s) := by
  have out : ConfigKept .setService s (updStation s st fun r => { r with service := .outOfService }) :=
    configKept_updStation _ _ _ _ (fun _ => rfl) (fun _ => rfl) (absurd rfl)
  have frozen : ∀ t, ConfigKept .setService t (freezeRing st t) := fun t =>
    { ConfigKept.refl _ t with frozen := absurd rfl }
  rw [retire_eq]
  exact out.trans ((retireSteps_configKept _ st _).trans (frozen _))

/-- A reinstatement changes the service state and the ring, and no other configuration (R16). -/
theorem reinstate_configKept (st : StationNo) (s : State) : ConfigKept .setService s (reinstate st s) :=
  (configKept_updStation .setService s st (fun r => { r with service := .inService }) (fun _ => rfl) (fun _ => rfl)
    (absurd rfl)).trans { ConfigKept.refl _ _ with frozen := absurd rfl }

/-- What a served request makes of the state leaves all configuration but its own as it is. -/
theorem served_configKept (k : RequestKind) (c : CardNo) (s : State) :
    ConfigKept (requestRow k) s (served k c s).state := by
  have closed := (configKept_commandClosed (requestRow k)).toLinkClosed
  have pool : ∀ i s m b f, ConfigKept i s { s with mem := m, blocks := b, free := f } :=
    fun i s _ _ _ => { ConfigKept.refl i s with }
  cases k with
  | reserve => exact closed.reserve (pool _) c s
  | unreserve => exact closed.unreserve c s
  | submit => exact closed.submit (pool _) (fun s _ => { ConfigKept.refl _ s with acceptance := absurd rfl }) c s
  | setPermits =>
    exact closed.setPermits
      (fun s st _ => configKept_updStation _ s st _ (absurd rfl) (fun _ => rfl) fun _ => rfl) c s
  | setService =>
    exact closed.setService (fun s st _ => retire_configKept st s) (fun s st => reinstate_configKept st s) c s
  | setQuota =>
    exact closed.setQuota
      (fun s st _ => configKept_updStation _ s st _ (fun _ => rfl) (absurd rfl) fun _ => rfl) c s
  | setPrinter => exact closed.setPrinter (fun s _ => { ConfigKept.refl _ s with printerSet := absurd rfl }) c s
  | setScanner => exact closed.setScanner (fun s _ => { ConfigKept.refl _ s with scannerSet := absurd rfl }) c s
  | setZone => exact closed.setZone (fun s _ => { ConfigKept.refl _ s with zones := absurd rfl }) c s
  | clearZone =>
    exact closed.clearZone (fun s _ => { ConfigKept.refl _ s with zones := fun _ => absurd rfl }) c s
  | setPort => exact closed.setPort (fun s p _ => configKept_updPort _ s p _ (absurd rfl)) c s
  | cancelJob | clearPrinter | claim | release | ackPort | quiet | wake => exact closed.served (by decide) c s

/-- A soft reset keeps all configuration (R178). -/
theorem softReset_configKept (i : Instr) (s : State) : ConfigKept i s (softReset s) := by
  have closed := configKept_commandClosed i
  have abandoned : ConfigKept i s ((List.finRange 8).foldl abandonPage s) := closed.foldl _ (fun t p => by
    unfold abandonPage
    split
    · exact closed.hand _ _ _ (by nofun)
    · exact .refl i t) _ _
  refine abandoned.trans ?_
  unfold softReset
  generalize (List.finRange 8).foldl abandonPage s = a
  exact
    { ConfigKept.refl i a with
      permits := fun _ _ => by simp
      quota := fun _ _ => by simp
      service := fun _ _ => by simp
      frozen := fun _ _ => by simp [softDelivery] }

theorem startPart_configKept (i : Instr) (s : State) : ConfigKept i s (startPart s) := by
  unfold startPart
  split
  · exact { ConfigKept.refl i s with }
  · exact .refl i s

theorem controlWrite_configKept (i : Instr) (v : Half) (s : State) : ConfigKept i s (controlWrite v s) := by
  have reset : ConfigKept i s (if v.getLsbD 1 = true then softReset s else s) := by
    split
    · exact softReset_configKept i s
    · exact .refl i s
  unfold controlWrite
  dsimp only
  split
  · exact reset.trans (startPart_configKept i _)
  · exact reset

theorem takenMarkWrite_configKept (i : Instr) (st : StationNo) (v : Nat) (s : State) :
    ConfigKept i s (takenMarkWrite st v s) := by
  unfold takenMarkWrite
  split
  · exact (configKept_updDelivery i s st _ rfl).trans ((configKept_commandClosed i).flush st _)
  · exact .refl i s

theorem hostWrite_configKept (i : Instr) (w : HostWrite) (s : State) : ConfigKept i s (hostWrite w s) := by
  have closed := configKept_commandClosed i
  refine hostWrite_induction (P := ConfigKept i s) w (.refl i s)
    (fun st v => (takenMarkWrite_configKept i st v s).trans (closed.publish ..)) (fun c v a bs => ?_)
    (fun _ _ => { ConfigKept.refl i s with }) (fun _ => { ConfigKept.refl i s with })
    (fun _ => { ConfigKept.refl i s with }) fun v => controlWrite_configKept i v s
  unfold writeCardState
  split
  · exact { ConfigKept.refl i s with }
  · split
    · exact { ConfigKept.refl i s with }
    · exact { ConfigKept.refl i s with }

/-- Every command but a full reset leaves all configuration but its own as it is. -/
theorem exec_configKept {i : Instr} {s t : State} (ht : exec i s = .next t) (hi : i ≠ .fullReset) : ConfigKept i s t :=
  (configKept_commandClosed i).exec ht hi (fun w => hostWrite_configKept i w s)
    (takeCard_induction (P := ConfigKept i s) (.refl i s) (fun _ _ => { ConfigKept.refl i s with })
      fun _ _ _ => { ConfigKept.refl i s with })
    fun k hk c => hk ▸ served_configKept k c s

/-- Settles O4: each item goes through every small write of every command but its own request. -/
theorem configurationChangesByItsRequests : Obligations.ConfigurationChangesByItsRequests := by
  intro i s t ht hi
  obtain ⟨hp, hq, hs, -, hr, hc, hz, ha, hn⟩ := exec_configKept ht hi
  exact ⟨hp, hq, hs, hr, hc, hz, ha, hn⟩

/-! ## The service states and the frozen rings (R4, R9, R14, R16) -/

theorem inService_eq {s t : State} {st : StationNo} (h : t.stations[st].service = s.stations[st].service) :
    inService t st = inService s st := by
  unfold inService
  rw [h]

/-- A service state and a ring frozen or not that agree make the invariant with the others as they were. -/
theorem serviceOk_of {s t : State} (hs : ServiceOk s) (st : StationNo) (h0 : st = 0 → inService t st = true)
    (hst : t.delivery[st].frozen = !inService t st)
    (hother : ∀ x, x ≠ st → inService t x = inService s x ∧ t.delivery[x].frozen = s.delivery[x].frozen) :
    ServiceOk t := by
  constructor
  · by_cases h : (0 : StationNo) = st
    · exact h ▸ h0 h.symm
    · exact (hother 0 h).1.trans hs.1
  · intro x
    by_cases h : x = st
    · exact h ▸ hst
    · rw [(hother x h).2, (hother x h).1, hs.2 x]

/-- The service states agree with the frozen rings from one state to another. -/
def ServiceKept (s t : State) : Prop := ServiceOk s → ServiceOk t

theorem ConfigKept.serviceKept {i : Instr} (hi : i ≠ .setService) {s t : State} (h : ConfigKept i s t) :
    ServiceKept s t := by
  have hin : ∀ st, inService t st = inService s st := fun st => inService_eq (h.service hi st)
  exact fun hs => ⟨(hin 0).trans hs.1, fun st => by rw [h.frozen hi st, hin st, hs.2 st]⟩

theorem serviceKept_commandClosed : CommandClosed ServiceKept :=
  (configKept_commandClosed .takeCard).weaken (ConfigKept.serviceKept (by nofun)) fun h k => k ∘ h

theorem updStation_inService (s : State) (st : StationNo) (x : Service) :
    inService (updStation s st fun r => { r with service := x }) st = decide (x = .inService) := by
  unfold inService
  rw [updStation_stations, Fin.getElem_fin, put_get]

theorem updStation_inService_ne {s : State} {st other : StationNo} (h : other ≠ st) (f : Station → Station) :
    inService (updStation s st f) other = inService s other := by
  unfold inService
  rw [updStation_stations, Fin.getElem_fin, put_get_ne _ _ _ _ h.symm]
  rfl

/-- A retirement of another station than 0 puts it OUT OF SERVICE and freezes its ring (R9, R14). -/
theorem retire_serviceKept {st : StationNo} (h0 : st ≠ 0) (s : State) : ServiceKept s (retire st s) := by
  intro hs
  have steps := retireSteps_configKept .takeCard st (updStation s st fun r => { r with service := .outOfService })
  rw [retire_eq]
  generalize freeContacts st _ = t at steps
  have hin : ∀ x, inService (freezeRing st t) x =
      inService (updStation s st fun r => { r with service := .outOfService }) x :=
    fun x => inService_eq (steps.service (by nofun) x)
  have hfrozen : (freezeRing st t).delivery[st].frozen = true := congrArg Delivery.frozen (put_get t.delivery st _)
  refine serviceOk_of hs st (fun h => absurd h h0) ?_ fun x hx => ⟨?_, ?_⟩
  · rw [hfrozen, hin, updStation_inService]
    rfl
  · rw [hin, updStation_inService_ne hx]
  · exact (congrArg Delivery.frozen (put_get_ne t.delivery st x _ hx.symm)).trans (steps.frozen (by nofun) x)

/-- A reinstatement puts its station IN SERVICE and unfreezes its ring (R16). -/
theorem reinstate_serviceKept (st : StationNo) (s : State) : ServiceKept s (reinstate st s) := by
  intro hs
  have hin : inService (reinstate st s) st = true := updStation_inService s st .inService
  refine serviceOk_of hs st (fun _ => hin) ?_ fun x hx =>
    ⟨updStation_inService_ne (s := s) hx fun r => { r with service := .inService }, ?_⟩
  · rw [hin]
    exact congrArg Delivery.frozen (put_get s.delivery st _)
  · exact congrArg Delivery.frozen (put_get_ne s.delivery st x _ hx.symm)

/-- After a full reset every station is IN SERVICE and no ring is frozen (R3, R166). -/
theorem reset_serviceOk : ServiceOk State.reset :=
  ⟨by decide, by decide⟩

/-- Every command keeps the service states and the frozen rings in agreement. -/
theorem exec_serviceKept {i : Instr} {s t : State} (ht : exec i s = .next t) : ServiceKept s t := by
  by_cases hr : i = .fullReset
  · subst hr
    cases ht
    exact fun _ => reset_serviceOk
  by_cases hi : i = .setService
  · subst hi
    exact serviceKept_commandClosed.serve ht fun c => serviceKept_commandClosed.toLinkClosed.setService
      (fun s st h0 => retire_serviceKept h0 s) (fun s st => reinstate_serviceKept st s) c s
  · exact (exec_configKept ht hr).serviceKept hi

/-- What every command does from every state, every step does. -/
theorem step_of_exec {R : State → State → Prop} (h : ∀ {i s t}, exec i s = .next t → R s t)
    (refl : ∀ s, R s s) (queue : ∀ s q, R s (s.withPending q)) (trans : ∀ {s t u}, R s t → R t u → R s u) {s t : State}
    (ht : step s = .next t) : R s t := by
  unfold step at ht
  split at ht
  · exact Host.Outcome.next.inj ht ▸ refl s
  · exact trans (queue s _) (h ht)

/-- Settles O7: every small write keeps the law of the rings, and the service states with the frozen rings are changed
together by SET SERVICE alone. -/
theorem stepKeepsRingsInOrder : Obligations.StepKeepsRingsInOrder :=
  ⟨fun _ _ hs ht => step_of_exec (R := RingsKept) exec_ringsKept (fun _ => id) (fun _ _ => id) (fun h k => k ∘ h) ht hs,
   fun _ _ hs ht =>
    step_of_exec (R := ServiceKept) exec_serviceKept (fun _ => id) (fun _ _ => id) (fun h k => k ∘ h) ht hs⟩

end Sys2Proof.Machine
end

section
/-! ## Records given for a station and written to its ring (R14, R167–R170) -/

namespace Sys2Proof.Machine

open Sys2Proof.Safety
open Config

/-! ### What becomes of a record (R14, R170) -/

/-- A ring is open exactly while its station is IN SERVICE, where service states and frozen rings agree. -/
theorem ringOpen_eq {s : State} (hs : ServiceOk s) (st : StationNo) : ringOpen s st = inService s st := by
  unfold ringOpen
  rw [hs.2 st, Bool.not_not, Bool.and_self]

theorem fits_iff (d : Delivery) (n : Nat) :
    fits d n = true ↔ usedBytes d + (if n ≤ 1792 - d.w then n else 1792 - d.w + n) ≤ 1784 := by
  unfold fits
  rw [decide_eq_true_iff]
  rfl

theorem canWrite_iff (s : State) (st : StationNo) (r : Record) :
    canWrite s st r = true ↔
      ringOpen s st = true ∧ s.delivery[st].owed = [] ∧ fits s.delivery[st] (recordLength r) = true := by
  unfold canWrite
  rw [Bool.and_eq_true, Bool.and_eq_true, List.isEmpty_iff, and_assoc]

theorem giveStatus_closed {s : State} {st : StationNo} (h : ringOpen s st = false) (r : Record) :
    giveStatus st r s = s := by
  unfold giveStatus
  rw [h]
  rfl

theorem giveProgress_closed {s : State} {st : StationNo} (h : ringOpen s st = false) (r : Record) :
    giveProgress st r s = s := by
  unfold giveProgress
  rw [h]
  rfl

theorem giveStatus_written {s : State} {st : StationNo} {r : Record} (h : canWrite s st r = true) :
    giveStatus st r s = writeRecord st r (stampNow s) s := by
  unfold giveStatus
  rw [((canWrite_iff ..).mp h).1, h]
  rfl

theorem giveProgress_written {s : State} {st : StationNo} {r : Record} (h : canWrite s st r = true) :
    giveProgress st r s = writeRecord st r (stampNow s) s := by
  unfold giveProgress
  rw [((canWrite_iff ..).mp h).1, h]
  rfl

theorem giveStatus_owed {s : State} {st : StationNo} {r : Record} (ho : ringOpen s st = true)
    (h : canWrite s st r = false) (hl : s.delivery[st].owed.length < owedMax) :
    giveStatus st r s = joinOwed s st r := by
  unfold giveStatus
  rw [ho, h, if_pos hl]
  rfl

theorem giveStatus_gapped {s : State} {st : StationNo} {r : Record} (ho : ringOpen s st = true)
    (h : canWrite s st r = false) (hl : owedMax ≤ s.delivery[st].owed.length) :
    giveStatus st r s = setGap s st := by
  unfold giveStatus
  rw [ho, h, if_neg (Nat.not_lt.mpr hl)]
  rfl

theorem giveProgress_gapped {s : State} {st : StationNo} {r : Record} (ho : ringOpen s st = true)
    (h : canWrite s st r = false) : giveProgress st r s = setGap s st := by
  unfold giveProgress
  rw [ho, h]
  rfl

/-! ### The bytes of a record (R167, R187) -/

@[simp] theorem padTo_length (n : Nat) (bs : List Byte) : (padTo n bs).length = n := by
  unfold padTo
  rw [List.length_append, List.length_take, List.length_replicate]
  omega

/-- A record's content fills it from byte 8 on. -/
theorem recordContent_length (r : Record) : (recordContent r).length = recordLength r - 8 := by
  cases r with
  | scan p y code serial u =>
    unfold recordContent paddedCode
    rw [List.length_append, padTo_length, padTo_length]
    show 8 + (code.length + 7) / 8 * 8 = 16 + (code.length + 7) / 8 * 8 - 8
    omega
  | touch k p id n z pos => rfl
  | jobProgress | jobEnded | printerFault | printerNote | claimGranted | claimEnded | portChange | partState =>
    exact padTo_length ..

theorem recordLength_ge (r : Record) : 16 ≤ recordLength r := by
  unfold recordLength
  split <;> omega

/-- The bytes of a record: its header and its content (R167). -/
def recordBytes (d : Delivery) (r : Record) (stamp : Half) : List Byte :=
  recordHeader (recordKind r) (recordLength r) d.gap (recordUnclaimed r) (d.seq + 1) stamp ++ recordContent r

theorem recordBytes_length (d : Delivery) (r : Record) (stamp : Half) :
    (recordBytes d r stamp).length = recordLength r := by
  have := recordLength_ge r
  unfold recordBytes
  rw [List.length_append, recordContent_length]
  show 8 + (recordLength r - 8) = recordLength r
  omega

/-- Exchange memory after the SKIP that a record needs, if it needs one (R168). -/
def afterSkip (st : StationNo) (d : Delivery) (n : Nat) (stamp : Half) (m : Memory) : Memory :=
  if n ≤ toEnd d then m else writeBytes m (ringAddress st + d.w) (skipBytes d (toEnd d) stamp)

theorem writeRecord_mem (st : StationNo) (r : Record) (x : Half) (s : State) :
    (writeRecord st r x s).mem =
      writeBytes (afterSkip st s.delivery[st] (recordLength r) (stampNow s) s.mem)
        (ringAddress st + recordPlace s.delivery[st] (recordLength r)) (recordBytes s.delivery[st] r x) := rfl

theorem afterSkip_wf {m : Memory} (hm : memoryWf m = true) (st : StationNo) (d : Delivery) (n : Nat) (x : Half) :
    memoryWf (afterSkip st d n x m) = true := by
  unfold afterSkip
  split
  · exact hm
  · exact writeBytes_wf hm _ _

theorem writeRecord_wf {s : State} (hm : MemoryOk s) (st : StationNo) (r : Record) (x : Half) :
    MemoryOk (writeRecord st r x s) :=
  writeBytes_wf (afterSkip_wf hm ..) _ _

/-! ### Places in the ring (R168) -/

/-- A record that fits stands inside its ring, and a SKIP before it fills the ring to its end without reaching it. -/
theorem record_inside {d : Delivery} (hd : RingOk d) {n : Nat} (hf : fits d n = true) :
    recordPlace d n + n ≤ ringBytes ∧ 8 ≤ toEnd d ∧ d.w + toEnd d = ringBytes ∧ (toEnd d < n → n ≤ d.w) := by
  obtain ⟨hw8, hw, -, -, -, -⟩ := hd
  rw [fits_iff] at hf
  unfold recordPlace
  unfold usedBytes toEnd ringBytes at *
  split at hf
  · rw [if_pos ‹_›]
    omega
  · rw [if_neg ‹_›]
    omega

/-- Writing a record that fits changes no byte outside the ring (R168, R169). -/
theorem writeRecord_memoryKept {s : State} {st : StationNo} {r : Record} (hd : RingOk s.delivery[st])
    (hf : fits s.delivery[st] (recordLength r) = true) (x : Half) : MemoryKept s (writeRecord st r x s) (InRing st) := by
  obtain ⟨hin, -, hend, -⟩ := record_inside hd hf
  intro a ha
  unfold InRing at ha
  rw [writeRecord_mem, readMem_writeBytes_other _ _ _ (by rw [recordBytes_length]; omega)]
  unfold afterSkip
  split
  · rfl
  · exact readMem_writeBytes_other _ _ _ (by unfold skipBytes; rw [padTo_length]; omega)

/-! ### What stands in the ring (R167, R169) -/

/-- A byte inside bytes written. -/
theorem readMem_writeBytes_at {m : Memory} (hm : memoryWf m = true) (a : Nat) (bs : List Byte) {k : Nat}
    (hk : k < bs.length) : readMem (writeBytes m a bs) (a + k) = bs.getD k 0 := by
  rw [readMem_writeBytes hm, if_pos (by omega), Nat.add_sub_cancel_left]

/-- Bytes that read as a list's read as the list. -/
theorem readBytes_eq {m : Memory} {a : Nat} {bs : List Byte} (h : ∀ k < bs.length, readMem m (a + k) = bs.getD k 0) :
    readBytes m a bs.length = bs := by
  induction bs generalizing a with
  | nil => rfl
  | cons b bs ih =>
    have hb := h 0 (Nat.succ_pos _)
    have hbs := ih (a := a + 1) fun k hk => by
      rw [show a + 1 + k = a + (k + 1) by omega, h (k + 1) (Nat.succ_lt_succ hk)]
      rfl
    show readMem m a :: readBytes m (a + 1) bs.length = b :: bs
    rw [hbs]
    exact congrArg (· :: bs) hb

theorem byteOf_length {n : Nat} (h8 : n % 8 = 0) (h : n ≤ 1792) : (byteOf (n / 8)).toNat * 8 = n := by
  unfold byteOf
  rw [BitVec.toNat_ofNat]
  omega

/-- A header written somewhere reads back (R167). -/
theorem header_reads {m : Memory} {a : Nat} {kind : Byte} {n : Nat} {gap unclaimed : Bool} {seq stamp : Half}
    (h : ∀ k < 8, readMem m (a + k) = (recordHeader kind n gap unclaimed seq stamp).getD k 0) :
    readMem m a = kind ∧ readMem m (a + 1) = byteOf (n / 8) ∧
    readMem m (a + 2) = (flagByte gap ||| (flagByte unclaimed <<< 1)) ∧
    readHalf m (a + 4) = seq ∧ readHalf m (a + 6) = stamp := by
  have half : ∀ (k : Nat) (x : Half), readMem m (a + k) = loByte x → readMem m (a + k + 1) = hiByte x →
      readHalf m (a + k) = x := fun k x hl hh => by
    unfold readHalf
    rw [hl, hh, halfOf_lo_hi]
  exact ⟨h 0 (by decide), h 1 (by decide), h 2 (by decide), half 4 seq (h 4 (by decide)) (h 5 (by decide)),
    half 6 stamp (h 6 (by decide)) (h 7 (by decide))⟩

theorem flags_bits (gap unclaimed : Bool) :
    (flagByte gap ||| (flagByte unclaimed <<< 1)).getLsbD 0 = gap ∧
    (flagByte gap ||| (flagByte unclaimed <<< 1)).getLsbD 1 = unclaimed := by
  revert gap unclaimed
  decide

/-- A record written stands whole at its place (R167, R169). -/
theorem writeRecord_stands {s : State} (hm : MemoryOk s) (st : StationNo) (r : Record) (x : Half) {k : Nat}
    (hk : k < recordLength r) :
    readMem (writeRecord st r x s).mem (ringAddress st + recordPlace s.delivery[st] (recordLength r) + k) =
      (recordBytes s.delivery[st] r x).getD k 0 := by
  rw [writeRecord_mem]
  exact readMem_writeBytes_at (afterSkip_wf hm ..) _ _ (by rwa [recordBytes_length])

/-- A SKIP before a record stands from the old write mark to the end of the ring (R167, R168). -/
theorem writeRecord_skip {s : State} (hm : MemoryOk s) {st : StationNo} {r : Record} (hd : RingOk s.delivery[st])
    (hf : fits s.delivery[st] (recordLength r) = true) (hn : toEnd s.delivery[st] < recordLength r) (x : Half) {k : Nat}
    (hk : k < toEnd s.delivery[st]) :
    readMem (writeRecord st r x s).mem (ringAddress st + s.delivery[st].w + k) =
      (skipBytes s.delivery[st] (toEnd s.delivery[st]) (stampNow s)).getD k 0 := by
  obtain ⟨-, -, -, hle⟩ := record_inside hd hf
  have hplace : recordPlace s.delivery[st] (recordLength r) = 0 := if_neg (Nat.not_le.mpr hn)
  rw [writeRecord_mem, hplace, readMem_writeBytes_other _ _ _ (by rw [recordBytes_length]; have := hle hn; omega)]
  unfold afterSkip
  rw [if_neg (Nat.not_le.mpr hn)]
  exact readMem_writeBytes_at hm _ _ (by unfold skipBytes; rwa [padTo_length])

@[simp] theorem recordHeader_length (kind : Byte) (n : Nat) (gap unclaimed : Bool) (seq stamp : Half) :
    (recordHeader kind n gap unclaimed seq stamp).length = 8 := rfl

/-- The header of the SKIP before a record (R167, R168). -/
theorem writeRecord_skipHeader {s : State} (hm : MemoryOk s) {st : StationNo} {r : Record} (hd : RingOk s.delivery[st])
    (hf : fits s.delivery[st] (recordLength r) = true) (hn : toEnd s.delivery[st] < recordLength r) (x : Half) {k : Nat}
    (hk : k < 8) :
    readMem (writeRecord st r x s).mem (ringAddress st + s.delivery[st].w + k) =
      (recordHeader 0x00 (toEnd s.delivery[st]) false false s.delivery[st].seq (stampNow s)).getD k 0 := by
  have hend : 8 ≤ toEnd s.delivery[st] := (record_inside hd hf).2.1
  rw [writeRecord_skip hm hd hf hn x (by omega)]
  unfold skipBytes padTo
  rw [List.take_of_length_le (by rwa [recordHeader_length]), List.getD_append _ _ _ _ (by rwa [recordHeader_length])]

/-- The content of a record written (R167, R169). -/
theorem writeRecord_content {s : State} (hm : MemoryOk s) (st : StationNo) (r : Record) (x : Half) :
    readBytes (writeRecord st r x s).mem (ringAddress st + recordPlace s.delivery[st] (recordLength r) + 8)
      (recordLength r - 8) = recordContent r := by
  have hge := recordLength_ge r
  rw [← recordContent_length]
  refine readBytes_eq fun k hk => ?_
  rw [recordContent_length] at hk
  rw [Nat.add_assoc, writeRecord_stands hm st r x (by omega)]
  unfold recordBytes
  rw [List.getD_append_right _ _ _ _ (Nat.le_add_right 8 k), recordHeader_length, Nat.add_sub_cancel_left]

/-! ### The rule of R168–R170 -/

/-- The mark after a record, as R168 says it. -/
theorem nextMark_eq {d : Delivery} {n : Nat} (hw : d.w < 1792) :
    nextMark d n = if n ≤ 1792 - d.w then (if d.w + n = 1792 then 0 else d.w + n) else n := by
  unfold nextMark toEnd ringBytes
  split
  · split <;> omega
  · rfl

/-- R14, R170: what becomes of a record, by service, owed queue and room. -/
theorem record_given (st : StationNo) (r : Record) (s : State) (hs : ServiceOk s) :
    let d := s.delivery[st]
    let now : Half := s.time.setWidth 16
    let need := if recordLength r ≤ 1792 - d.w then recordLength r else 1792 - d.w + recordLength r
    let room := d.owed = [] ∧ usedBytes d + need ≤ 1784
    let gapped := { s with delivery := put s.delivery st { d with gap := true } }
    (canWrite s st r = true ↔ inService s st = true ∧ room) ∧
    (inService s st = false → giveStatus st r s = s ∧ giveProgress st r s = s) ∧
    (inService s st = true → room → giveStatus st r s = writeRecord st r now s ∧
      giveProgress st r s = writeRecord st r now s) ∧
    (inService s st = true → ¬ room →
      (d.owed.length < 16 → giveStatus st r s =
        { s with delivery := put s.delivery st { d with owed := d.owed ++ [{ record := r, stamp := now }] } }) ∧
      (16 ≤ d.owed.length → giveStatus st r s = gapped) ∧
      giveProgress st r s = gapped) := by
  intro d now need room gapped
  have hopen := ringOpen_eq hs st
  have hcan : canWrite s st r = true ↔ inService s st = true ∧ room := by
    rw [canWrite_iff, hopen, fits_iff]
  refine ⟨hcan, fun hin => ?_, fun hin hroom => ?_, fun hin hroom => ?_⟩
  · exact ⟨giveStatus_closed (hopen.trans hin) r, giveProgress_closed (hopen.trans hin) r⟩
  · exact ⟨giveStatus_written (hcan.mpr ⟨hin, hroom⟩), giveProgress_written (hcan.mpr ⟨hin, hroom⟩)⟩
  · have hc : canWrite s st r = false := Bool.eq_false_iff.mpr fun h => hroom (hcan.mp h).2
    exact ⟨giveStatus_owed (hopen.trans hin) hc, giveStatus_gapped (hopen.trans hin) hc,
      giveProgress_gapped (hopen.trans hin) hc⟩

/-- R70, R173: to whom a PRINTER FAULT goes. -/
theorem reportFault_receivers (r : Record) (s : State) :
    giveStatusTo none r s = s ∧ reportFault r none s = giveStatus 0 r s ∧
    ∀ st : StationNo, giveStatusTo (some st) r s = giveStatus st r s ∧
      reportFault r (some st) s = if st = 0 then giveStatus 0 r s else giveStatus 0 r (giveStatus st r s) :=
  ⟨rfl, rfl, fun _ => ⟨rfl, rfl⟩⟩

/-- Settles O60: the branches of R170, and the bytes of a record and of the SKIP before it. -/
theorem recordsEnterTheRing : Obligations.RecordsEnterTheRing := by
  refine ⟨record_given, reportFault_receivers, ?_⟩
  intro st r stamp s hm hd d n rest a t hroom
  have hring : RingOk d := hd
  have hf : fits d n = true := (fits_iff d n).mpr hroom
  have hn8 : n % 8 = 0 := recordLength_mod r
  have hn16 : 16 ≤ n := recordLength_ge r
  obtain ⟨hw8, hw, -⟩ := hring
  have hw : d.w < 1792 := hw
  have hn : n ≤ 1792 := by split at hroom <;> omega
  have hheader : ∀ k < 8, readMem t.mem (a + k) =
      (recordHeader (recordKind r) n d.gap (recordUnclaimed r) (d.seq + 1) stamp).getD k 0 := fun k hk =>
    (writeRecord_stands hm st r stamp (k := k) (by omega)).trans (List.getD_append _ _ _ _ hk)
  obtain ⟨hkind, hlength, hflags, hseq, hstamp⟩ := header_reads hheader
  obtain ⟨hgap, hunclaimed⟩ := flags_bits d.gap (recordUnclaimed r)
  refine ⟨?_, ?_, raiseNotice_bit _ st, writeRecord_memoryKept hd hf stamp, writeRecord_wf hm st r stamp, hkind, ?_,
    hflags ▸ hgap, hflags ▸ hunclaimed, hseq, hstamp, writeRecord_content hm st r stamp, fun hlt => ?_, rfl⟩
  · rw [writeRecord_delivery]
    unfold afterWrite
    rw [nextMark_eq hw]
  · rw [writeRecord_delivery, Fin.getElem_fin, put_get]
    exact ringOk_afterWrite hd hn8 hf
  · rw [hlength]
    exact byteOf_length hn8 hn
  · have hskip : ∀ k < 8, readMem t.mem (ringAddress st + d.w + k) =
        (recordHeader 0x00 rest false false d.seq (stampNow s)).getD k 0 :=
      fun k hk => writeRecord_skipHeader hm hd hf hlt stamp hk
    obtain ⟨h0, h1, h2, h4, -⟩ := header_reads hskip
    refine ⟨h0, ?_, h2, h4⟩
    rw [h1]
    exact byteOf_length (n := 1792 - d.w) (by omega) (by omega)

end Sys2Proof.Machine
end

section
/-! ## Publishing, host writes by address, and the taken mark (R151, R153, R171, R172, R184) -/

namespace Sys2Proof.Machine

open Sys2Proof.Safety
open Config

/-! ### What an event publishes (R184) -/

theorem publish_jobCount {ps : List PortNo} {s t : State} (h : ∀ j : JobNo, jobItems s.jobs[j] = jobItems t.jobs[j]) :
    (publish ps s t).jobCount = t.jobCount := by
  show (Vector.ofFn fun j : JobNo => _) = _
  simp only [h, ne_eq, not_true_eq_false, if_false]
  exact ofFn_get _

theorem publish_stationCount {ps : List PortNo} {s t : State} (h : ∀ st, stationItems s st = stationItems t st) :
    (publish ps s t).stationCount = t.stationCount := by
  show (Vector.ofFn fun st : StationNo => _) = _
  simp [h]

theorem publish_poolCount {ps : List PortNo} {s t : State} (h : poolItems s = poolItems t) :
    (publish ps s t).poolCount = t.poolCount := by
  show (if poolItems s ≠ poolItems t then _ else _) = _
  simp [h]

theorem publish_portCount {s t : State} (h : ∀ p, portItems s p = portItems t p) :
    (publish [] s t).portCount = t.portCount := by
  show (Vector.ofFn fun p : PortNo => _) = _
  simp [h]

theorem publish_portCount_marked {ps : List PortNo} {p : PortNo} (hp : p ∈ ps) (s t : State) :
    (publish ps s t).portCount[p] = t.portCount[p] + 1 := by
  show (Vector.ofFn fun p : PortNo => _)[p] = _
  simp [hp]

/-- Publishing changes the change counts alone. -/
theorem publish_eq (ps : List PortNo) (s t : State) : publish ps s t =
    { t with
      portCount := (publish ps s t).portCount, jobCount := (publish ps s t).jobCount
      stationCount := (publish ps s t).stationCount, poolCount := (publish ps s t).poolCount } := rfl

theorem stationItems_eq {s t : State} (hs : t.stations = s.stations) (hb : t.blocks = s.blocks) (st : StationNo) :
    stationItems s st = stationItems t st := by
  unfold stationItems reservedCount
  rw [hs, hb]

theorem poolItems_eq {s t : State} (hf : t.free = s.free) (hb : t.blocks = s.blocks) : poolItems s = poolItems t := by
  unfold poolItems
  rw [hf, hb]

/-- An event that leaves the jobs, the Station Table and the pool as they are publishes port entries alone. -/
theorem publish_portsOnly (ps : List PortNo) {s t : State} (hj : t.jobs = s.jobs) (hs : t.stations = s.stations)
    (hb : t.blocks = s.blocks) (hf : t.free = s.free) :
    publish ps s t = { t with portCount := (publish ps s t).portCount } := by
  rw [publish_eq, publish_jobCount fun j => by rw [hj], publish_stationCount (stationItems_eq hs hb),
    publish_poolCount (poolItems_eq hf hb)]

/-! ### Bytes and words handed over by a host write (R151, R153) -/

theorem hiByte_toNat (x : Half) : (hiByte x).toNat = x.toNat / 256 := by
  unfold hiByte
  rw [BitVec.toNat_setWidth, BitVec.toNat_ushiftRight, Nat.shiftRight_eq_div_pow]
  have := x.isLt
  omega

theorem loByte_toNat (x : Half) : (loByte x).toNat = x.toNat % 256 := by
  unfold loByte
  rw [BitVec.toNat_setWidth]

theorem halfOf_toNat (lo hi : Byte) : (halfOf lo hi).toNat = 256 * hi.toNat + lo.toNat := by
  have hlo := lo.isLt
  have hhi := hi.isLt
  unfold halfOf
  rw [BitVec.or_comm, BitVec.toNat_or, BitVec.toNat_shiftLeft, BitVec.toNat_setWidth, BitVec.toNat_setWidth,
    Nat.mod_eq_of_lt (show hi.toNat < 2 ^ 16 by omega), Nat.mod_eq_of_lt (show lo.toNat < 2 ^ 16 by omega),
    Nat.mod_eq_of_lt (by rw [Nat.shiftLeft_eq]; omega), ← Nat.shiftLeft_add_eq_or_of_lt hlo, Nat.shiftLeft_eq]
  omega

/-- What a write to a register or a taken mark hands over, as a number (R151, R153). -/
theorem writtenWord_toNat {cur : Nat} {x : Half} (hx : x.toNat = cur) (w : HostWrite) :
    (writtenWord x w).toNat = handedValue cur w := by
  cases w with
  | word a v => rfl
  | byte a v =>
    unfold writtenWord handedValue completeWord
    dsimp only
    split
    · rw [halfOf_toNat, hiByte_toNat, hx]
      omega
    · rw [halfOf_toNat, loByte_toNat, hx]
      omega

/-! ### The regions (R151, R153) -/

/-- A host write into a station area goes to its station. -/
theorem hostWrite_area {w : HostWrite} (ha : inAreas w.address = true) {st : StationNo}
    (hst : st.val = (w.address - 0x1000) / 0x800) (s : State) : hostWrite w s = writeArea st w s := by
  unfold inAreas at ha
  simp only [Bool.and_eq_true, decide_eq_true_eq] at ha
  have hs : stationAt? w.address = some st := by
    unfold stationAt? index?
    rw [dif_pos (show (w.address - areaBase) / areaSize < 16 from hst ▸ st.isLt)]
    exact congrArg some (Fin.ext hst.symm)
  unfold hostWrite
  dsimp only
  rw [if_neg (Nat.not_lt.mpr ha.1), if_pos ha.2, hs]

/-- A host write to a taken mark hands its value to the Delivery Unit (R153, R171). -/
theorem exec_takenMarkWrite {w : HostWrite} {s : State} {st : StationNo} (hs : RingOk s.delivery[st])
    (hw : WellFormed (.takenMarkWrite w) = true) (hst : st.val = (w.address - 0x1000) / 0x800) :
    exec (.takenMarkWrite w) s =
      .next (publish [] s (takenMarkWrite st (handedValue s.delivery[st].t w) s)) := by
  have hmark : isTakenMark w.address = true := hw
  unfold isTakenMark at hmark
  simp only [Bool.and_eq_true, decide_eq_true_eq] at hmark
  have ht : (halfOfNat s.delivery[st].t).toNat = s.delivery[st].t := by
    obtain ⟨-, -, -, ht, -, -⟩ := hs
    unfold ringBytes at ht
    exact Nat.mod_eq_of_lt (by omega)
  show Host.Outcome.next (hostWrite w s) = _
  rw [hostWrite_area hmark.1 hst]
  unfold writeArea writeTakenMark
  dsimp only
  rw [if_pos hmark.2, writtenWord_toNat ht]

/-! ### The flush (R121, R172) -/

/-- What a flush of a station changes: its ring, which keeps its law and its taken mark and gives up the first of its owed
records, and contacts and NOTICE; no other ring, and no memory outside its own. -/
structure FlushStep (st : StationNo) (s t : State) : Prop where
  ring : RingOk s.delivery[st] → RingOk t.delivery[st] ∧ MemoryKept s t (InRing st)
  mark : t.delivery[st].t = s.delivery[st].t
  owed : t.delivery[st].owed <:+ s.delivery[st].owed
  other : ∀ other : StationNo, other ≠ st → t.delivery[other] = s.delivery[other]
  frame : ∃ m d c n, t = { s with mem := m, delivery := d, contacts := c, notice := n }

theorem FlushStep.refl (st : StationNo) (s : State) : FlushStep st s s :=
  ⟨fun h => ⟨h, fun _ _ => rfl⟩, rfl, List.suffix_refl _, fun _ _ => rfl, _, _, _, _, rfl⟩

theorem FlushStep.trans {st : StationNo} {s t u : State} (h : FlushStep st s t) (k : FlushStep st t u) :
    FlushStep st s u where
  ring hs := by
    obtain ⟨ht, hst⟩ := h.ring hs
    obtain ⟨hu, htu⟩ := k.ring ht
    exact ⟨hu, fun a ha => (htu a ha).trans (hst a ha)⟩
  mark := k.mark.trans h.mark
  owed := k.owed.trans h.owed
  other x hx := (k.other x hx).trans (h.other x hx)
  frame := by
    obtain ⟨_, _, _, _, rfl⟩ := h.frame
    obtain ⟨_, _, _, _, rfl⟩ := k.frame
    exact ⟨_, _, _, _, rfl⟩

/-- The delivery state after a held item is written: an owed record leaves the queue (R169, R172). -/
theorem writeHeld_delivery (st : StationNo) (x : Held) (s : State) :
    (writeHeld st x s).delivery = put s.delivery st
      { afterWrite s.delivery[st] (recordLength x.record) with
        owed := if x.contact = none then s.delivery[st].owed.tail else s.delivery[st].owed } := by
  unfold writeHeld
  cases hx : x.contact with
  | none =>
    dsimp only
    rw [Fin.getElem_fin, writeRecord_delivery_self, writeRecord_delivery, put_put]
    rfl
  | some c => rfl

theorem writeHeld_step {st : StationNo} {x : Held} {s : State}
    (hf : fits s.delivery[st] (recordLength x.record) = true) : FlushStep st s (writeHeld st x s) where
  ring hs := by
    obtain ⟨hw8, hw, ht8, ht, hu, ho⟩ := ringOk_afterWrite hs (recordLength_mod x.record) hf
    constructor
    · rw [writeHeld_delivery, Fin.getElem_fin, put_get]
      refine ⟨hw8, hw, ht8, ht, hu, ?_⟩
      dsimp only
      split
      · exact (List.length_tail ..).trans_le ((Nat.sub_le _ 1).trans ho)
      · exact ho
    · intro a ha
      rw [← writeRecord_memoryKept hs hf x.stamp a ha]
      unfold writeHeld
      cases x.contact <;> rfl
  mark := by
    rw [writeHeld_delivery, Fin.getElem_fin, put_get]
    rfl
  owed := by
    rw [writeHeld_delivery, Fin.getElem_fin, put_get]
    dsimp only
    split
    · exact List.tail_suffix _
    · exact List.suffix_refl _
  other y hy := by rw [writeHeld_delivery, Fin.getElem_fin, put_get_ne _ _ _ _ hy.symm]; rfl
  frame := by
    unfold writeHeld
    cases x.contact with
    | none => exact ⟨_, _, _, _, rfl⟩
    | some c => exact ⟨_, _, _, _, rfl⟩

theorem flushed_step {st : StationNo} {xs : List Held} {s t : State} (h : Flushed st xs s t) : FlushStep st s t := by
  induction xs generalizing s with
  | nil => exact h ▸ .refl st s
  | cons x xs ih =>
    cases hf : fits s.delivery[st] (recordLength x.record) with
    | true => exact (writeHeld_step hf).trans (ih (h.1 hf))
    | false => exact h.2 hf ▸ .refl st s

/-- Items of contacts leave the owed queue as it is. -/
theorem flushed_owed_of_contacts {st : StationNo} {xs : List Held} (hx : ∀ x ∈ xs, x.contact ≠ none) {s t : State}
    (h : Flushed st xs s t) : t.delivery[st].owed = s.delivery[st].owed := by
  induction xs generalizing s with
  | nil => rw [show t = s from h]
  | cons x xs ih =>
    cases hf : fits s.delivery[st] (recordLength x.record) with
    | true =>
      rw [ih (fun y hy => hx y (.tail _ hy)) (h.1 hf), writeHeld_delivery, Fin.getElem_fin, put_get]
      exact if_neg (hx x (.head _))
    | false => rw [show t = s from h.2 hf]

/-- After a flush nothing is owed, or the first record owed does not fit (R172). -/
theorem flushed_owed_ends {st : StationNo} {l : List Owed} {ys : List Held} (hy : ∀ y ∈ ys, y.contact ≠ none) {s t : State}
    (hl : s.delivery[st].owed = l)
    (h : Flushed st (l.map (fun o => { record := o.record, stamp := o.stamp, contact := none }) ++ ys) s t) :
    t.delivery[st].owed = [] ∨
      ∃ o rest, t.delivery[st].owed = o :: rest ∧ fits t.delivery[st] (recordLength o.record) = false := by
  induction l generalizing s with
  | nil => exact .inl ((flushed_owed_of_contacts hy h).trans hl)
  | cons o l ih =>
    cases hf : fits s.delivery[st] (recordLength o.record) with
    | true =>
      refine ih ?_ (h.1 hf)
      rw [writeHeld_delivery, Fin.getElem_fin, put_get]
      exact congrArg List.tail hl
    | false =>
      rw [show t = s from h.2 hf]
      exact .inr ⟨o, l, hl, hf⟩

theorem pendingEnds_contact {st : StationNo} {s : State} : ∀ x ∈ pendingEnds st s, x.contact ≠ none := by
  intro x hx
  obtain ⟨n, -, hn⟩ := List.mem_filterMap.mp hx
  revert hn
  generalize s.contacts[n] = held
  intro hn
  unfold pendingEnd? at hn
  split at hn
  · split at hn
    · split at hn
      · cases hn; nofun
      · cases hn; nofun
    · cases hn
  · cases hn

theorem pendingMoves_contact {st : StationNo} {s : State} : ∀ x ∈ pendingMoves st s, x.contact ≠ none := by
  intro x hx
  obtain ⟨n, -, hn⟩ := List.mem_filterMap.mp hx
  revert hn
  generalize s.contacts[n] = held
  intro hn
  unfold pendingMove? at hn
  split at hn
  · split at hn
    · cases hn; nofun
    · cases hn
  · cases hn

theorem heldItems_eq {st : StationNo} {s t : State} (ho : t.delivery[st].owed = s.delivery[st].owed)
    (hc : t.contacts = s.contacts) : heldItems st t = heldItems st s := by
  unfold heldItems pendingEnds pendingMoves
  rw [ho, hc]

/-! ### The taken mark (R171) -/

theorem takenMark_eq (d : Delivery) (v : Nat) : takenMark d v =
    if v < 1792 ∧ (v / 8 * 8 + 1792 - d.t) % 1792 ≤ usedBytes d then v / 8 * 8 else d.w := by
  unfold takenMark ringBytes
  split
  · rw [if_neg (by omega)]
  · split
    · rw [if_pos (by omega)]
    · rw [if_neg (by omega)]

/-- The taken mark moved, before the flush (R171). -/
def withMark (st : StationNo) (v : Nat) (s : State) : State := updDelivery s st fun d => { d with t := takenMark d v }

theorem withMark_delivery (st : StationNo) (v : Nat) (s : State) :
    (withMark st v s).delivery[st] = { s.delivery[st] with t := takenMark s.delivery[st] v } := put_get ..

/-- A taken-mark write for a station OUT OF SERVICE is discarded (R14). -/
theorem takenMarkWrite_closed {st : StationNo} {s : State} (h : ringOpen s st = false) (v : Nat) :
    takenMarkWrite st v s = s := by
  unfold takenMarkWrite
  rw [h]
  rfl

/-- Otherwise T moves, and what was held for the station is offered (R171, R172). -/
theorem takenMarkWrite_flushed {st : StationNo} {s : State} (h : ringOpen s st = true) (v : Nat) :
    Flushed st (heldItems st s) (withMark st v s) (takenMarkWrite st v s) := by
  have hwrite : takenMarkWrite st v s = flush st (withMark st v s) := by
    unfold takenMarkWrite
    rw [h]
    rfl
  have hitems : heldItems st (withMark st v s) = heldItems st s := heldItems_eq (by rw [withMark_delivery]) rfl
  rw [hwrite, ← hitems]
  exact flush_flushed st _

/-- What is held beside the owed records belongs to contacts (R172). -/
theorem flushed_owed_done {st : StationNo} {s t u : State} (ho : t.delivery[st].owed = s.delivery[st].owed)
    (h : Flushed st (heldItems st s) t u) :
    u.delivery[st].owed = [] ∨ ∃ o rest, u.delivery[st].owed = o :: rest ∧
      fits u.delivery[st] (recordLength o.record) = false := by
  unfold heldItems at h
  rw [List.append_assoc] at h
  exact flushed_owed_ends (fun y hy => (List.mem_append.mp hy).elim (pendingEnds_contact y) (pendingMoves_contact y)) ho h

/-- Settles O18: T by the table of R171, and the flush through what every written item does. -/
theorem takenMarkWriteMovesAndFlushes : Obligations.TakenMarkWriteMovesAndFlushes := by
  intro w s st _ hrings hservice hw hst
  have hring := hrings st
  rw [exec_takenMarkWrite hring hw hst]
  generalize handedValue s.delivery[st].t w = v
  refine ⟨fun hin => ?_, fun hin => ⟨_, rfl, ?_⟩⟩
  · rw [takenMarkWrite_closed ((ringOpen_eq hservice st).trans hin), publish_self]
  · have hflushed := takenMarkWrite_flushed ((ringOpen_eq hservice st).trans hin) v
    have hmoved := withMark_delivery st v s
    generalize takenMarkWrite st v s = u at hflushed ⊢
    have hends := flushed_owed_done (by rw [hmoved]) hflushed
    have hstep := flushed_step hflushed
    obtain ⟨hok, hmem⟩ := hstep.ring (hmoved ▸ ringOk_takenMark hring v)
    have hmark : u.delivery[st].t = takenMark s.delivery[st] v := hstep.mark.trans (by rw [hmoved])
    have hsuffix := hstep.owed
    rw [hmoved] at hsuffix
    obtain ⟨m, d, c, n, hframe⟩ := hstep.frame
    have hpub : publish [] s u = { u with portCount := (publish [] s u).portCount } :=
      publish_portsOnly [] (hframe ▸ rfl) (hframe ▸ rfl) (hframe ▸ rfl) (hframe ▸ rfl)
    refine ⟨hmark.trans (takenMark_eq ..), hends, hsuffix, hok, ⟨u, ?_, hpub⟩, fun x hx => ?_, hmem, ?_⟩
    · rw [publish_delivery, hmark]
      exact hflushed
    · exact (hstep.other x hx).trans (put_get_ne _ _ _ _ hx.symm)
    · rw [hpub, hframe]
      rfl

end Sys2Proof.Machine
end

section
/-! ## SET QUOTA, SET PRINTER, SET SCANNER and the checks of SET SERVICE (R8, R9, R16, R44, R45, R87) -/

namespace Sys2Proof.Machine

open Sys2Proof.Safety
open Config

/-! ### Numbers in a card -/

theorem index?_eq_some {n k : Nat} (i : Fin n) (h : k = i.val) : index? n k = some i := by
  unfold index?
  rw [dif_pos (h ▸ i.isLt)]
  exact congrArg some (Fin.ext h)

theorem index?_eq_none {n k : Nat} (h : n ≤ k) : index? n k = none := dif_neg (Nat.not_lt.mpr h)

theorem cardByte_ne_zero (s : State) (c : CardNo) (k : Nat) : (cardByte s c k ≠ 0) ↔ cardNum s c k ≠ 0 := by
  unfold cardNum
  rw [ne_eq, ne_eq, ← BitVec.toNat_inj]
  rfl

/-! ### What a request leaves -/

/-- An event that leaves the jobs, the pool and what the port entries show as they are publishes station entries alone. -/
theorem publish_stationsOnly {s t : State} (hj : t.jobs = s.jobs) (hb : t.blocks = s.blocks) (hf : t.free = s.free)
    (hp : ∀ p, portItems s p = portItems t p) :
    publish [] s t = { t with stationCount := (publish [] s t).stationCount } := by
  rw [publish_eq, publish_jobCount fun j => by rw [hj], publish_portCount hp, publish_poolCount (poolItems_eq hf hb)]

/-- An accepted request that overwrites no argument: its answer stands, and nothing else of memory changes after its service
(R163). -/
theorem served_from {k : RequestKind} {f : CardNo → State → Served} {c : CardNo} {s u : State} {a : Answer}
    {ps : List PortNo} (hm : MemoryOk u) (hs : Serving k c s)
    (hf : f c s = { state := u, answer := a, marks := ps }) :
    ∃ t, serve k f s = .next t ∧ AnswerStands c a t ∧ MemoryKept u t (AnswerField c) ∧
      t = publish ps s (answerServed c a [] u) := by
  refine ⟨publish ps s (answerServed c a [] u), ?_, answerServed_stands hm c a [], (answerServed_only hm c a).2.1, rfl⟩
  rw [serve_serving hs, hf]

/-- An accepted request that writes no memory and overwrites no argument: its answer stands, and nothing else of memory has
changed (R163). -/
theorem served_answer {k : RequestKind} {f : CardNo → State → Served} {c : CardNo} {s u : State} {a : Answer}
    {ps : List PortNo} (hm : MemoryOk s) (hs : Serving k c s)
    (hf : f c s = { state := u, answer := a, marks := ps }) (hu : u.mem = s.mem) :
    ∃ t, serve k f s = .next t ∧ AnswerStands c a t ∧ MemoryKept s t (AnswerField c) ∧
      t = publish ps s (answerServed c a [] u) := by
  have hmu : memoryWf u.mem = true := hu ▸ hm
  obtain ⟨t, ht, ha, hk, heq⟩ := served_from hmu hs hf
  exact ⟨t, ht, ha, fun b hb => (hk b hb).trans (congrArg (readMem · b) hu), heq⟩

/-- A request refused leaves its answer alone (R163). -/
theorem refused_answer {k : RequestKind} {f : CardNo → State → Served} {c : CardNo} {s : State} {a : Answer}
    (hm : MemoryOk s) (hs : Serving k c s) (hf : f c s = refuse s a) :
    ∃ t, serve k f s = .next t ∧ OnlyAnswered c a s t :=
  ⟨_, serve_refused hs hf, answerServed_only hm c a⟩

/-- A request refused with free values leaves its answer and the next of them alone (R163, log 5). -/
theorem refusedOpen_answer {k : RequestKind} {f : CardNo → State → Served} {c : CardNo} {s : State} {a : Answer}
    (hm : MemoryOk s) (hs : Serving k c s) (hf : f c s = refuse (useOpen s) a) :
    ∃ t, serve k f s = .next t ∧ OnlyAnswered c a (useOpen s) t := by
  refine ⟨_, ?_, answerServed_only (s := useOpen s) hm c a⟩
  rw [serve_serving hs, hf]
  exact congrArg Host.Outcome.next (publish_same (s := s) (t := answerServed c a [] (useOpen s)) (fun _ => rfl)
    (fun _ => rfl) (fun _ => rfl) rfl)

/-! ### SET QUOTA (R8) -/

theorem setQuota_accepted (c : CardNo) (s : State) (st : StationNo) (hm : MemoryOk s) (hs : Serving .setQuota c s)
    (hst : cardNum s c 8 = st.val) :
    ∃ t, exec .setQuota s = .next t ∧
      AnswerStands c (openAnswer s .ok s.stations[st].holdings) t ∧ MemoryKept s t (AnswerField c) ∧
      t = { s with
        mem := t.mem, cards := put s.cards c .answered, serving := none
        notice := s.notice ||| stationBit (cardStation c), stationCount := t.stationCount
        openCount := s.openCount + 1
        stations := put s.stations st
          { s.stations[st] with quota := if 96 < cardHalfNum s c 9 then 96 else cardHalfNum s c 9 } } := by
  have hquota : min (cardHalfNum s c 9) quotaMax = if 96 < cardHalfNum s c 9 then 96 else cardHalfNum s c 9 := by
    unfold quotaMax
    split <;> omega
  have hf : serveSetQuota c s =
      { state := useOpen (updStation s st fun r => { r with quota := min (cardHalfNum s c 9) quotaMax })
        answer := openAnswer s .ok s.stations[st].holdings } := by
    unfold serveSetQuota
    rw [index?_eq_some st hst]
  obtain ⟨t, ht, ha, hk, rfl⟩ := served_answer (f := serveSetQuota) hm hs hf rfl
  refine ⟨_, ht, ha, hk, ?_⟩
  rw [← hquota]
  exact publish_stationsOnly rfl rfl rfl fun _ => rfl

theorem setQuota_refused (c : CardNo) (s : State) (hm : MemoryOk s) (hs : Serving .setQuota c s) (h : 15 < cardNum s c 8) :
    ∃ t, exec .setQuota s = .next t ∧
      OnlyAnswered c (openAnswer s .badArgument (openValue s.openCount)) (useOpen s) t := by
  refine refusedOpen_answer (f := serveSetQuota) hm hs ?_
  unfold serveSetQuota
  rw [index?_eq_none h]
  rfl

/-! ### SET PRINTER (R44, R45) -/

/-- What SET PRINTER stores (R44, R45): suspend allowed no clears the suspend-pending flag. -/
theorem acceptSetPrinter_state (p : PortNo) (timeout window : Nat) (allowed : Bool) (s : State) :
    (acceptSetPrinter p timeout window allowed s).state = { s with
      printers := put s.printers p
        { s.printers[p] with suspendPending := s.printers[p].suspendPending && allowed }
      printerSet := put s.printerSet p
        { pageTimeout := if timeout < 5 then 5 else timeout, reconnectWindow := window, suspendAllowed := allowed } } := by
  have htimeout : max timeout 5 = if timeout < 5 then 5 else timeout := by split <;> omega
  unfold acceptSetPrinter
  dsimp only
  rw [htimeout]
  cases allowed with
  | false => simp only [Bool.and_false]; rfl
  | true =>
    have hkept : put s.printers p
        { s.printers[p] with suspendPending := s.printers[p].suspendPending && true } = s.printers := by
      rw [Bool.and_true]
      exact put_self s.printers p
    rw [hkept]
    rfl

theorem setPrinter_accepted (c : CardNo) (s : State) (p : PortNo) (hm : MemoryOk s) (hs : Serving .setPrinter c s)
    (hp : cardNum s c 8 = p.val) :
    ∃ t, exec .setPrinter s = .next t ∧ AnswerStands c { outcome := .ok } t ∧ MemoryKept s t (AnswerField c) ∧
      t.portCount[p] = s.portCount[p] + 1 ∧
      t = { s with
        mem := t.mem, cards := put s.cards c .answered, serving := none
        notice := s.notice ||| stationBit (cardStation c), portCount := t.portCount
        printers := put s.printers p
          { s.printers[p] with
            suspendPending := s.printers[p].suspendPending && decide (cardNum s c 11 ≠ 0) }
        printerSet := put s.printerSet p
          { pageTimeout := if cardNum s c 9 < 5 then 5 else cardNum s c 9
            reconnectWindow := cardNum s c 10, suspendAllowed := decide (cardNum s c 11 ≠ 0) } } := by
  have hf : serveSetPrinter c s =
      { state := (acceptSetPrinter p (cardNum s c 9) (cardNum s c 10) (decide (cardNum s c 11 ≠ 0)) s).state
        answer := { outcome := .ok }, marks := [p] } := by
    unfold serveSetPrinter port?
    rw [index?_eq_some p hp]
    simp only [cardByte_ne_zero]
    rfl
  rw [acceptSetPrinter_state] at hf
  obtain ⟨t, ht, ha, hk, rfl⟩ := served_answer (f := serveSetPrinter) hm hs hf rfl
  exact ⟨_, ht, ha, hk, publish_portCount_marked (.head _) _ _, publish_portsOnly _ rfl rfl rfl rfl⟩

/-! ### SET SCANNER (R87) -/

theorem setScanner_accepted (c : CardNo) (s : State) (p : PortNo) (d : Option StationNo) (hm : MemoryOk s)
    (hs : Serving .setScanner c s) (hp : cardNum s c 8 = p.val)
    (hd : match d with | some st => cardNum s c 13 = st.val | none => cardNum s c 13 = 0xFF) :
    let maximum := min (max (cardHalfNum s c 11) 5) 600
    ∃ t, exec .setScanner s = .next t ∧ AnswerStands c { outcome := .ok } t ∧ MemoryKept s t (AnswerField c) ∧
      t.portCount[p] = s.portCount[p] + 1 ∧
      t = { s with
        mem := t.mem, cards := put s.cards c .answered, serving := none
        notice := s.notice ||| stationBit (cardStation c), portCount := t.portCount
        scannerSet := put s.scannerSet p
          { defaultHold := min (min (max (cardHalfNum s c 9) 5) 600) maximum, maximumHold := maximum
            defaultStation := d, repeatWindow := min (cardNum s c 14) 10 } } := by
  intro maximum
  have hstation : (cardNum s c 13 ≤ 15 ∨ cardNum s c 13 = 0xFF) ∧ index? 16 (cardNum s c 13) = d := by
    cases d with
    | none => exact ⟨.inr hd, index?_eq_none (by rw [hd]; decide)⟩
    | some st => exact ⟨.inl (hd ▸ Nat.le_of_lt_succ st.isLt), index?_eq_some st hd⟩
  have hf : serveSetScanner c s =
      { state := { s with
          scannerSet := put s.scannerSet p
            { defaultHold := min (min (max (cardHalfNum s c 9) 5) 600) maximum, maximumHold := maximum
              defaultStation := d, repeatWindow := min (cardNum s c 14) 10 } }
        answer := { outcome := .ok }, marks := [p] } := by
    unfold serveSetScanner
    rw [index?_eq_some p hp]
    dsimp only
    rw [if_pos hstation.1, hstation.2]
    rfl
  obtain ⟨t, ht, ha, hk, rfl⟩ := served_answer (f := serveSetScanner) hm hs hf rfl
  exact ⟨_, ht, ha, hk, publish_portCount_marked (.head _) _ _, publish_portsOnly _ rfl rfl rfl rfl⟩

/-- R44, R87: the refusals of SET PRINTER and SET SCANNER. -/
theorem settings_refused (c : CardNo) (s : State) (hm : MemoryOk s) :
    (Serving .setPrinter c s → 7 < cardNum s c 8 →
      ∃ t, exec .setPrinter s = .next t ∧ OnlyAnswered c { outcome := .noDevice } s t) ∧
    (Serving .setScanner c s → 7 < cardNum s c 8 →
      ∃ t, exec .setScanner s = .next t ∧ OnlyAnswered c { outcome := .noDevice } s t) ∧
    (Serving .setScanner c s → cardNum s c 8 ≤ 7 → 15 < cardNum s c 13 → cardNum s c 13 ≠ 0xFF →
      ∃ t, exec .setScanner s = .next t ∧ OnlyAnswered c { outcome := .badArgument } s t) := by
  refine ⟨fun hs hp => ?_, fun hs hp => ?_, fun hs hp h15 hff => ?_⟩
  · refine refused_answer (f := serveSetPrinter) hm hs ?_
    unfold serveSetPrinter port?
    rw [index?_eq_none hp]
  · refine refused_answer (f := serveSetScanner) hm hs ?_
    unfold serveSetScanner
    rw [index?_eq_none hp]
  · refine refused_answer (f := serveSetScanner) hm hs ?_
    unfold serveSetScanner
    rw [index?_eq_some ⟨cardNum s c 8, Nat.lt_succ_of_le hp⟩ rfl]
    exact if_neg fun h => h.elim (Nat.not_le.mpr h15) hff

/-- Settles O32: the clamps of R8, R44 and R87 by their own formulas, and each refusal by its check. -/
theorem settingsAreStoredWithinLimits : Obligations.SettingsAreStoredWithinLimits :=
  ⟨⟨setQuota_accepted, setQuota_refused⟩, setPrinter_accepted, setScanner_accepted, settings_refused⟩

/-! ### SET SERVICE of value 1, and the refusals of SET SERVICE (R9, R16) -/

theorem serveSetService_eq {c : CardNo} {s : State} {st : StationNo} (h : cardNum s c 8 = st.val) :
    serveSetService c s =
      checked (useOpen s) (serviceChecks s st (cardNum s c 9)) (acceptSetService st (cardNum s c 9) s) := by
  unfold serveSetService
  rw [index?_eq_some st h]

/-- The checks of SET SERVICE pass for a value of 0 or 1 that is not the station's state, but for 0 at station 0 (R9). -/
theorem serviceChecks_pass {s : State} {st : StationNo} {v : Nat} (hv : v ≤ 1) (h0 : ¬ (st = 0 ∧ v = 0))
    (hs : inService s st = decide (v = 0)) : firstFailing (serviceChecks s st v) = none := by
  rw [firstFailing_none_iff]
  unfold serviceChecks
  rw [hs]
  intro x hx
  simp only [List.mem_cons, List.not_mem_nil, or_false] at hx
  rcases hx with rfl | rfl | rfl
  · simpa using hv
  · simpa only [decide_eq_false_iff_not, Bool.not_eq_true', Bool.and_eq_false_iff, ← not_and_or] using h0
  · have hv' : v = 0 ∨ v = 1 := by omega
    rcases hv' with rfl | rfl <;> rfl

/-- The answer of the first check of SET SERVICE that fails (R9). -/
theorem serviceChecks_fail (s : State) (st : StationNo) (v : Nat) :
    (1 < v ∨ st = 0 ∧ v = 0 → firstFailing (serviceChecks s st v) =
      some (openAnswer s .badArgument (openValue s.openCount))) ∧
    (v ≤ 1 → ¬ (st = 0 ∧ v = 0) → inService s st = decide (v = 1) → firstFailing (serviceChecks s st v) =
      some (openAnswer s .badState (openValue s.openCount))) := by
  unfold serviceChecks
  constructor
  · rintro (h | ⟨rfl, rfl⟩)
    · rw [decide_eq_false (Nat.not_le.mpr h)]
      rfl
    · rfl
  · intro hv h0 hs
    rw [decide_eq_true hv, hs, firstFailing_pass, show (!(decide (st = 0) && decide (v = 0))) = true by
        simpa only [decide_eq_false_iff_not, Bool.not_eq_true', Bool.and_eq_false_iff, ← not_and_or] using h0,
      firstFailing_pass]
    simp

theorem reinstatement (c : CardNo) (s : State) (st : StationNo) (hm : MemoryOk s) (hs : Serving .setService c s)
    (hst : cardNum s c 8 = st.val) (hv : cardNum s c 9 = 1) (hin : inService s st = false) :
    ∃ t, exec .setService s = .next t ∧ AnswerStands c (openAnswer s .ok 0) t ∧ MemoryKept s t (AnswerField c) ∧
      t = { s with
        mem := t.mem, cards := put s.cards c .answered, serving := none
        notice := s.notice ||| stationBit (cardStation c), stationCount := t.stationCount
        openCount := s.openCount + 1
        stations := put s.stations st { s.stations[st] with service := .inService }
        delivery := put s.delivery st { s.delivery[st] with w := 0, t := 0, gap := false, frozen := false } } := by
  have hf : serveSetService c s = { state := useOpen (reinstate st s), answer := openAnswer s .ok 0 } := by
    rw [serveSetService_eq hst, hv, checked_pass (serviceChecks_pass (Nat.le_refl 1) (by simp) hin)]
    rfl
  obtain ⟨t, ht, ha, hk, rfl⟩ := served_answer (f := serveSetService) hm hs hf rfl
  exact ⟨_, ht, ha, hk, publish_stationsOnly rfl rfl rfl fun _ => rfl⟩

theorem setService_badState (c : CardNo) (s : State) (st : StationNo) (hm : MemoryOk s) (hs : Serving .setService c s)
    (hst : cardNum s c 8 = st.val)
    (h : cardNum s c 9 = 1 ∧ inService s st = true ∨ cardNum s c 9 = 0 ∧ inService s st = false ∧ st ≠ 0) :
    ∃ t, exec .setService s = .next t ∧
      OnlyAnswered c (openAnswer s .badState (openValue s.openCount)) (useOpen s) t := by
  refine refusedOpen_answer (f := serveSetService) hm hs ?_
  rw [serveSetService_eq hst]
  refine checked_fail ((serviceChecks_fail s st _).2 ?_ ?_ ?_) _
  · omega
  · rcases h with ⟨hv, -⟩ | ⟨-, -, h0⟩
    · omega
    · exact fun h => h0 h.1
  · rcases h with ⟨hv, hin⟩ | ⟨hv, hin, -⟩ <;> rw [hin, hv] <;> rfl

theorem setService_badArgument (c : CardNo) (s : State) (hm : MemoryOk s) (hs : Serving .setService c s)
    (h : 15 < cardNum s c 8 ∨ 1 < cardNum s c 9 ∨ cardNum s c 8 = 0 ∧ cardNum s c 9 = 0) :
    ∃ t, exec .setService s = .next t ∧
      OnlyAnswered c (openAnswer s .badArgument (openValue s.openCount)) (useOpen s) t := by
  refine refusedOpen_answer (f := serveSetService) hm hs ?_
  by_cases hst : 15 < cardNum s c 8
  · unfold serveSetService
    rw [index?_eq_none hst]
    rfl
  · rw [serveSetService_eq (st := ⟨cardNum s c 8, by omega⟩) rfl]
    refine checked_fail ((serviceChecks_fail s _ _).1 ?_) _
    rcases h with h | h | ⟨h8, h9⟩
    · exact absurd h hst
    · exact .inl h
    · exact .inr ⟨Fin.ext h8, h9⟩

/-- Settles O31: the reinstatement of R16, and the checks of R9 by the first that fails. -/
theorem reinstatementRestartsTheRing : Obligations.ReinstatementRestartsTheRing :=
  ⟨reinstatement, setService_badState, setService_badArgument⟩

end Sys2Proof.Machine
end

section
/-! ## The full reset and the soft reset (R3, R53, R81, R102, R176–R178) -/

namespace Sys2Proof.Machine

open Sys2Proof.Safety
open Config

/-! ### The reset state, field by field -/

theorem reset_card (c : CardNo) : State.reset.cards[c] = .empty := Vector.getElem_replicate ..
theorem reset_station (st : StationNo) : State.reset.stations[st] = Station.reset := Vector.getElem_replicate ..
theorem reset_block (b : BlockNo) : State.reset.blocks[b] = .free := Vector.getElem_replicate ..
theorem reset_job (j : JobNo) : State.reset.jobs[j] = Job.reset := Vector.getElem_replicate ..
theorem reset_printer (p : PortNo) : State.reset.printers[p] = Printer.reset := Vector.getElem_replicate ..
theorem reset_printerSet (p : PortNo) : State.reset.printerSet[p] = PrinterSettings.reset := Vector.getElem_replicate ..
theorem reset_scanner (p : PortNo) : State.reset.scanners[p] = Scanner.reset := Vector.getElem_replicate ..
theorem reset_scannerSet (p : PortNo) : State.reset.scannerSet[p] = ScannerSettings.reset := Vector.getElem_replicate ..
theorem reset_zone (z : ZoneNo) : State.reset.zones[z] = none := Vector.getElem_replicate ..
theorem reset_contact (n : ContactNo) : State.reset.contacts[n] = none := Vector.getElem_replicate ..
theorem reset_panel (p : PortNo) : State.reset.panels[p] = none := Vector.getElem_replicate ..
theorem reset_delivery (st : StationNo) : State.reset.delivery[st] = Delivery.reset := Vector.getElem_replicate ..
theorem reset_port (p : PortNo) : State.reset.ports[p] = Port.reset := Vector.getElem_replicate ..
theorem reset_toPrint (p : PortNo) : State.reset.toPrint[p] = [] := Vector.getElem_replicate ..
theorem reset_toScan (p : PortNo) : State.reset.toScan[p] = [] := Vector.getElem_replicate ..
theorem reset_toTouch (p : PortNo) : State.reset.toTouch[p] = [] := Vector.getElem_replicate ..
theorem reset_portCount (p : PortNo) : State.reset.portCount[p] = 0 := Vector.getElem_replicate ..
theorem reset_jobCount (j : JobNo) : State.reset.jobCount[j] = 0 := Vector.getElem_replicate ..
theorem reset_stationCount (st : StationNo) : State.reset.stationCount[st] = 0 := Vector.getElem_replicate ..

/-! ### The invariants after a full reset -/

theorem reset_ringsOk : RingsOk State.reset := fun st => by
  rw [reset_delivery]
  exact ⟨by decide, by decide, by decide, by decide, by decide, by decide⟩

theorem reset_poolOk : PoolOk State.reset :=
  ⟨List.nodup_finRange 96, fun b => iff_of_true (List.mem_finRange b) (reset_block b)⟩

theorem reset_cardsOk : CardsOk State.reset := by
  refine ⟨List.nodup_nil, fun c => ?_, fun c => ?_⟩
  · rw [reset_card]
    exact iff_of_false List.not_mem_nil (by decide)
  · rw [reset_card]
    exact iff_of_false (by nofun) (by decide)

theorem reset_scannersOk : ScannersOk State.reset := fun p => by
  rw [reset_scanner]
  exact ⟨by decide, List.nodup_nil, rfl⟩

theorem reset_zonesOk : ZonesOk State.reset := by
  refine ⟨fun z a h => ?_, fun y z a b h => ?_, fun p => ?_⟩
  · rw [reset_zone] at h
    cases h
  · rw [reset_zone] at h
    cases h
  · have hnone : activeZones State.reset p = [] := by
      unfold activeZones
      refine List.filter_eq_nil_iff.mpr fun z _ => ?_
      rw [reset_zone]
      exact Bool.false_ne_true
    rw [hnone]
    decide

theorem reset_portsOk : PortsOk State.reset := fun p => by
  rw [reset_port]
  exact ⟨by decide, by decide, by decide, by decide, by decide, by nofun, by nofun⟩

theorem reset_printersOk : PrintersOk State.reset := fun p => by
  rw [reset_printer]
  exact ⟨by decide, fun _ => ⟨rfl, rfl, rfl, rfl, rfl, rfl, rfl, rfl⟩⟩

theorem reset_jobsOk : JobsOk State.reset := by
  refine ⟨fun j => ?_, fun p => ?_⟩
  · have hfree : State.reset.jobs[j].state = .free := congrArg Job.state (reset_job j)
    rw [hfree]
    trivial
  · rw [reset_printer]
    exact ⟨by nofun, by nofun, by nofun, List.nodup_nil, by nofun, fun _ => rfl⟩

theorem reset_settingsOk : SettingsOk State.reset := by
  refine ⟨fun st => ?_, fun p => ?_⟩
  · rw [reset_station]
    decide
  · rw [reset_printerSet, reset_scannerSet, reset_port]
    decide

theorem reset_keysOk : KeysOk State.reset := fun m n a b h => by
  rw [reset_contact] at h
  cases h

theorem reset_blocksOk : BlocksOk State.reset := fun j h => by
  rw [reset_job] at h
  exact absurd rfl h

/-- Settles O5: each invariant from the reset values of the fields it speaks of. -/
theorem resetMeetsTheInvariants : Obligations.ResetMeetsTheInvariants :=
  ⟨reset_memoryWf, reset_ringsOk, reset_serviceOk, reset_poolOk, reset_cardsOk, reset_scannersOk, reset_zonesOk,
    reset_portsOk, reset_printersOk, reset_jobsOk, reset_settingsOk, reset_keysOk, reset_blocksOk⟩

/-! ### The values of a full reset -/

/-- The header bytes of marks, gap and sequence read 0 after a full reset (R153, R166). -/
theorem reset_headerByte {s : State} {st : StationNo} {k : Nat} (hd : s.delivery[st] = Delivery.reset) (hk : k < 8) :
    headerByte s st k = 0 := by
  unfold headerByte
  dsimp only
  rw [hd]
  interval_cases k <;> rfl

/-- Every byte of a station area but the taken-mark header's tail reads 0 where the memory is empty, the cards are EMPTY and
the rings are at their reset values (R153, R155, R165). -/
theorem reset_areaByte {s : State} (hm : s.mem = []) (hc : ∀ c : CardNo, s.cards[c] = .empty)
    (hd : ∀ st : StationNo, s.delivery[st] = Delivery.reset) (st : StationNo) {a : Nat}
    (ha : areaOffset a < 8 ∨ cardOffset ≤ areaOffset a) : areaByte s st a = 0 := by
  unfold areaByte
  dsimp only
  split
  · exact reset_headerByte (hd st) (ha.resolve_right (by omega))
  · split
    · rw [hc]
      rfl
    · rw [hm]
      rfl

/-- A host read within the station areas, under the same conditions (R151). -/
theorem reset_readByte_area {s : State} (hm : s.mem = []) (hc : ∀ c : CardNo, s.cards[c] = .empty)
    (hd : ∀ st : StationNo, s.delivery[st] = Delivery.reset) {a : Nat} (hlo : areaBase ≤ a) (hhi : a < poolBase)
    (ha : areaOffset a < 8 ∨ cardOffset ≤ areaOffset a) : s.readByte a = 0 := by
  unfold State.readByte
  rw [if_neg (Nat.not_lt.mpr hlo), if_pos hhi]
  split
  · exact reset_areaByte hm hc hd _ ha
  · rfl

/-- A host read of the pool where the memory is empty, or of the unmapped region (R24, R151). -/
theorem reset_readByte_pool {s : State} (hm : s.mem = []) {a : Nat} (hlo : poolBase ≤ a) (hhi : a < registerBase) :
    s.readByte a = 0 := by
  have hareas : ¬ a < areaBase := by unfold areaBase; unfold poolBase at hlo; omega
  unfold State.readByte
  rw [if_neg hareas, if_neg (Nat.not_lt.mpr hlo), if_pos hhi, hm]
  split <;> rfl

/-- The identification of the common page reads as given in every state (R183). -/
theorem readWord_identification (s : State) :
    s.readWord 0x0000 = 0x1B4C ∧ s.readWord 0x0002 = 0x0816 ∧ s.readByte 0x0004 = 0x03 := by
  have hcode : ∀ k, k < 5 → s.readByte k = byteAt (halfBytes vendorCode ++ halfBytes Config.partCode ++ [revision]) k := by
    intro k hk
    unfold State.readByte commonByte
    rw [if_pos (by unfold areaBase; omega), if_pos (by omega)]
  unfold State.readWord
  rw [hcode _ (by decide), hcode _ (by decide), hcode _ (by decide), hcode _ (by decide), hcode _ (by decide)]
  decide

/-- Settles O12: the fields of the reset state, and the addresses of the areas, the pool and the unmapped region by their
region. -/
theorem fullResetValues : Obligations.FullResetValues := by
  intro s
  let t : State := { State.reset with pending := s.pending, openCount := s.openCount }
  obtain ⟨hvendor, hpart, hrevision⟩ := readWord_identification t
  have hquiet : State.reset.interrupt = false := by decide
  refine ⟨t, rfl, rfl, rfl, rfl, rfl, rfl, rfl, hquiet, hvendor, hpart, hrevision, fun a hlo hhi ha => ?_,
    fun a hlo hhi => ?_, reset_station, reset_card, rfl, rfl, rfl, rfl, rfl, rfl, rfl, rfl, rfl, rfl, reset_block, fun j => ?_, rfl,
    fun p => ?_, reset_zone, reset_contact, reset_delivery, reset_portCount, reset_jobCount, reset_stationCount, rfl⟩
  · refine reset_readByte_area (s := t) rfl reset_card reset_delivery hlo hhi ?_
    unfold areaOffset areaBase areaSize cardOffset
    exact ha
  · exact reset_readByte_pool rfl hlo hhi
  · rw [show t.jobs[j] = Job.reset from reset_job j]
    exact ⟨rfl, rfl, rfl, rfl, rfl, rfl, rfl, rfl⟩
  · rw [show t.printers[p] = _ from reset_printer p, show t.scanners[p] = _ from reset_scanner p,
      show t.panels[p] = _ from reset_panel p, show t.ports[p] = _ from reset_port p,
      show t.toPrint[p] = _ from reset_toPrint p, show t.toScan[p] = _ from reset_toScan p,
      show t.toTouch[p] = _ from reset_toTouch p, show t.printerSet[p] = _ from reset_printerSet p,
      show t.scannerSet[p] = _ from reset_scannerSet p]
    exact ⟨rfl, rfl, rfl, rfl, rfl, rfl, rfl, rfl, rfl, rfl, rfl, rfl, rfl, rfl, rfl, rfl, rfl, rfl, rfl, rfl, rfl, rfl, rfl,
      rfl, rfl, rfl, rfl, rfl, rfl, rfl, rfl, rfl, rfl⟩

/-! ### The pages in flight at a soft reset (R53, R81) -/

/-- The frame that abandons the page in flight of a printer (R81; a port of another kind takes none, log 20). -/
def abandonFrames (s : State) (p : PortNo) : List OutFrame :=
  match s.printers[p].page with
  | some pg => if UpWith .printer p s then [.pageAbandon pg.page] else []
  | none => []

theorem abandonPage_eq (s : State) (p : PortNo) :
    abandonPage s p = { s with
      ports := put s.ports p { s.ports[p] with sendList := s.ports[p].sendList ++ abandonFrames s p } } := by
  unfold abandonPage abandonFrames
  cases s.printers[p].page with
  | some pg => exact hand_page (f := .pageAbandon pg.page) rfl s
  | none =>
    dsimp only
    rw [List.append_nil]
    exact congrArg (fun ports => { s with ports := ports }) (put_self s.ports p).symm

/-- The pages of the listed printers abandoned: each listed port's send list takes its own frame, once. -/
theorem foldl_abandonPage (l : List PortNo) (s : State) (hl : l.Nodup) :
    ∃ ports, l.foldl abandonPage s = { s with ports := ports } ∧ ∀ p : PortNo, ports[p] =
      if p ∈ l then { s.ports[p] with sendList := s.ports[p].sendList ++ abandonFrames s p } else s.ports[p] := by
  induction l generalizing s with
  | nil => exact ⟨s.ports, rfl, fun _ => (if_neg List.not_mem_nil).symm⟩
  | cons q l ih =>
    obtain ⟨hq, hl⟩ := List.nodup_cons.mp hl
    obtain ⟨ports, hfold, hports⟩ := ih (abandonPage s q) hl
    rw [abandonPage_eq] at hfold hports
    refine ⟨ports, by rw [List.foldl_cons, abandonPage_eq, hfold], fun p => ?_⟩
    rw [hports p]
    by_cases hpq : p = q
    · subst hpq
      rw [if_neg hq, if_pos List.mem_cons_self]
      exact put_get ..
    · have hsame : ∀ r : Port, (put s.ports q r)[p] = s.ports[p] := fun r => put_get_ne _ _ _ _ (Ne.symm hpq)
      have hframes : ∀ r : Port, abandonFrames { s with ports := put s.ports q r } p = abandonFrames s p := fun r => by
        unfold abandonFrames UpWith
        dsimp only
        rw [hsame]
      simp only [hsame, hframes, List.mem_cons, hpq, false_or]

/-! ### The write to PART CONTROL (R177) -/

theorem exec_softReset {w : HostWrite} {s : State} (hw : inRegister 0 w.address = true) :
    exec (.softReset w) s = .next (controlWrite (writtenWord (partControl s) w) s) := by
  unfold inRegister at hw
  simp only [Bool.and_eq_true, decide_eq_true_eq] at hw
  obtain ⟨hlo, hhi⟩ := hw
  unfold registerBase at hlo hhi
  have hindex : (w.address - registerBase) / 2 = 0 := by unfold registerBase; omega
  show Host.Outcome.next (hostWrite w s) = _
  unfold hostWrite
  dsimp only
  rw [if_neg (by unfold areaBase; omega), if_neg (by unfold poolBase; omega), if_neg (by unfold unmappedBase; omega),
    if_neg (by unfold registerBase; omega), hindex]
  rfl

/-- A write with SOFT RESET 1 resets the part; with RUN 1 too it starts a part the reset leaves STOPPED (R177). -/
theorem controlWrite_reset {v : Half} (h : v.getLsbD 1 = true) (s : State) :
    controlWrite v s = { softReset s with
      part := if v.getLsbD 0 = true ∧ (softReset s).part = .stopped then .running else (softReset s).part } := by
  unfold controlWrite startPart
  rw [if_pos h]
  dsimp only
  by_cases h0 : v.getLsbD 0 = true
  · rw [if_pos h0]
    by_cases hp : (softReset s).part = .stopped
    · rw [if_pos hp, if_pos ⟨h0, hp⟩]
    · rw [if_neg hp, if_neg fun hh => hp hh.2]
  · rw [if_neg h0, if_neg fun hh => h0 hh.1]

/-- A bit of the low byte that a host write hands to a word is the bit it carries (R151). -/
theorem writtenWord_bit (x : Half) (w : HostWrite) (k : Nat) :
    (writtenWord x w).getLsbD k = (handedValue x.toNat w).testBit k := by
  rw [← writtenWord_toNat rfl]
  rfl

/-- The bit of a write of the even byte of a word, within that byte. -/
theorem handedValue_even {cur : Nat} {a : Half} (ha : a.toNat % 2 = 0) (v : Byte) {k : Nat} (hk : k < 8) :
    (handedValue cur (.byte a v)).testBit k = v.getLsbD k := by
  unfold handedValue
  dsimp only
  rw [if_pos ha, Nat.mul_comm]
  exact (Nat.testBit_two_pow_mul_add (i := 8) _ v.isLt k).trans (if_pos hk)

/-- Settles O14: the soft reset's own fields, the fold over the pages in flight, and RUN in the same write. -/
theorem softResetTearsDown : Obligations.SoftResetTearsDown := by
  intro w s hw
  have hplace : inRegister 0 w.address = true := by
    rcases hw with ⟨a, v, rfl, ha | ha, -⟩ | ⟨v, rfl, -⟩
    · rw [ha]; rfl
    · rw [ha]; rfl
    · rfl
  have hbit : (writtenWord (partControl s) w).getLsbD 1 = true := by
    rcases hw with ⟨a, v, rfl, -, hv⟩ | ⟨v, rfl, hv⟩
    · exact hv
    · rw [writtenWord_bit, handedValue_even rfl v (by decide)]
      exact hv
  obtain ⟨ports, hfold, hports⟩ := foldl_abandonPage (List.finRange 8) s (List.nodup_finRange 8)
  refine ⟨_, (exec_softReset hplace).trans (congrArg _ (controlWrite_reset hbit s)), ?_⟩
  unfold softReset
  rw [hfold]
  refine ⟨fun _ => rfl, reset_card, rfl, rfl, fun st => Vector.getElem_map .., reset_block, rfl,
    fun j => Vector.getElem_map .., rfl, fun p => ?_, rfl, fun p => ?_, rfl, rfl, reset_contact,
    fun st => Vector.getElem_map .., rfl, rfl, fun p => ?_, fun h => ?_, fun h => ?_, rfl, rfl, rfl, rfl, rfl, rfl,
    reset_portCount, reset_jobCount, reset_stationCount, rfl, rfl, rfl, rfl, rfl, rfl, rfl, rfl, rfl, rfl⟩
  · have hp : (s.printers.map softPrinter)[p] = softPrinter s.printers[p] := Vector.getElem_map ..
    dsimp only
    rw [hp]
    exact ⟨rfl, rfl, rfl, rfl, rfl, rfl, rfl, rfl, rfl, rfl, rfl, rfl, rfl⟩
  · have hp : (s.scanners.map softScanner)[p] = softScanner s.scanners[p] := Vector.getElem_map ..
    dsimp only
    rw [hp]
    refine ⟨?_, rfl, rfl, rfl, rfl⟩
    unfold softScanner
    cases s.scanners[p].state <;> rfl
  · have hp := (hports p).trans (if_pos (List.mem_finRange p))
    dsimp only
    rw [hp]
    exact ⟨rfl, rfl⟩
  · dsimp only
    rcases h with h | h <;> rw [h] <;> exact if_neg fun hh => nomatch hh.2
  · have hcur : (partControl s).toNat = 0 := by
      unfold partControl
      rw [if_pos h]
      rfl
    dsimp only
    rw [h, writtenWord_bit, hcur]
    simp only [softPart, and_true]

end Sys2Proof.Machine
end

section
/-! ## Records given one after the other, the scanners' turns, and SET PERMITS (R5, R6, R13, R92, R170) -/

namespace Sys2Proof.Machine

open Sys2Proof.Safety
open Config

/-! ### Records given one after the other -/

theorem given_append (rs qs : List (StationNo × Record)) (s : State) : given (rs ++ qs) s = given qs (given rs s) :=
  List.foldl_append ..

theorem given_frame (rs : List (StationNo × Record)) (s : State) : DeliveryStep s (given rs s) := by
  induction rs generalizing s with
  | nil => exact .refl s
  | cons r rs ih => exact (giveStatus_frame r.1 r.2 s).trans (ih _)

/-- The scanner records replaced. -/
def withScanners (s : State) (v : Vector Scanner 8) : State := { s with scanners := v }

@[simp] theorem withScanners_scanners (s : State) (v : Vector Scanner 8) : (withScanners s v).scanners = v := rfl
@[simp] theorem withScanners_time (s : State) (v : Vector Scanner 8) : (withScanners s v).time = s.time := rfl
@[simp] theorem withScanners_twice (s : State) (v u : Vector Scanner 8) :
    withScanners (withScanners s v) u = withScanners s u := rfl

/-- A record given does not see the scanners. -/
theorem giveStatus_scanners (st : StationNo) (r : Record) (s : State) (v : Vector Scanner 8) :
    giveStatus st r (withScanners s v) = withScanners (giveStatus st r s) v := by
  unfold giveStatus
  change (if (!ringOpen s st) = true then _ else if canWrite s st r = true then _
    else if s.delivery[st].owed.length < owedMax then _ else _) = _
  split_ifs <;> rfl

theorem given_scanners (rs : List (StationNo × Record)) (s : State) (v : Vector Scanner 8) :
    given rs (withScanners s v) = withScanners (given rs s) v := by
  induction rs generalizing s with
  | nil => rfl
  | cons r rs ih =>
    show given rs (giveStatus r.1 r.2 (withScanners s v)) = withScanners (given rs (giveStatus r.1 r.2 s)) v
    rw [giveStatus_scanners, ih]

theorem given_scannersField (rs : List (StationNo × Record)) (s : State) : (given rs s).scanners = s.scanners := by
  obtain ⟨m, d, n, h⟩ := given_frame rs s
  rw [h]

theorem given_time (rs : List (StationNo × Record)) (s : State) : (given rs s).time = s.time := by
  obtain ⟨m, d, n, h⟩ := given_frame rs s
  rw [h]

/-- What a record given keeps: the memory's form, the law of each ring, and every byte outside the rings. -/
structure RingsWritten (s t : State) : Prop where
  memory : MemoryOk t
  rings : RingsOk t
  bytes : MemoryKept s t fun a => ∃ other, InRing other a

theorem giveStatus_ringsWritten {s : State} (hm : MemoryOk s) (hr : RingsOk s) (st : StationNo) (r : Record) :
    RingsWritten s (giveStatus st r s) := by
  have hrings : RingsOk (giveStatus st r s) := ringsKept_commandClosed.giveStatus st r s hr
  cases ho : ringOpen s st with
  | false =>
    rw [giveStatus_closed ho r]
    exact ⟨hm, hr, fun _ _ => rfl⟩
  | true =>
    cases hw : canWrite s st r with
    | true =>
      rw [giveStatus_written hw] at hrings ⊢
      exact ⟨writeRecord_wf hm .., hrings, fun a ha =>
        writeRecord_memoryKept (hr st) (canWrite_fits hw) _ a fun h => ha ⟨st, h⟩⟩
    | false =>
      by_cases hl : s.delivery[st].owed.length < owedMax
      · rw [giveStatus_owed ho hw hl] at hrings ⊢
        exact ⟨hm, hrings, fun _ _ => rfl⟩
      · rw [giveStatus_gapped ho hw (Nat.not_lt.mp hl)] at hrings ⊢
        exact ⟨hm, hrings, fun _ _ => rfl⟩

theorem given_ringsWritten (rs : List (StationNo × Record)) {s : State} (hm : MemoryOk s) (hr : RingsOk s) :
    RingsWritten s (given rs s) := by
  induction rs generalizing s with
  | nil => exact ⟨hm, hr, fun _ _ => rfl⟩
  | cons r rs ih =>
    obtain ⟨hm', hr', hb⟩ := giveStatus_ringsWritten hm hr r.1 r.2
    obtain ⟨hm'', hr'', hb'⟩ := ih hm' hr'
    exact ⟨hm'', hr'', fun a ha => (hb' a ha).trans (hb a ha)⟩

/-! ### Two states in which records are given alike -/

/-- Two states agree on what a record given reads and changes, for the stations of `ok` and outside the addresses of `F`. -/
structure GivenAlike (ok : StationNo → Prop) (F : Nat → Prop) (s t : State) : Prop where
  memory : MemoryOk s
  memory' : MemoryOk t
  bytes : MemoryKept s t F
  delivery : ∀ x, ok x → t.delivery[x] = s.delivery[x]
  service : ∀ x, ok x → inService t x = inService s x
  notice : ∀ x, ok x → t.notice.getLsbD x.val = s.notice.getLsbD x.val
  time : t.time = s.time

/-- The same bytes written at the same place keep two memories in agreement. -/
theorem writeBytes_alike {m n : Memory} (hm : memoryWf m = true) (hn : memoryWf n = true) {a : Nat}
    (h : readMem n a = readMem m a) (b : Nat) (bs : List Byte) :
    readMem (writeBytes n b bs) a = readMem (writeBytes m b bs) a := by
  rw [readMem_writeBytes hm, readMem_writeBytes hn, h]

theorem GivenAlike.writeRecord {ok : StationNo → Prop} {F : Nat → Prop} {s t : State} (h : GivenAlike ok F s t)
    {st : StationNo} (hst : ok st) (r : Record) :
    GivenAlike ok F (writeRecord st r (stampNow s) s) (writeRecord st r (stampNow t) t) := by
  have hstamp : stampNow t = stampNow s := by unfold stampNow; rw [h.time]
  refine ⟨writeRecord_wf h.memory .., writeRecord_wf h.memory' .., fun a ha => ?_, fun x hx => ?_, h.service,
    fun x hx => ?_, h.time⟩
  · rw [writeRecord_mem, writeRecord_mem, h.delivery st hst, hstamp]
    refine writeBytes_alike (afterSkip_wf h.memory ..) (afterSkip_wf h.memory' ..) ?_ _ _
    unfold afterSkip
    split
    · exact h.bytes a ha
    · exact writeBytes_alike h.memory h.memory' (h.bytes a ha) _ _
  · by_cases hxs : x = st
    · subst hxs
      exact (writeRecord_delivery_self ..).trans
        ((congrArg (afterWrite · _) (h.delivery x hx)).trans (writeRecord_delivery_self ..).symm)
    · rw [writeRecord_delivery_ne hxs, writeRecord_delivery_ne hxs, h.delivery x hx]
  · show (t.notice ||| stationBit st).getLsbD x.val = (s.notice ||| stationBit st).getLsbD x.val
    rw [BitVec.getLsbD_or, BitVec.getLsbD_or, h.notice x hx]

theorem GivenAlike.updDelivery {ok : StationNo → Prop} {F : Nat → Prop} {s t : State} (h : GivenAlike ok F s t)
    {st : StationNo} (hst : ok st) (f : Delivery → Delivery) :
    GivenAlike ok F (updDelivery s st f) (updDelivery t st f) := by
  refine { h with delivery := fun x hx => ?_ }
  show (put t.delivery st (f t.delivery[st]))[x] = (put s.delivery st (f s.delivery[st]))[x]
  by_cases hxs : x = st
  · subst hxs
    exact (put_get ..).trans ((congrArg f (h.delivery x hx)).trans (put_get ..).symm)
  · exact (put_get_ne _ _ _ _ (Ne.symm hxs)).trans ((h.delivery x hx).trans (put_get_ne _ _ _ _ (Ne.symm hxs)).symm)

theorem GivenAlike.giveStatus {ok : StationNo → Prop} {F : Nat → Prop} {s t : State} (h : GivenAlike ok F s t)
    {st : StationNo} (hst : ok st) (r : Record) : GivenAlike ok F (giveStatus st r s) (giveStatus st r t) := by
  have hd := h.delivery st hst
  have hopen : ringOpen t st = ringOpen s st := by unfold ringOpen; rw [h.service st hst, hd]
  have hcan : canWrite t st r = canWrite s st r := by unfold canWrite; rw [hopen, hd]
  have hstamp : stampNow t = stampNow s := by unfold stampNow; rw [h.time]
  unfold Machine.giveStatus joinOwed setGap
  rw [hopen, hcan, hd, hstamp]
  split_ifs
  · exact h
  · exact hstamp ▸ h.writeRecord hst r
  · exact h.updDelivery hst _
  · exact h.updDelivery hst _

theorem GivenAlike.given {ok : StationNo → Prop} {F : Nat → Prop} {s t : State} (h : GivenAlike ok F s t)
    {rs : List (StationNo × Record)} (hrs : ∀ r ∈ rs, ok r.1) : GivenAlike ok F (given rs s) (given rs t) := by
  induction rs generalizing s t with
  | nil => exact h
  | cons r rs ih =>
    exact ih (h.giveStatus (hrs r List.mem_cons_self) r.2) fun q hq => hrs q (List.mem_cons_of_mem r hq)

/-! ### The turn of one scanner -/

/-- The scanner record after the head waiter, if any, has been granted the scanner (R85, R92). -/
def granted (now : Time) (r : Scanner) : Scanner :=
  match r.queue with
  | [] => { r with state := .free }
  | w :: rest =>
    { r with
      state := .held
        { holder := w.station, hold := w.hold, idle := { start := now, length := w.hold * 1000 }, count := w.count
          serial := r.grants + 1 }
      queue := rest, grants := r.grants + 1 }

theorem granted_nil {r : Scanner} (h : r.queue = []) (now : Time) : granted now r = { r with state := .free } := by
  unfold granted
  rw [h]

theorem granted_cons {r : Scanner} {w : Wait} {rest : List Wait} (h : r.queue = w :: rest) (now : Time) :
    granted now r = { r with
      state := .held
        { holder := w.station, hold := w.hold, idle := { start := now, length := w.hold * 1000 }, count := w.count
          serial := r.grants + 1 }
      queue := rest, grants := r.grants + 1 } := by
  unfold granted
  rw [h]

theorem grantRecords_nil {r : Scanner} (h : r.queue = []) (p : PortNo) : grantRecords p r = [] := by
  unfold grantRecords
  rw [h]
  rfl

theorem grantRecords_cons {r : Scanner} {w : Wait} {rest : List Wait} (h : r.queue = w :: rest) (p : PortNo) :
    grantRecords p r = [(w.station, .claimGranted p (r.grants + 1) w.hold w.count)] := by
  unfold grantRecords
  rw [h]
  rfl

theorem passOn_eq (p : PortNo) (s : State) : passOn p s =
    given (grantRecords p s.scanners[p]) (withScanners s (put s.scanners p (granted s.time s.scanners[p]))) := by
  unfold passOn
  split
  · next hq =>
    rw [grantRecords_nil hq, granted_nil hq]
    rfl
  · next w rest hq =>
    rw [grantRecords_cons hq, granted_cons hq]
    have hset : grant p w (updScanner s p fun r => { r with queue := rest }) = { s with
        scanners := put s.scanners p { s.scanners[p] with
          state := .held
            { holder := w.station, hold := w.hold, idle := { start := s.time, length := w.hold * 1000 }
              count := w.count, serial := s.scanners[p].grants + 1 }
          queue := rest, grants := s.scanners[p].grants + 1 } } := by
      unfold grant updScanner grantTo
      dsimp only
      rw [put_put, Fin.getElem_fin, Fin.getElem_fin, put_get]
      rfl
    rw [hset]
    dsimp only
    rw [Fin.getElem_fin, Fin.getElem_fin, put_get]
    rfl

theorem passedOn_eq (why : ClaimEnd) (c : Claim) (now : Time) (r : Scanner) :
    passedOn why c now r = granted now { r with state := .free, lastEnd := some (why, c.serial) } := by
  unfold passedOn
  split
  · next hq => exact (granted_nil (r := { r with state := .free, lastEnd := some (why, c.serial) }) hq now).symm
  · next hq => exact (granted_cons (r := { r with state := .free, lastEnd := some (why, c.serial) }) hq now).symm

/-- The records of the end of a claim: CLAIM ENDED where the reason gives one, then the head waiter's grant (R92). -/
def endRecords (p : PortNo) (c : Claim) (why : ClaimEnd) (r : Scanner) : List (StationNo × Record) :=
  (if tellsHolder why then [(c.holder, .claimEnded p false c.serial why)] else []) ++ grantRecords p r

theorem dropClaim_eq (p : PortNo) (c : Claim) (why : ClaimEnd) (s : State) : dropClaim p c why s =
    given (if tellsHolder why then [(c.holder, .claimEnded p false c.serial why)] else [])
      (withScanners s (put s.scanners p { s.scanners[p] with state := .free, lastEnd := some (why, c.serial) })) := by
  unfold dropClaim
  cases tellsHolder why <;> rfl

theorem endClaim_eq (p : PortNo) (c : Claim) (why : ClaimEnd) (s : State) : endClaim p c why s =
    given (endRecords p c why s.scanners[p])
      (withScanners s (put s.scanners p (passedOn why c s.time s.scanners[p]))) := by
  unfold endClaim endRecords
  rw [passOn_eq, dropClaim_eq, given_append, passedOn_eq]
  simp only [given_scannersField, given_time, ← given_scanners, withScanners_scanners, withScanners_time,
    withScanners_twice, put_put, Fin.getElem_fin, put_get]
  rfl

/-- The parts of a scanner record that a station's loss of it depends on. -/
theorem withdrawn_held {r : Scanner} {c : Claim} (h : claimOf r.state = some c) (why : ClaimEnd) (st : StationNo)
    (now : Time) : withdrawn why st now r =
      if c.holder = st then passedOn why c now r else { r with queue := r.queue.filter fun w => w.station ≠ st } := by
  unfold withdrawn
  cases hr : r.state with
  | held c' =>
    rw [hr] at h
    cases h
    rfl
  | free | absent =>
    rw [hr] at h
    cases h

theorem withdrawn_unheld {r : Scanner} (h : claimOf r.state = none) (why : ClaimEnd) (st : StationNo) (now : Time) :
    withdrawn why st now r = r := by
  unfold withdrawn
  cases hr : r.state with
  | held c =>
    rw [hr] at h
    cases h
  | free | absent => rfl

theorem withdrawalRecords_held {r : Scanner} {c : Claim} (h : claimOf r.state = some c) (st : StationNo) (p : PortNo) :
    withdrawalRecords st p r =
      if c.holder = st then endRecords p c .permitWithdrawn r
      else if waits r st = true then [(st, .claimEnded p true 0 .permitWithdrawn)] else [] := by
  unfold withdrawalRecords
  cases hr : r.state with
  | held c' =>
    rw [hr] at h
    cases h
    dsimp only
    have hwaits : (st ∈ r.queue.map Wait.station) = (waits r st = true) := by
      unfold waits
      simp only [List.mem_map, List.any_eq_true, decide_eq_true_eq]
    split_ifs with h1 h2 h3 h3
    · subst h1
      rfl
    · rfl
    · exact absurd (hwaits ▸ h2) h3
    · exact absurd (hwaits ▸ h3) h2
    · rfl
  | free | absent =>
    rw [hr] at h
    cases h

theorem withdrawalRecords_unheld {r : Scanner} (h : claimOf r.state = none) (st : StationNo) (p : PortNo) :
    withdrawalRecords st p r = [] := by
  unfold withdrawalRecords
  cases hr : r.state with
  | held c =>
    rw [hr] at h
    cases h
  | free | absent => rfl

/-- What one scanner's turn of a fold over the ports does: its records are given and its own record replaced. -/
def ScannerTurn (f : State → PortNo → State) (records : PortNo → Scanner → List (StationNo × Record))
    (after : Time → Scanner → Scanner) : Prop :=
  ∀ s p, f s p = given (records p s.scanners[p]) (withScanners s (put s.scanners p (after s.time s.scanners[p])))

/-- A scanner left as it is. -/
theorem put_same_scanner (s : State) (p : PortNo) : withScanners s (put s.scanners p s.scanners[p]) = s :=
  congrArg (withScanners s) (put_self s.scanners p)

/-- A station that does not wait leaves the queue as it is. -/
theorem queue_filter_of_not_waits {r : Scanner} {st : StationNo} (h : ¬ waits r st = true) :
    r.queue.filter (fun w => w.station ≠ st) = r.queue := by
  unfold waits at h
  refine List.filter_eq_self.mpr fun w hw => ?_
  simp only [List.any_eq_true, decide_eq_true_eq, not_exists, not_and] at h
  simpa using h w hw

theorem withdrawPermit_turn (st : StationNo) :
    ScannerTurn (withdrawPermit st) (withdrawalRecords st) (withdrawn .permitWithdrawn st) := by
  intro s p
  unfold withdrawPermit
  cases hc : claimOf s.scanners[p].state with
  | none =>
    rw [withdrawalRecords_unheld hc, withdrawn_unheld hc]
    exact (put_same_scanner s p).symm
  | some c =>
    rw [withdrawalRecords_held hc, withdrawn_held hc]
    dsimp only
    split_ifs with hst hw
    · exact endClaim_eq p c .permitWithdrawn s
    · rfl
    · rw [queue_filter_of_not_waits hw]
      exact (put_same_scanner s p).symm

theorem retireScanner_turn (st : StationNo) :
    ScannerTurn (retireScanner st) (fun p r => if holds r st then grantRecords p r else []) (withdrawn .retired st) := by
  intro s p
  unfold retireScanner
  cases hc : claimOf s.scanners[p].state with
  | none =>
    have hno : ¬ holds s.scanners[p] st = true := by unfold holds; rw [hc]; exact Bool.false_ne_true
    dsimp only
    rw [if_neg hno, withdrawn_unheld hc]
    exact (put_same_scanner s p).symm
  | some c =>
    have hholds : (holds s.scanners[p] st = true) = (c.holder = st) := by
      unfold holds
      rw [hc]
      exact decide_eq_true_eq
    rw [withdrawn_held hc]
    simp only [hholds]
    split_ifs with hst
    · exact endClaim_eq p c .retired s
    · rfl

/-- The turns of the listed scanners: their records in the order of the list, each record replaced as it was. -/
theorem ScannerTurn.foldl {f : State → PortNo → State} {records : PortNo → Scanner → List (StationNo × Record)}
    {after : Time → Scanner → Scanner} (hf : ScannerTurn f records after) (l : List PortNo) (hl : l.Nodup) (s : State) :
    ∃ v, l.foldl f s = given (l.flatMap fun p => records p s.scanners[p]) (withScanners s v) ∧
      ∀ p : PortNo, v[p] = if p ∈ l then after s.time s.scanners[p] else s.scanners[p] := by
  induction l generalizing s with
  | nil => exact ⟨s.scanners, rfl, fun _ => (if_neg List.not_mem_nil).symm⟩
  | cons q l ih =>
    obtain ⟨hq, hl⟩ := List.nodup_cons.mp hl
    have hne : ∀ p : PortNo, p ≠ q →
        (put s.scanners q (after s.time s.scanners[q]))[p] = s.scanners[p] := fun p hp => put_get_ne _ _ _ _ hp.symm
    obtain ⟨v, hfold, hv⟩ := ih hl (f s q)
    rw [hf s q] at hv hfold
    simp only [given_time, given_scanners, withScanners_scanners, withScanners_time, withScanners_twice] at hv hfold
    refine ⟨v, ?_, fun p => ?_⟩
    · have hrecords : (l.flatMap fun p => records p (put s.scanners q (after s.time s.scanners[q]))[p]) =
          l.flatMap fun p => records p s.scanners[p] :=
        List.flatMap_congr fun p hp => by rw [hne p (ne_of_mem_of_not_mem hp hq)]
      rw [List.foldl_cons, hf s q, given_scanners, hfold, hrecords, List.flatMap_cons, given_append, given_scanners,
        given_scanners]
    · rw [hv p]
      by_cases hpq : p = q
      · subst hpq
        rw [if_neg hq, if_pos List.mem_cons_self]
        exact put_get ..
      · rw [hne p hpq]
        simp only [List.mem_cons, hpq, false_or]

/-! ### SET PERMITS (R5, R6) -/

theorem claimOf_eq_some {x : ScannerState} {c : Claim} (h : claimOf x = some c) : x = .held c := by
  cases x with
  | held c' => cases h; rfl
  | free | absent => cases h

/-- A scanner passed on is not held by a station that was not in its queue, and not awaited by it (R92). -/
theorem passedOn_gone {r : Scanner} {st : StationNo} (hst : st ∉ r.queue.map Wait.station) (why : ClaimEnd) (c : Claim)
    (now : Time) : holds (passedOn why c now r) st = false ∧ waits (passedOn why c now r) st = false := by
  unfold passedOn
  split
  · next hq =>
    refine ⟨rfl, ?_⟩
    show r.queue.any _ = false
    rw [hq]
    rfl
  · next w rest hq =>
    rw [hq, List.map_cons, List.mem_cons, not_or] at hst
    obtain ⟨hw, hrest⟩ := hst
    refine ⟨decide_eq_false (Ne.symm hw), ?_⟩
    unfold waits
    simp only [List.any_eq_false, decide_eq_true_eq]
    exact fun x hx hxs => hrest (List.mem_map.mpr ⟨x, hx, hxs⟩)

/-- A station that loses a scanner neither holds nor awaits it (R6, R13). -/
theorem withdrawn_gone {r : Scanner} (hr : ScannerOk r) (why : ClaimEnd) (st : StationNo) (now : Time) :
    holds (withdrawn why st now r) st = false ∧ waits (withdrawn why st now r) st = false := by
  obtain ⟨-, -, hstate⟩ := hr
  cases hc : claimOf r.state with
  | none =>
    have hqueue : r.queue = [] := by
      cases hr : r.state with
      | held c => rw [hr] at hc; cases hc
      | free | absent => rw [hr] at hstate; exact hstate
    rw [withdrawn_unheld hc]
    exact ⟨by unfold holds; rw [hc], by unfold waits; rw [hqueue]; rfl⟩
  | some c =>
    rw [claimOf_eq_some hc] at hstate
    rw [withdrawn_held hc]
    split_ifs with hst
    · exact passedOn_gone (hst ▸ hstate) why c now
    · unfold holds waits
      rw [hc]
      refine ⟨decide_eq_false hst, ?_⟩
      simp only [List.any_eq_false, List.mem_filter, decide_eq_true_eq]
      exact fun x hx => hx.2

/-- The last end item of a scanner whose claim has ended (R92). -/
theorem passedOn_lastEnd (why : ClaimEnd) (c : Claim) (now : Time) (r : Scanner) :
    (passedOn why c now r).lastEnd = some (why, c.serial) := by
  unfold passedOn
  split <;> rfl

/-- States that agree for every station and every address have the same delivery states. -/
theorem GivenAlike.delivery_eq {s t : State} {F : Nat → Prop} (h : GivenAlike (fun _ => True) F s t) :
    t.delivery = s.delivery :=
  Vector.ext fun i hi => h.delivery ⟨i, hi⟩ trivial

theorem GivenAlike.notice_eq {s t : State} {F : Nat → Prop} (h : GivenAlike (fun _ => True) F s t) :
    t.notice = s.notice :=
  BitVec.eq_of_getLsbD_eq fun i hi => h.notice ⟨i, hi⟩ trivial

/-- An event that leaves the jobs and the pool as they are publishes port and station entries alone. -/
theorem publish_portsStations (ps : List PortNo) {s t : State} (hj : t.jobs = s.jobs) (hb : t.blocks = s.blocks)
    (hf : t.free = s.free) : publish ps s t = { t with
      portCount := (publish ps s t).portCount, stationCount := (publish ps s t).stationCount } := by
  rw [publish_eq, publish_jobCount fun j => by rw [hj], publish_poolCount (poolItems_eq hf hb)]

/-- The permits replaced and each withdrawal handled: the records of the withdrawn scanners given, in ascending port order,
beside the new records of the station and the scanners (R5, R6). -/
theorem setPermitsOf_eq (st : StationNo) (new : BitVec 8) (s : State) :
    ∃ v, setPermitsOf st new s =
        given ((withdrawnPorts s.stations[st].permits new).flatMap fun p => withdrawalRecords st p s.scanners[p])
          (withScanners (updStation s st fun r => { r with permits := new }) v) ∧
      ∀ p : PortNo, v[p] = if p ∈ withdrawnPorts s.stations[st].permits new
        then withdrawn .permitWithdrawn st s.time s.scanners[p] else s.scanners[p] :=
  (withdrawPermit_turn st).foldl _ ((List.nodup_finRange 8).filter _) (updStation s st fun r => { r with permits := new })

theorem mem_withdrawnPorts {old new : BitVec 8} {p : PortNo} :
    p ∈ withdrawnPorts old new ↔ old.getLsbD p.val = true ∧ new.getLsbD p.val = false := by
  unfold withdrawnPorts
  simp only [List.mem_filter, List.mem_finRange, true_and, Bool.and_eq_true, Bool.not_eq_true']

/-- A station's record replaced but for its service state, and the scanners: records are given alike. -/
theorem updStation_givenAlike {s : State} (hm : MemoryOk s) (st : StationNo) (f : Station → Station)
    (hf : ∀ r, (f r).service = r.service) (v : Vector Scanner 8) :
    GivenAlike (fun _ => True) (fun _ => False) s (withScanners (updStation s st f) v) := by
  refine ⟨hm, hm, fun _ _ => rfl, fun _ _ => rfl, fun x _ => inService_eq ?_, fun _ _ => rfl, rfl⟩
  show (put s.stations st (f s.stations[st]))[x].service = _
  by_cases hx : x = st
  · subst hx
    exact (congrArg Station.service (put_get ..)).trans (hf _)
  · exact congrArg Station.service (put_get_ne _ _ _ _ (Ne.symm hx))

theorem setPermits_accepted (c : CardNo) (s : State) (st : StationNo) (hm : MemoryOk s) (hr : RingsOk s)
    (hscan : ScannersOk s) (hs : Serving .setPermits c s) (hst : cardNum s c 8 = st.val) :
    ∃ t, exec .setPermits s = .next t ∧
      AnswerStands c (openAnswer s .ok s.stations[st].permits.toNat) t ∧
      t.stations = put s.stations st { s.stations[st] with permits := cardByte s c 9 } ∧
      (∀ p : PortNo, s.stations[st].permits.getLsbD p.val = true → (cardByte s c 9).getLsbD p.val = false →
        holds t.scanners[p] st = false ∧ waits t.scanners[p] st = false ∧
        (∀ claim, s.scanners[p].state = .held claim → claim.holder = st →
          t.scanners[p].lastEnd = some (.permitWithdrawn, claim.serial))) ∧
      (∀ p : PortNo, s.stations[st].permits.getLsbD p.val = false ∨ (cardByte s c 9).getLsbD p.val = true →
        t.scanners[p] = s.scanners[p]) ∧
      (∀ p : PortNo, s.stations[st].permits.getLsbD p.val = true → (cardByte s c 9).getLsbD p.val = false →
        t.scanners[p] = withdrawn .permitWithdrawn st s.time s.scanners[p]) ∧
      ToldThenAnswered c (given ((withdrawnPorts s.stations[st].permits (cardByte s c 9)).flatMap fun p =>
        withdrawalRecords st p s.scanners[p]) s) t ∧
      MemoryKept s t (fun a => AnswerField c a ∨ ∃ other, InRing other a) ∧
      t = { s with mem := t.mem, cards := put s.cards c .answered, serving := none, notice := t.notice,
                   stations := t.stations, scanners := t.scanners, delivery := t.delivery, portCount := t.portCount,
                   stationCount := t.stationCount, openCount := s.openCount + 1 } := by
  obtain ⟨v, hset, hv⟩ := setPermitsOf_eq st (cardByte s c 9) s
  have hmem := fun p => mem_withdrawnPorts (old := s.stations[st].permits) (new := cardByte s c 9) (p := p)
  generalize withdrawnPorts s.stations[st].permits (cardByte s c 9) = ports at *
  generalize (ports.flatMap fun p => withdrawalRecords st p s.scanners[p]) = records at *
  have hf : serveSetPermits c s =
      { state := useOpen (setPermitsOf st (cardByte s c 9) s)
        answer := openAnswer s .ok s.stations[st].permits.toNat } := by
    unfold serveSetPermits
    rw [index?_eq_some st hst]
  have halike := (updStation_givenAlike hm st (fun r => { r with permits := cardByte s c 9 }) (fun _ => rfl) v).given
    (rs := records) fun _ _ => trivial
  have hkept := (given_ringsWritten records hm hr).bytes
  obtain ⟨m, d, n, hframe⟩ := given_frame records
    (withScanners (updStation s st fun r => { r with permits := cardByte s c 9 }) v)
  rw [← hset] at halike hframe
  generalize setPermitsOf st (cardByte s c 9) s = u at *
  subst hframe
  obtain ⟨t, ht, ha, hk, rfl⟩ := served_from (f := serveSetPermits)
    (u := useOpen { withScanners (updStation s st fun r => { r with permits := cardByte s c 9 }) v with
      mem := m, delivery := d, notice := n }) halike.memory' hs hf
  have htold := halike.bytes
  refine ⟨_, ht, ha, rfl, fun p hold hnew => ?_, fun p hp => (hv p).trans (if_neg fun h => ?_), fun p hold hnew =>
    (hv p).trans (if_pos ((hmem p).mpr ⟨hold, hnew⟩)),
    ⟨halike.delivery_eq, congrArg (· ||| _) halike.notice_eq, fun a hna => (hk a hna).trans (htold a id)⟩,
    fun a hna => ?_, publish_portsStations [] rfl rfl rfl⟩
  · have hvp : v[p] = withdrawn .permitWithdrawn st s.time s.scanners[p] :=
      (hv p).trans (if_pos ((hmem p).mpr ⟨hold, hnew⟩))
    show holds v[p] st = false ∧ waits v[p] st = false ∧ ∀ claim, _ → _ → v[p].lastEnd = _
    rw [hvp]
    obtain ⟨hholds, hwaits⟩ := withdrawn_gone (hscan p) .permitWithdrawn st s.time
    refine ⟨hholds, hwaits, fun claim hclaim hholder => ?_⟩
    rw [withdrawn_held (congrArg claimOf hclaim), if_pos hholder]
    exact passedOn_lastEnd ..
  · obtain ⟨hold, hnew⟩ := (hmem p).mp h
    rcases hp with hp | hp
    · exact Bool.false_ne_true (hp.symm.trans hold)
    · exact Bool.false_ne_true (hnew.symm.trans hp)
  · obtain ⟨hanswer, hring⟩ := not_or.mp hna
    exact (hk a hanswer).trans ((htold a id).trans (hkept a hring))

theorem setPermits_refused (c : CardNo) (s : State) (hm : MemoryOk s) (hs : Serving .setPermits c s)
    (h : 15 < cardNum s c 8) :
    ∃ t, exec .setPermits s = .next t ∧
      OnlyAnswered c (openAnswer s .badArgument (Config.openValue s.openCount)) (useOpen s) t := by
  refine refusedOpen_answer (f := serveSetPermits) hm hs ?_
  unfold serveSetPermits
  rw [index?_eq_none h]
  rfl

/-- Settles O29: the withdrawals as turns of the scanners, and their records given in that order. -/
theorem setPermitsWithdrawsScanners : Obligations.SetPermitsWithdrawsScanners :=
  ⟨setPermits_accepted, setPermits_refused⟩

end Sys2Proof.Machine
end

section
/-! ## The steps of a retirement: cards, blocks and idle jobs (R11, R12, R18, R51) -/

namespace Sys2Proof.Machine

open Sys2Proof.Safety
open Config

/-! ### The block states and the free list (R18) -/

/-- The block states and the free list after blocks have been freed in the order of a list (R18). -/
def freedPool (bs : List BlockNo) (x : Vector BlockState 96 × List BlockNo) : Vector BlockState 96 × List BlockNo :=
  bs.foldl (fun x b => if x.1[b] = .free then x else (put x.1 b .free, x.2 ++ [b])) x

/-- The block states and the free list of a state. -/
def poolOf (s : State) : Vector BlockState 96 × List BlockNo := (s.blocks, s.free)

/-- The block states and the free list replaced. -/
def withPool (s : State) (x : Vector BlockState 96 × List BlockNo) : State := { s with blocks := x.1, free := x.2 }

theorem freeBlocks_eq (bs : List BlockNo) (s : State) : freeBlocks bs s = withPool s (freedPool bs (poolOf s)) := by
  induction bs generalizing s with
  | nil => rfl
  | cons b bs ih =>
    show freeBlocks bs (freeBlock s b) = _
    rw [ih]
    unfold freeBlock freedPool
    rw [List.foldl_cons]
    show _ = withPool s (bs.foldl _ (if s.blocks[b] = .free then _ else _))
    split_ifs <;> rfl

theorem freedPool_append (bs cs : List BlockNo) (x : Vector BlockState 96 × List BlockNo) :
    freedPool (bs ++ cs) x = freedPool cs (freedPool bs x) := List.foldl_append ..

/-- A listed block is FREE afterwards, and no other block has changed. -/
theorem freedPool_get (bs : List BlockNo) (x : Vector BlockState 96 × List BlockNo) (b : BlockNo) :
    (freedPool bs x).1[b] = if b ∈ bs then .free else x.1[b] := by
  induction bs generalizing x with
  | nil => rfl
  | cons c bs ih =>
    show (freedPool bs (if x.1[c] = .free then x else (put x.1 c .free, x.2 ++ [c]))).1[b] = _
    rw [ih]
    by_cases hb : b ∈ bs
    · rw [if_pos hb, if_pos (List.mem_cons_of_mem c hb)]
    · rw [if_neg hb]
      by_cases hbc : b = c
      · subst hbc
        rw [if_pos List.mem_cons_self]
        split_ifs with h
        · exact h
        · exact put_get ..
      · rw [if_neg (List.not_mem_cons_of_ne_of_not_mem hbc hb)]
        split_ifs
        · rfl
        · exact put_get_ne _ _ _ _ (Ne.symm hbc)

/-- Distinct blocks none of which is FREE join the tail of the free list in their order. -/
theorem freedPool_free {bs : List BlockNo} {x : Vector BlockState 96 × List BlockNo} (hbs : bs.Nodup)
    (hx : ∀ b ∈ bs, x.1[b] ≠ .free) : (freedPool bs x).2 = x.2 ++ bs := by
  induction bs generalizing x with
  | nil => exact (List.append_nil _).symm
  | cons c bs ih =>
    obtain ⟨hc, hbs⟩ := List.nodup_cons.mp hbs
    show (freedPool bs (if x.1[c] = .free then x else (put x.1 c .free, x.2 ++ [c]))).2 = _
    rw [if_neg (hx c List.mem_cons_self), ih hbs, List.append_assoc]
    · rfl
    · intro b hb
      have hne : c ≠ b := fun h => hc (h ▸ hb)
      exact (put_get_ne x.1 c b _ hne).trans_ne (hx b (List.mem_cons_of_mem c hb))

/-! ### The cards of a retired station (R11) -/

theorem cardAddress_eq (c : CardNo) : cardAddress c = 0x1040 + 0x800 * (c.val / 2) + 0x60 * (c.val % 2) := by
  revert c
  decide

/-- The answer fields of two cards do not meet (R154). -/
theorem answerField_unique {x y : CardNo} {a : Nat} (hx : AnswerField x a) (hy : AnswerField y a) : x = y := by
  unfold AnswerField at hx hy
  rw [cardAddress_eq] at hx hy
  refine Fin.ext ?_
  omega

/-- No answer field lies in a ring (R153, R154). -/
theorem answerField_not_inRing {x : CardNo} {a : Nat} (hx : AnswerField x a) (other : StationNo) : ¬ InRing other a := by
  have hring : ringAddress other = 0x1100 + 0x800 * other.val := by revert other; decide
  unfold AnswerField at hx
  unfold InRing
  rw [cardAddress_eq] at hx
  rw [hring]
  unfold ringBytes
  rcases Nat.lt_or_ge other.val (x.val / 2) with h | h <;> omega

/-- Cards have been answered alike, one after the other: from `s` to `t` they are ANSWERED, their answer fields hold the
answer, and the NOTICE bits of other stations than theirs are as they were. -/
structure CardsAnswered (a : Answer) (l : List CardNo) (s t : State) : Prop where
  memory : MemoryOk t
  cards : ∀ x : CardNo, t.cards[x] = if x ∈ l then .answered else s.cards[x]
  answers : ∀ x ∈ l, ∀ k < 4, readMem t.mem (cardAddress x + 4 + k) = (answerBytes a).getD k 0
  bytes : MemoryKept s t fun b => ∃ x ∈ l, AnswerField x b
  notice : ∀ y : StationNo, (∀ x ∈ l, cardStation x ≠ y) → t.notice.getLsbD y.val = s.notice.getLsbD y.val
  frame : ∃ m cs n, t = { s with mem := m, cards := cs, notice := n }

theorem stationBit_other {x y : StationNo} (h : x ≠ y) : (stationBit x).getLsbD y.val = false := by
  revert x y
  decide

theorem foldl_answerCard (a : Answer) (l : List CardNo) {s : State} (hm : MemoryOk s) :
    CardsAnswered a l s (l.foldl (fun t c => answerCard c a [] t) s) := by
  induction l generalizing s with
  | nil => exact ⟨hm, fun _ => rfl, nofun, fun _ _ => rfl, fun _ _ => rfl, _, _, _, rfl⟩
  | cons c l ih =>
    have hread := readMem_answerCard hm c a []
    have hm' : MemoryOk (answerCard c a [] s) := writeBytes_wf (writeBytes_wf hm _ _) _ _
    obtain ⟨hmem, hcards, hanswers, hbytes, hnotice, hframe⟩ := ih hm'
    rw [List.foldl_cons]
    refine ⟨hmem, fun x => ?_, fun x hx k hk => ?_, fun b hb => ?_, fun y hy => ?_, ?_⟩
    · rw [hcards x]
      by_cases hxc : x = c
      · subst hxc
        rw [if_pos List.mem_cons_self]
        split_ifs
        · rfl
        · exact put_get ..
      · simp only [List.mem_cons, hxc, false_or]
        split_ifs
        · rfl
        · exact put_get_ne _ _ _ _ (Ne.symm hxc)
    · by_cases hxl : x ∈ l
      · exact hanswers x hxl k hk
      · have hxc : x = c := (List.mem_cons.mp hx).resolve_right hxl
        subst hxc
        have hfield : AnswerField x (cardAddress x + 4 + k) := ⟨by omega, by omega⟩
        rw [hbytes _ fun ⟨y, hy, hyf⟩ => hxl (answerField_unique hyf hfield ▸ hy), hread,
          if_pos (show _ ∧ _ from hfield), Nat.add_sub_cancel_left]
    · have hnot : ¬ AnswerField c b := fun h => hb ⟨c, List.mem_cons_self, h⟩
      rw [hbytes b fun ⟨x, hx, hxf⟩ => hb ⟨x, List.mem_cons_of_mem c hx, hxf⟩, hread, if_neg (show ¬ (_ ∧ _) from hnot),
        if_neg (by simp only [List.length_nil]; omega)]
    · rw [hnotice y fun x hx => hy x (List.mem_cons_of_mem c hx)]
      show (s.notice ||| stationBit (cardStation c)).getLsbD y.val = _
      rw [BitVec.getLsbD_or, stationBit_other (hy c List.mem_cons_self), Bool.or_false]
    · exact hframe

/-! ### Ends of jobs that give no record (R12, R51) -/

/-- A job record after its end (R51). -/
def endedJob (reason : EndReason) (job : Job) : Job :=
  { job with state := .free, reason := if job.cancelPending then job.reason else reason }

theorem giveStatusTo_silent {o : Option StationNo} {s : State} (h : ∀ st, o = some st → inService s st = false)
    (r : Record) : giveStatusTo o r s = s := by
  cases o with
  | none => rfl
  | some st =>
    refine giveStatus_closed ?_ r
    unfold ringOpen
    rw [h st rfl, Bool.false_and]

theorem dropHoldings_inService (o : Option StationNo) (n : Nat) (s : State) (x : StationNo) :
    inService (dropHoldings o n s) x = inService s x := by
  refine inService_eq ?_
  cases o with
  | none => rfl
  | some st =>
    show (put s.stations st _)[x].service = _
    by_cases hx : x = st
    · subst hx
      rw [Fin.getElem_fin, put_get]
    · exact congrArg Station.service (put_get_ne _ _ _ _ (Ne.symm hx))

theorem dropHoldings_eq {s u : State} (hu : u.stations = s.stations) (o : Option StationNo) (n : Nat) :
    dropHoldings o n u = { u with stations := (dropHoldings o n s).stations } := by
  cases o with
  | none => exact congrArg (fun v => { u with stations := v }) hu
  | some st => exact congrArg (fun v => { u with stations := put v st { v[st] with holdings := v[st].holdings - n } }) hu

theorem updJob_updJob (s : State) (j : JobNo) (f g : Job → Job) :
    updJob (updJob s j f) j g = updJob s j fun r => g (f r) := by
  unfold updJob
  simp only [Fin.getElem_fin, put_get, put_put]

/-- The end of a job whose owner, if it has one, is OUT OF SERVICE gives no record (R12, R14). -/
theorem endJob_silent {s : State} {j : JobNo} (h : ∀ st, s.jobs[j].owner = some st → inService s st = false)
    (reason : EndReason) : endJob reason s j =
      withPool { s with
        printers := put s.printers s.jobs[j].port (leavePlace j s.printers[s.jobs[j].port])
        jobs := put s.jobs j (endedJob reason s.jobs[j])
        stations := (dropHoldings s.jobs[j].owner s.jobs[j].blocks.length s).stations }
        (freedPool s.jobs[j].blocks (poolOf s)) := by
  have hsilent : ∀ (r : Record) (n : Nat) (u : State), u.stations = s.stations →
      giveStatusTo s.jobs[j].owner r (dropHoldings s.jobs[j].owner n u) = dropHoldings s.jobs[j].owner n u :=
    fun r n u hu => giveStatusTo_silent (fun st hst => (dropHoldings_inService ..).trans
      ((inService_eq (by rw [hu])).trans (h st hst))) r
  have hjob : ∀ u : State, u.jobs = s.jobs → updJob (updJob u j fun r =>
        { r with state := .ended, reason := if s.jobs[j].cancelPending = true then s.jobs[j].reason else reason }) j
        (fun r => { r with state := .free }) = { u with jobs := put s.jobs j (endedJob reason s.jobs[j]) } := by
    intro u hu
    rw [updJob_updJob]
    unfold updJob
    rw [hu]
    rfl
  unfold endJob
  dsimp only
  rw [freeBlocks_eq, hsilent _ _ _ (by rfl), dropHoldings_eq (s := s) (by rfl)]
  exact hjob (withPool { s with
    printers := put s.printers s.jobs[j].port (leavePlace j s.printers[s.jobs[j].port])
    stations := (dropHoldings s.jobs[j].owner s.jobs[j].blocks.length s).stations }
    (freedPool s.jobs[j].blocks (poolOf s))) rfl

/-- A printer record whose queue and suspended slot some jobs have left (R51). -/
def withoutJobs (l : List JobNo) (r : Printer) : Printer :=
  { r with queue := r.queue.filter (· ∉ l), suspended := r.suspended.filter (· ∉ l) }

theorem option_filter_of_all {α : Type} {p : α → Bool} {o : Option α} (h : ∀ a, o = some a → p a = true) :
    o.filter p = o := by
  cases o with
  | none => rfl
  | some a => exact Option.filter_some_pos (h a rfl)

/-- Jobs without a place at a printer leave its record as it is. -/
theorem withoutJobs_unplaced {l : List JobNo} {r : Printer} (hq : ∀ j ∈ l, j ∉ r.queue)
    (hs : ∀ j ∈ l, r.suspended ≠ some j) : withoutJobs l r = r := by
  have hqueue : r.queue.filter (· ∉ l) = r.queue :=
    List.filter_eq_self.mpr fun k hk => decide_eq_true fun h => hq k h hk
  have hsuspended : r.suspended.filter (· ∉ l) = r.suspended :=
    option_filter_of_all fun k hk => decide_eq_true fun h => hs k h hk
  unfold withoutJobs
  rw [hqueue, hsuspended]

theorem withoutJobs_cons (k : JobNo) (l : List JobNo) (r : Printer) :
    withoutJobs l (withoutJobs [k] r) = withoutJobs (k :: l) r := by
  have hmem : ∀ j : JobNo, (decide (j ∉ l) && decide (j ∉ [k])) = decide (j ∉ k :: l) := fun j => by
    simp [Bool.and_comm]
  have hmem' : ∀ j : JobNo, (decide (j ∉ [k]) && decide (j ∉ l)) = decide (j ∉ k :: l) := fun j =>
    (Bool.and_comm ..).trans (hmem j)
  unfold withoutJobs
  simp only [List.filter_filter, Option.filter_filter, hmem, hmem']

/-- A job that is not current leaves the queue or the suspended slot (R51). -/
theorem leavePlace_idle {j : JobNo} {r : Printer} (h : r.current ≠ some j) : leavePlace j r = withoutJobs [j] r := by
  have hsuspended : (if r.suspended = some j then none else r.suspended) = r.suspended.filter (· ∉ [j]) := by
    by_cases hs : r.suspended = some j
    · rw [if_pos hs, hs]
      exact (Option.filter_some_neg (by simp)).symm
    · rw [if_neg hs]
      refine (option_filter_of_all fun k hk => ?_).symm
      have hkj : k ≠ j := fun h => hs (h ▸ hk)
      simpa only [List.mem_singleton, decide_eq_true_eq] using hkj
  have hqueue : r.queue.filter (· ≠ j) = r.queue.filter (· ∉ [j]) := by simp only [List.mem_singleton]
  unfold leavePlace withoutJobs
  rw [if_neg h, if_neg h, hsuspended, hqueue]

/-- A job has no place as a current job, nor at a printer of another port. -/
def IdlePlaced (s : State) (j : JobNo) : Prop :=
  ∀ p : PortNo, s.printers[p].current ≠ some j ∧
    (p ≠ s.jobs[j].port → j ∉ s.printers[p].queue ∧ s.printers[p].suspended ≠ some j)

/-- From `s` to `t` one idle job of a station OUT OF SERVICE has ended (R12, R51). -/
structure IdleEnded (st : StationNo) (k : JobNo) (s t : State) : Prop where
  job : t.jobs[k] = endedJob .retired s.jobs[k]
  others : ∀ j : JobNo, j ≠ k → t.jobs[j] = s.jobs[j]
  printers : ∀ p : PortNo, t.printers[p] = withoutJobs [k] s.printers[p]
  service : inService t st = inService s st
  frame : ∃ js ps n, t = withPool { s with
      jobs := js, printers := ps, stations := put s.stations st { s.stations[st] with holdings := n } }
    (freedPool s.jobs[k].blocks (poolOf s))

theorem endJob_idle {st : StationNo} {s : State} {k : JobNo} (hin : inService s st = false)
    (howner : s.jobs[k].owner = some st) (hplace : IdlePlaced s k) : IdleEnded st k s (endJob .retired s k) := by
  have hstations : (dropHoldings s.jobs[k].owner s.jobs[k].blocks.length s).stations =
      put s.stations st { s.stations[st] with holdings := s.stations[st].holdings - s.jobs[k].blocks.length } := by
    rw [howner]
    rfl
  rw [endJob_silent (fun x hx => Option.some.inj (howner.symm.trans hx) ▸ hin) .retired]
  refine ⟨put_get .., fun j hj => put_get_ne _ _ _ _ hj.symm, fun p => ?_,
    dropHoldings_inService s.jobs[k].owner s.jobs[k].blocks.length s st, _, _, _, by rw [hstations]⟩
  obtain ⟨hcurrent, hother⟩ := hplace p
  by_cases hp : p = s.jobs[k].port
  · subst hp
    exact (put_get ..).trans (leavePlace_idle hcurrent)
  · obtain ⟨hq, hs⟩ := hother hp
    exact (put_get_ne _ _ _ _ (Ne.symm hp)).trans (withoutJobs_unplaced
      (fun j hj => List.mem_singleton.mp hj ▸ hq) fun j hj => List.mem_singleton.mp hj ▸ hs).symm

/-- Another idle job's place is as it was. -/
theorem IdleEnded.placed {st : StationNo} {k j : JobNo} {s t : State} (h : IdleEnded st k s t) (hjk : j ≠ k)
    (hj : IdlePlaced s j) : IdlePlaced t j := by
  intro p
  obtain ⟨hcurrent, hother⟩ := hj p
  rw [h.others j hjk, h.printers p]
  refine ⟨hcurrent, fun hp => ?_⟩
  obtain ⟨hq, hs⟩ := hother hp
  exact ⟨fun hh => hq (List.mem_of_mem_filter hh), fun hh => hs (Option.eq_some_of_filter_eq_some hh)⟩

/-- The idle jobs of a station OUT OF SERVICE ended one after the other: each leaves its own printer's queue or suspended
slot, its blocks are freed, and only the station's holdings change beside (R12, R51). -/
theorem foldl_endJob_idle {st : StationNo} {s : State} (hin : inService s st = false) {l : List JobNo} (hl : l.Nodup)
    (howner : ∀ j ∈ l, s.jobs[j].owner = some st) (hplace : ∀ j ∈ l, IdlePlaced s j) :
    ∃ js ps n, l.foldl (endJob .retired) s =
        withPool { s with
          jobs := js, printers := ps, stations := put s.stations st { s.stations[st] with holdings := n } }
          (freedPool (l.flatMap fun j => s.jobs[j].blocks) (poolOf s)) ∧
      (∀ j : JobNo, js[j] = if j ∈ l then endedJob .retired s.jobs[j] else s.jobs[j]) ∧
      ∀ p : PortNo, ps[p] = withoutJobs l s.printers[p] := by
  induction l generalizing s with
  | nil =>
    exact ⟨s.jobs, s.printers, s.stations[st].holdings,
      congrArg (fun v => { s with stations := v }) (put_self s.stations st).symm, fun _ => rfl,
      fun p => (withoutJobs_unplaced (fun _ h => absurd h List.not_mem_nil) fun _ h => absurd h List.not_mem_nil).symm⟩
  | cons k l ih =>
    obtain ⟨hk, hl⟩ := List.nodup_cons.mp hl
    have hend := endJob_idle hin (howner k List.mem_cons_self) (hplace k List.mem_cons_self)
    show ∃ js ps n, l.foldl (endJob .retired) (endJob .retired s k) = _ ∧ _
    generalize endJob .retired s k = t at hend ⊢
    have hne : ∀ j ∈ l, j ≠ k := fun j hj h => hk (h ▸ hj)
    obtain ⟨js, ps, n, hfold, hjs, hps⟩ := ih (hend.service.trans hin) hl
      (fun j hj => by rw [hend.others j (hne j hj)]; exact howner j (List.mem_cons_of_mem k hj))
      fun j hj => hend.placed (hne j hj) (hplace j (List.mem_cons_of_mem k hj))
    have hblocks : (l.flatMap fun j => t.jobs[j].blocks) = l.flatMap fun j => s.jobs[j].blocks :=
      List.flatMap_congr fun j hj => by rw [hend.others j (hne j hj)]
    refine ⟨js, ps, n, ?_, fun j => ?_, fun p => ?_⟩
    · obtain ⟨js', ps', n', hframe⟩ := hend.frame
      have hholdings : put t.stations st { t.stations[st] with holdings := n } =
          put s.stations st { s.stations[st] with holdings := n } := by
        rw [show t.stations = _ from congrArg State.stations hframe]
        unfold withPool
        rw [put_put, Fin.getElem_fin, put_get]
      rw [hfold, hholdings, hblocks, List.flatMap_cons, freedPool_append, hframe]
      rfl
    · rw [hjs j]
      by_cases hj : j = k
      · subst hj
        rw [if_neg hk, if_pos List.mem_cons_self, hend.job]
      · rw [hend.others j hj]
        simp only [List.mem_cons, hj, false_or]
    · rw [hps p, hend.printers p, withoutJobs_cons]

end Sys2Proof.Machine
end

section
/-! ## The PRINTING jobs of a retired station, each at its own printer (R12, R48, R63; log 11) -/

namespace Sys2Proof.Machine

open Sys2Proof.Safety
open Config

/-! ### What a printer's choice depends on (R63) -/

/-- A chosen job comes from the queue or the suspended slot (R63). -/
theorem nextJob?_placed {s : State} {r : Printer} {m : JobNo} (h : nextJob? s r = some m) :
    m ∈ r.queue ∨ r.suspended = some m := by
  unfold nextJob? at h
  split at h
  · next hq hs => exact .inr h
  · next j rest hq hs =>
    cases h
    exact .inl (hq ▸ List.mem_cons_self)
  · next j rest k hq hs =>
    split_ifs at h <;> cases h
    · exact .inl (hq ▸ List.mem_cons_self)
    · exact .inr hs

/-- Two states agree on what a printer's choice and the opening of a page read (R58, R63). -/
structure ChoiceAlike (p : PortNo) (s t : State) : Prop where
  printer : t.printers[p] = s.printers[p]
  jobs : ∀ m : JobNo, m ∈ s.printers[p].queue ∨ s.printers[p].suspended = some m → t.jobs[m] = s.jobs[m]
  data : dataByte t.mem = dataByte s.mem
  port : t.ports[p] = s.ports[p]
  mode : t.printMode = s.printMode
  settings : t.printerSet[p] = s.printerSet[p]
  time : t.time = s.time

theorem ChoiceAlike.nextJob_eq {p : PortNo} {s t : State} (h : ChoiceAlike p s t) :
    nextJob? t t.printers[p] = nextJob? s s.printers[p] := by
  rw [h.printer]
  unfold nextJob?
  split
  · rfl
  · rfl
  · next j rest k hq hs => rw [h.jobs j (.inl (hq ▸ List.mem_cons_self))]

theorem ChoiceAlike.chosenPrinter_eq {p : PortNo} {s t : State} (h : ChoiceAlike p s t) :
    chosenPrinter p t = chosenPrinter p s := by
  unfold chosenPrinter
  dsimp only
  rw [h.nextJob_eq, h.printer, h.mode]

/-- Such states open a page alike (R58). -/
theorem ChoiceAlike.pageOpened {p : PortNo} {s t u : State} (h : ChoiceAlike p s t) {job : Job} {r : Printer}
    (ho : PageOpened p job r s u) : PageOpened p job r t u := by
  have hlength : pageLength t.mem = pageLength s.mem := by unfold pageLength; rw [h.data]
  have hbytes : dataBytes t.mem = dataBytes s.mem := by unfold dataBytes; rw [h.data]
  unfold PageOpened openFrame dataFrames UpWith at ho ⊢
  simpa only [hlength, hbytes, h.data, h.time, h.settings, h.port] using ho

/-- States that agree on what a choice reads choose alike (R63). -/
theorem ChoiceAlike.chose {p : PortNo} {s t u : State} (h : ChoiceAlike p s t) (hc : Chose p s u) : Chose p t u := by
  unfold Chose at hc ⊢
  rw [h.nextJob_eq, h.mode, h.chosenPrinter_eq, h.port]
  cases hj : nextJob? s s.printers[p] with
  | none =>
    rw [hj] at hc
    exact hc
  | some m =>
    rw [hj] at hc
    cases hm : s.printMode with
    | quiet =>
      rw [hm] at hc
      exact hc
    | running =>
      rw [hm] at hc
      dsimp only at hc ⊢
      rw [h.jobs m (nextJob?_placed hj)]
      exact h.pageOpened hc

/-- The current job after a choice: the chosen one, or none for a printer without a current job (R63). -/
theorem chose_current {p : PortNo} {s t : State} (hc : Chose p s t) (h : s.printers[p].current = none) :
    t.printers[p].current = nextJob? s s.printers[p] := by
  unfold Chose at hc
  cases hj : nextJob? s s.printers[p] with
  | none =>
    rw [hj] at hc
    rw [hc.1, chosenPrinter_none hj]
    exact h
  | some m =>
    rw [hj] at hc
    cases hm : s.printMode with
    | quiet =>
      rw [hm] at hc
      rw [hc.1, chosenPrinter_some hj]
    | running =>
      rw [hm] at hc
      unfold PageOpened at hc
      dsimp only at hc
      rw [hc.1, chosenPrinter_some hj]

/-! ### One PRINTING job of a retired station -/

/-- The record of a PRINTING job of a retired station: cancel-pending RETIRED and without an owner (R12). -/
def pendingJob (job : Job) : Job := { job with owner := none, cancelPending := true, reason := .retired }

/-- The printer record that a stopped job has left: a HELD printer leaves HELD (R48, R71). -/
def leftPrinter (j : JobNo) (r : Printer) : Printer :=
  if r.state = .held then { leavePlace j r with hold := none } else leavePlace j r

/-- A PRINTING job of a retired station ended at once, before its printer chooses (R12, R51). -/
def stopped (s : State) (j : JobNo) : State :=
  withPool { s with
    jobs := put s.jobs j (endedJob .retired (pendingJob s.jobs[j]))
    printers := put s.printers s.jobs[j].port (leftPrinter j s.printers[s.jobs[j].port]) }
    (freedPool s.jobs[j].blocks (poolOf s))

/-- A job that runs on to its boundary (R12). -/
theorem retireCurrent_runsOn {s : State} {j : JobNo} (h : runsOn s.printers[s.jobs[j].port] = true) :
    retireCurrent s j = { s with jobs := put s.jobs j (pendingJob s.jobs[j]) } := by
  unfold retireCurrent markPending
  rw [updJob_updJob]
  exact if_pos h

/-- A job ended at once; a HELD or QUIESCED printer then chooses (R12, R48). -/
theorem retireCurrent_stopped {s : State} {j : JobNo} (h : runsOn s.printers[s.jobs[j].port] = false) :
    retireCurrent s j =
      if s.printers[s.jobs[j].port].state = .held ∨ s.printers[s.jobs[j].port].state = .quiesced
      then choose s.jobs[j].port (stopped s j) else stopped s j := by
  have hpending : updJob (markPending .retired j s) j (fun r => { r with owner := none }) =
      { s with jobs := put s.jobs j (pendingJob s.jobs[j]) } := updJob_updJob ..
  have hend : endJob .retired { s with jobs := put s.jobs j (pendingJob s.jobs[j]) } j =
      withPool { s with
        jobs := put s.jobs j (endedJob .retired (pendingJob s.jobs[j]))
        printers := put s.printers s.jobs[j].port (leavePlace j s.printers[s.jobs[j].port]) }
        (freedPool s.jobs[j].blocks (poolOf s)) := by
    have hjob : (put s.jobs j (pendingJob s.jobs[j]))[j] = pendingJob s.jobs[j] := put_get ..
    rw [endJob_silent (fun st hst => by rw [hjob] at hst; cases hst)]
    simp only [hjob, put_put]
    rfl
  unfold retireCurrent
  dsimp only
  rw [hpending, h, if_neg Bool.false_ne_true]
  unfold endAtOnce stopped leftPrinter
  rw [hend]
  dsimp only
  cases hs : s.printers[s.jobs[j].port].state with
  | held =>
    rw [if_pos (.inl rfl), if_pos rfl]
    refine congrArg (choose _) ?_
    unfold updPrinter withPool
    simp only [Fin.getElem_fin, put_get, put_put]
  | quiesced => rw [if_pos (.inr rfl), if_neg (by decide)]
  | absent | idle | sending | detached => rw [if_neg (by decide), if_neg (by decide)]

/-! ### Each of those jobs concerns its own printer alone -/

/-- A step of the printers: it changes the jobs, the printers, the ports, the block states and the free list alone. -/
def PrintersStep (s t : State) : Prop :=
  ∃ js ps qs bs fs, t = { s with jobs := js, printers := ps, ports := qs, blocks := bs, free := fs }

theorem PrintersStep.refl (s : State) : PrintersStep s s := ⟨_, _, _, _, _, rfl⟩

theorem PrintersStep.trans {s t u : State} (h : PrintersStep s t) (k : PrintersStep t u) : PrintersStep s u := by
  obtain ⟨_, _, _, _, _, rfl⟩ := h
  obtain ⟨js, ps, qs, bs, fs, rfl⟩ := k
  exact ⟨js, ps, qs, bs, fs, rfl⟩

/-- A port's printer record, its port record and the records of its jobs are as they were. -/
structure SamePort (p : PortNo) (s t : State) : Prop where
  printer : t.printers[p] = s.printers[p]
  port : t.ports[p] = s.ports[p]
  jobs : ∀ k : JobNo, s.jobs[k].port = p → t.jobs[k] = s.jobs[k]

theorem SamePort.refl (p : PortNo) (s : State) : SamePort p s s := ⟨rfl, rfl, fun _ _ => rfl⟩

theorem SamePort.trans {p : PortNo} {s t u : State} (h : SamePort p s t) (k : SamePort p t u) : SamePort p s u :=
  ⟨k.printer.trans h.printer, k.port.trans h.port, fun j hj =>
    (k.jobs j ((congrArg Job.port (h.jobs j hj)).trans hj)).trans (h.jobs j hj)⟩

/-- The jobs that wait or are suspended at a printer are jobs of its port. -/
def PlacedAt (p : PortNo) (s : State) : Prop :=
  ∀ k, k ∈ s.printers[p].queue ∨ s.printers[p].suspended = some k → s.jobs[k].port = p

theorem PlacedAt.samePort {p : PortNo} {s t : State} (h : PlacedAt p s) (hst : SamePort p s t) : PlacedAt p t := by
  intro k hk
  rw [hst.printer] at hk
  rw [hst.jobs k (h k hk)]
  exact h k hk

theorem leftPrinter_queue (j : JobNo) (r : Printer) : (leftPrinter j r).queue = r.queue.filter (· ≠ j) := by
  unfold leftPrinter
  split <;> rfl

theorem leftPrinter_suspended (j : JobNo) (r : Printer) :
    (leftPrinter j r).suspended = if r.suspended = some j then none else r.suspended := by
  unfold leftPrinter
  split <;> rfl

theorem stopped_printer (s : State) (j : JobNo) :
    (stopped s j).printers[s.jobs[j].port] = leftPrinter j s.printers[s.jobs[j].port] := put_get ..

theorem stopped_job (s : State) (j : JobNo) : (stopped s j).jobs[j] = endedJob .retired (pendingJob s.jobs[j]) := put_get ..

theorem stopped_job_ne (s : State) {j k : JobNo} (h : k ≠ j) : (stopped s j).jobs[k] = s.jobs[k] :=
  put_get_ne _ _ _ _ h.symm

/-- A candidate of a printer that a stopped job has left was placed there before. -/
theorem stopped_placed {s : State} {j m : JobNo}
    (h : nextJob? (stopped s j) (leftPrinter j s.printers[s.jobs[j].port]) = some m) :
    m ∈ s.printers[s.jobs[j].port].queue ∨ s.printers[s.jobs[j].port].suspended = some m := by
  rcases nextJob?_placed h with hq | hs
  · rw [leftPrinter_queue] at hq
    exact .inl (List.mem_of_mem_filter hq)
  · rw [leftPrinter_suspended] at hs
    split_ifs at hs
    exact .inr hs

theorem choose_printersStep (p : PortNo) (s : State) : PrintersStep s (choose p s) :=
  ⟨_, _, _, _, _, choose_frame p s⟩

theorem retireCurrent_printersStep (s : State) (j : JobNo) : PrintersStep s (retireCurrent s j) := by
  cases h : runsOn s.printers[s.jobs[j].port] with
  | true => exact ⟨_, _, _, _, _, retireCurrent_runsOn h⟩
  | false =>
    rw [retireCurrent_stopped h]
    have hs : PrintersStep s (stopped s j) := ⟨_, _, _, _, _, rfl⟩
    split_ifs
    · exact hs.trans (choose_printersStep ..)
    · exact hs

theorem retireCurrent_pool (s : State) (j : JobNo) : poolOf (retireCurrent s j) =
    if runsOn s.printers[s.jobs[j].port] = true then poolOf s else freedPool s.jobs[j].blocks (poolOf s) := by
  cases h : runsOn s.printers[s.jobs[j].port] with
  | true =>
    rw [retireCurrent_runsOn h, if_pos rfl]
    rfl
  | false =>
    rw [retireCurrent_stopped h, if_neg Bool.false_ne_true]
    split_ifs
    · rw [choose_frame]
      rfl
    · rfl

/-- The jobs after a choice: the chosen one, if any, is PRINTING (R63). -/
theorem chosenJobs_get (p : PortNo) (s : State) (k : JobNo) : (chosenJobs p s)[k] =
    if nextJob? s s.printers[p] = some k then { s.jobs[k] with state := .printing } else s.jobs[k] := by
  unfold chosenJobs
  cases nextJob? s s.printers[p] with
  | none => rfl
  | some m =>
    by_cases h : m = k
    · subst h
      rw [if_pos rfl]
      exact put_get ..
    · rw [if_neg fun hh => h (Option.some.inj hh)]
      exact put_get_ne _ _ _ _ h

/-- The job records after one PRINTING job of a retired station: its own, and that of the job its printer chooses (R12,
R63). -/
theorem retireCurrent_job {s : State} {j : JobNo} (h : runsOn s.printers[s.jobs[j].port] = false) (k : JobNo) :
    (retireCurrent s j).jobs[k] =
      if (s.printers[s.jobs[j].port].state = .held ∨ s.printers[s.jobs[j].port].state = .quiesced) ∧
        nextJob? (stopped s j) (leftPrinter j s.printers[s.jobs[j].port]) = some k
      then { (stopped s j).jobs[k] with state := .printing } else (stopped s j).jobs[k] := by
  rw [retireCurrent_stopped h]
  by_cases hs : s.printers[s.jobs[j].port].state = .held ∨ s.printers[s.jobs[j].port].state = .quiesced
  · rw [if_pos hs, (choose_chose s.jobs[j].port (stopped s j)).2.1, chosenJobs_get, stopped_printer]
    simp only [hs, true_and]
  · rw [if_neg hs, if_neg fun hh => hs hh.1]

theorem retireCurrent_jobPort (s : State) (j k : JobNo) : (retireCurrent s j).jobs[k].port = s.jobs[k].port := by
  have hput : ∀ job : Job, job.port = s.jobs[j].port → (put s.jobs j job)[k].port = s.jobs[k].port := by
    intro job hjob
    by_cases hk : j = k
    · subst hk
      exact (congrArg Job.port (put_get ..)).trans hjob
    · exact congrArg Job.port (put_get_ne _ _ _ _ hk)
  cases h : runsOn s.printers[s.jobs[j].port] with
  | true =>
    rw [retireCurrent_runsOn h]
    exact hput _ rfl
  | false =>
    rw [retireCurrent_job h]
    split_ifs <;> exact hput _ rfl

/-- Another port is as it was. -/
theorem retireCurrent_other {s : State} {j : JobNo} {q : PortNo} (hp : PlacedAt s.jobs[j].port s)
    (hq : s.jobs[j].port ≠ q) : SamePort q s (retireCurrent s j) := by
  have hprinter : ∀ r : Printer, (put s.printers s.jobs[j].port r)[q] = s.printers[q] :=
    fun r => put_get_ne _ _ _ _ hq
  have hjob : ∀ k : JobNo, s.jobs[k].port = q → k ≠ j := fun k hk h => hq (h ▸ hk)
  cases h : runsOn s.printers[s.jobs[j].port] with
  | true =>
    rw [retireCurrent_runsOn h]
    exact ⟨rfl, rfl, fun k hk => put_get_ne _ _ _ _ (hjob k hk).symm⟩
  | false =>
    refine ⟨?_, ?_, fun k hk => ?_⟩
    · rw [retireCurrent_stopped h]
      split_ifs
      · exact ((choose_chose _ _).2.2 q hq.symm).1.trans (hprinter _)
      · exact hprinter _
    · rw [retireCurrent_stopped h]
      split_ifs
      · exact ((choose_chose _ _).2.2 q hq.symm).2
      · rfl
    · rw [retireCurrent_job h, if_neg fun hh => hq ((hp k (stopped_placed hh.2)).symm.trans hk),
        stopped_job_ne s (hjob k hk)]

/-- The PRINTING jobs of a retired station, one after the other, each at a port of its own: a port without such a job is as
it was, and at a port with one the job was handled as at the start. -/
theorem foldl_retireCurrent {s : State} {l : List JobNo} (hports : l.Pairwise fun j k => s.jobs[j].port ≠ s.jobs[k].port)
    (hplaced : ∀ j ∈ l, PlacedAt s.jobs[j].port s) :
    PrintersStep s (l.foldl retireCurrent s) ∧
      (∀ q, (∀ j ∈ l, s.jobs[j].port ≠ q) → SamePort q s (l.foldl retireCurrent s)) ∧
      (∀ j ∈ l, ∃ u, PrintersStep s u ∧ SamePort s.jobs[j].port s u ∧
        SamePort s.jobs[j].port (retireCurrent u j) (l.foldl retireCurrent s)) ∧
      poolOf (l.foldl retireCurrent s) =
        freedPool ((l.filter fun j => !runsOn s.printers[s.jobs[j].port]).flatMap fun j => s.jobs[j].blocks) (poolOf s) := by
  induction l generalizing s with
  | nil => exact ⟨.refl s, fun q _ => .refl q s, fun _ h => absurd h List.not_mem_nil, rfl⟩
  | cons k l ih =>
    obtain ⟨hk, hl⟩ := List.pairwise_cons.mp hports
    have hother : ∀ j ∈ l, SamePort s.jobs[j].port s (retireCurrent s k) := fun j hj =>
      retireCurrent_other (hplaced k List.mem_cons_self) (hk j hj)
    have hport := retireCurrent_jobPort s k
    have hsame : ∀ j ∈ l, (retireCurrent s k).jobs[j] = s.jobs[j] := fun j hj => (hother j hj).jobs j rfl
    obtain ⟨hstep, hrest, hturn, hpool⟩ := ih (s := retireCurrent s k)
      (hl.imp_of_mem fun hi hj h => by rwa [hport, hport])
      (fun j hj => by
        rw [hport]
        exact (hplaced j (List.mem_cons_of_mem k hj)).samePort (hother j hj))
    rw [List.foldl_cons]
    refine ⟨(retireCurrent_printersStep s k).trans hstep, fun q hq => ?_, fun j hj => ?_, ?_⟩
    · refine (retireCurrent_other (hplaced k List.mem_cons_self) (hq k List.mem_cons_self)).trans (hrest q fun j hj => ?_)
      rw [hport]
      exact hq j (List.mem_cons_of_mem k hj)
    · by_cases hjl : j ∈ l
      · obtain ⟨u, hu, hsu, hut⟩ := hturn j hjl
        rw [hport] at hsu hut
        exact ⟨u, (retireCurrent_printersStep s k).trans hu, (hother j hjl).trans hsu, hut⟩
      · have hjk : j = k := (List.mem_cons.mp hj).resolve_right hjl
        subst hjk
        refine ⟨s, .refl s, .refl _ s, hrest _ fun i hi => ?_⟩
        rw [hport]
        exact (hk i hi).symm
    · have hrun : ∀ j ∈ l, (!runsOn (retireCurrent s k).printers[(retireCurrent s k).jobs[j].port]) =
          !runsOn s.printers[s.jobs[j].port] := fun j hj => by
        simp only [hport]
        rw [(hother j hj).printer]
      have hblocks : ∀ j ∈ l.filter fun j => !runsOn s.printers[s.jobs[j].port],
          (retireCurrent s k).jobs[j].blocks = s.jobs[j].blocks := fun j hj => by
        rw [hsame j (List.mem_of_mem_filter hj)]
      rw [hpool, retireCurrent_pool, List.filter_congr hrun, List.flatMap_congr hblocks, List.filter_cons]
      cases runsOn s.printers[s.jobs[k].port] with
      | true => rfl
      | false => exact (freedPool_append ..).symm

end Sys2Proof.Machine
end

section
/-! ## The jobs and printers of a retired station, put together (R12, R48, R63) -/

namespace Sys2Proof.Machine

open Sys2Proof.Safety
open Config

/-! ### The jobs of the station -/

/-- The station's PRINTING jobs, in ascending number (R12). -/
def printingJobs (st : StationNo) (s : State) : List JobNo :=
  (List.finRange 32).filter fun j => s.jobs[j].owner = some st && s.jobs[j].state = .printing

theorem mem_printingJobs {st : StationNo} {s : State} {j : JobNo} :
    j ∈ printingJobs st s ↔ s.jobs[j].owner = some st ∧ s.jobs[j].state = .printing := by
  unfold printingJobs
  simp only [List.mem_filter, List.mem_finRange, true_and, Bool.and_eq_true, decide_eq_true_eq]

theorem mem_idleJobs {st : StationNo} {s : State} {j : JobNo} :
    j ∈ idleJobs st s ↔ s.jobs[j].owner = some st ∧ (s.jobs[j].state = .waiting ∨ s.jobs[j].state = .suspended) := by
  unfold idleJobs
  simp only [List.mem_filter, List.mem_finRange, true_and, Bool.and_eq_true, Bool.or_eq_true, decide_eq_true_eq]

/-- The jobs stopped at once are the PRINTING jobs at printers that do not run on (R12). -/
theorem stoppedJobs_eq (st : StationNo) (s : State) :
    stoppedJobs st s = (printingJobs st s).filter fun j => !runsOn s.printers[s.jobs[j].port] := by
  unfold stoppedJobs printingJobs runsOn
  rw [List.filter_filter]
  exact List.filter_congr fun j _ => Bool.and_comm ..

theorem mem_stoppedJobs {st : StationNo} {s : State} {j : JobNo} :
    j ∈ stoppedJobs st s ↔ j ∈ printingJobs st s ∧ runsOn s.printers[s.jobs[j].port] = false := by
  rw [stoppedJobs_eq]
  simp only [List.mem_filter, Bool.not_eq_true']

theorem not_idle_of_printing {st : StationNo} {s : State} {j : JobNo} (h : s.jobs[j].state = .printing) :
    j ∉ idleJobs st s := fun hj => by
  obtain ⟨-, hs⟩ := mem_idleJobs.mp hj
  rw [h] at hs
  rcases hs with hs | hs <;> cases hs

theorem retiredJobs_get (st : StationNo) (s : State) (j : JobNo) : (retiredJobs st s)[j] =
    if j ∈ idleJobs st s then endedJob .retired s.jobs[j]
    else if j ∈ printingJobs st s then
      { pendingJob s.jobs[j] with state := if j ∈ stoppedJobs st s then .free else .printing }
    else s.jobs[j] := by
  simp only [mem_printingJobs]
  exact Vector.getElem_ofFn ..

/-! ### Where jobs stand -/

section
variable {s : State} (h : JobsOk s)
include h

theorem jobsOk_current {p : PortNo} {j : JobNo} (hj : s.printers[p].current = some j) :
    s.jobs[j].state = .printing ∧ s.jobs[j].port = p := by
  obtain ⟨-, hat⟩ := h
  obtain ⟨-, hcurrent, -⟩ := hat p
  exact hcurrent j hj

theorem jobsOk_queued {p : PortNo} {j : JobNo} (hj : j ∈ s.printers[p].queue) :
    s.jobs[j].state = .waiting ∧ s.jobs[j].port = p := by
  obtain ⟨-, hat⟩ := h
  obtain ⟨hqueue, -⟩ := hat p
  exact hqueue j hj

theorem jobsOk_suspended {p : PortNo} {j : JobNo} (hj : s.printers[p].suspended = some j) :
    s.jobs[j].state = .suspended ∧ s.jobs[j].port = p := by
  obtain ⟨-, hat⟩ := h
  obtain ⟨-, -, hsuspended, -⟩ := hat p
  exact hsuspended j hj

theorem jobsOk_printing {j : JobNo} (hj : s.jobs[j].state = .printing) :
    s.printers[s.jobs[j].port].current = some j := by
  obtain ⟨hplace, -⟩ := h
  have hj' := hplace j
  rw [hj] at hj'
  exact hj'

theorem jobsOk_placed {p : PortNo} {k : JobNo} (hk : k ∈ s.printers[p].queue ∨ s.printers[p].suspended = some k) :
    s.jobs[k].port = p := hk.elim (fun hq => (jobsOk_queued h hq).2) fun hs => (jobsOk_suspended h hs).2

/-- An idle job is current nowhere, and has its place at its own port's printer. -/
theorem jobsOk_idle_placed {st : StationNo} {j : JobNo} (hj : j ∈ idleJobs st s) (p : PortNo) :
    s.printers[p].current ≠ some j ∧
      (p ≠ s.jobs[j].port → j ∉ s.printers[p].queue ∧ s.printers[p].suspended ≠ some j) :=
  ⟨fun hc => not_idle_of_printing (jobsOk_current h hc).1 hj,
    fun hp => ⟨fun hq => hp (jobsOk_queued h hq).2.symm, fun hs => hp (jobsOk_suspended h hs).2.symm⟩⟩

/-- Two PRINTING jobs are current at different printers. -/
theorem jobsOk_printing_unique {j k : JobNo} (hj : s.jobs[j].state = .printing) (hk : s.jobs[k].state = .printing)
    (hp : s.jobs[j].port = s.jobs[k].port) : j = k := by
  have hcurrent := jobsOk_printing h hj
  simp only [hp] at hcurrent
  exact Option.some.inj (hcurrent.symm.trans (jobsOk_printing h hk))

end

/-! ### The printers without the station's jobs -/

/-- Where no current job is stopped, the retired record is the one without the idle jobs. -/
theorem retiredPrinter_running {st : StationNo} {s : State} {r : Printer}
    (h : ∀ j, r.current = some j → j ∉ stoppedJobs st s) : withoutJobs (idleJobs st s) r = retiredPrinter st s r := by
  have hcurrent : r.current.filter (· ∉ stoppedJobs st s) = r.current :=
    option_filter_of_all fun j hj => decide_eq_true (h j hj)
  have hpending : r.current.all (· ∉ stoppedJobs st s) = true := by
    cases hc : r.current with
    | none => rfl
    | some j => exact decide_eq_true (h j hc)
  unfold retiredPrinter withoutJobs
  rw [hcurrent, hpending, Bool.and_true]

/-- Where the current job is stopped, it leaves the record too (R51, R65). -/
theorem retiredPrinter_stopped {st : StationNo} {s : State} {r : Printer} {j : JobNo} (hj : r.current = some j)
    (hs : j ∈ stoppedJobs st s) (hq : j ∉ r.queue) (hsus : r.suspended ≠ some j) :
    leavePlace j (withoutJobs (idleJobs st s) r) = retiredPrinter st s r := by
  have hqueue : (r.queue.filter (· ∉ idleJobs st s)).filter (· ≠ j) = r.queue.filter (· ∉ idleJobs st s) :=
    List.filter_eq_self.mpr fun k hk => decide_eq_true fun h => hq (h ▸ List.mem_of_mem_filter hk)
  have hsuspended : r.suspended.filter (· ∉ idleJobs st s) ≠ some j :=
    fun h => hsus (Option.eq_some_of_filter_eq_some h)
  have hcurrent : r.current.filter (· ∉ stoppedJobs st s) = none := by
    rw [hj]
    exact Option.filter_some_neg (decide_eq_false fun h => h hs)
  have hpending : r.current.all (· ∉ stoppedJobs st s) = false := by
    rw [hj]
    exact decide_eq_false fun h => h hs
  unfold retiredPrinter leavePlace withoutJobs
  dsimp only
  rw [if_pos hj, if_neg hsuspended, if_pos hj, hqueue, hcurrent, hpending, Bool.and_false]

/-! ### The jobs and printers after steps 3 and 4 -/

/-- A state agrees with another on all that the ends of jobs and a printer's choice read. -/
structure PrinterSide (s u : State) : Prop where
  jobs : u.jobs = s.jobs
  printers : u.printers = s.printers
  ports : u.ports = s.ports
  data : dataByte u.mem = dataByte s.mem
  mode : u.printMode = s.printMode
  settings : u.printerSet = s.printerSet
  time : u.time = s.time

/-- What a choice comes to is told by the printer's record and its port alone. -/
theorem chose_of_same {p : PortNo} {s t u : State} (h : Chose p s t) (hp : u.printers[p] = t.printers[p])
    (hq : u.ports[p] = t.ports[p]) : Chose p s u := by
  unfold Chose PageOpened at h ⊢
  rw [hp, hq]
  exact h

theorem job_printing {job : Job} (h : job.state = .printing) : { job with state := .printing } = job := by
  rw [← h]

/-- The end of some job stops the printer's current job (R12). -/
def Stops (st : StationNo) (s : State) (p : PortNo) : Prop :=
  ∃ j ∈ stoppedJobs st s, s.printers[p].current = some j

/-- What a retirement leaves of a port's printer, its port record and its jobs (R12, R48, R63). -/
structure PortRetired (st : StationNo) (s : State) (p : PortNo) (t : State) : Prop where
  jobs : ∀ j : JobNo, s.jobs[j].port = p → t.jobs[j] =
    if t.printers[p].current = some j then { (retiredJobs st s)[j] with state := .printing } else (retiredJobs st s)[j]
  kept : ¬ Stops st s p ∨ s.printers[p].state = .detached →
    t.printers[p] = retiredPrinter st s s.printers[p] ∧ t.ports[p] = s.ports[p]
  held : Stops st s p → s.printers[p].state = .held →
    Chose p { s with
      jobs := retiredJobs st s
      printers := put s.printers p { retiredPrinter st s s.printers[p] with hold := none } } t
  quiesced : Stops st s p → s.printers[p].state = .quiesced →
    Chose p { s with jobs := retiredJobs st s, printers := put s.printers p (retiredPrinter st s s.printers[p]) } t

/-- From `s` to `v` the station's idle jobs have ended (step 3 of a retirement, R12). -/
structure IdleRetired (st : StationNo) (s v : State) : Prop where
  jobs : ∀ j : JobNo, v.jobs[j] = if j ∈ idleJobs st s then endedJob .retired s.jobs[j] else s.jobs[j]
  printers : ∀ p : PortNo, v.printers[p] = withoutJobs (idleJobs st s) s.printers[p]
  ports : v.ports = s.ports
  data : dataByte v.mem = dataByte s.mem
  mode : v.printMode = s.printMode
  settings : v.printerSet = s.printerSet
  time : v.time = s.time

/-- A current job that is not stopped keeps a PRINTING record. -/
theorem retiredJobs_current {st : StationNo} {s : State} (h : JobsOk s) {p : PortNo} {j : JobNo}
    (hc : s.printers[p].current = some j) :
    { (retiredJobs st s)[j] with state := if j ∈ stoppedJobs st s then .free else .printing } = (retiredJobs st s)[j] := by
  have hs := (jobsOk_current h hc).1
  rw [retiredJobs_get, if_neg (not_idle_of_printing hs)]
  by_cases hj : j ∈ printingJobs st s
  · rw [if_pos hj]
  · rw [if_neg hj, if_neg fun hh => hj (mem_stoppedJobs.mp hh).1, ← hs]

/-- Where no current job is stopped, the job records agree with the printer's current job. -/
theorem retiredJobs_running {st : StationNo} {s t : State} (h : JobsOk s) {p : PortNo} (hs : ¬ Stops st s p)
    (hprinter : t.printers[p] = retiredPrinter st s s.printers[p]) {j : JobNo} (hj : t.jobs[j] = (retiredJobs st s)[j]) :
    t.jobs[j] = if t.printers[p].current = some j then { (retiredJobs st s)[j] with state := .printing }
      else (retiredJobs st s)[j] := by
  rw [hj, hprinter]
  split_ifs with hc
  · have hcurrent : s.printers[p].current = some j := Option.eq_some_of_filter_eq_some hc
    have hsame := retiredJobs_current (st := st) h hcurrent
    rw [if_neg fun hh => hs ⟨j, hh, hcurrent⟩] at hsame
    exact hsame.symm
  · rfl

theorem leftPrinter_current {j : JobNo} {r : Printer} (h : r.current = some j) : (leftPrinter j r).current = none := by
  unfold leftPrinter
  split <;> exact if_pos h

/-- A PRINTING job of a retired station ended at once, and the choice of its printer where it is HELD or QUIESCED. -/
theorem retireCurrent_turn {u : State} {j : JobNo} {p : PortNo} (hp : u.jobs[j].port = p)
    (h : runsOn u.printers[p] = false) (hc : u.printers[p].current = some j) :
    (stopped u j).printers[p] = leftPrinter j u.printers[p] ∧
      (∀ k : JobNo, (retireCurrent u j).jobs[k] =
        if (retireCurrent u j).printers[p].current = some k then { (stopped u j).jobs[k] with state := .printing }
        else (stopped u j).jobs[k]) ∧
      (u.printers[p].state = .held ∨ u.printers[p].state = .quiesced → Chose p (stopped u j) (retireCurrent u j)) ∧
      (¬ (u.printers[p].state = .held ∨ u.printers[p].state = .quiesced) →
        (retireCurrent u j).printers[p] = leftPrinter j u.printers[p] ∧ (retireCurrent u j).ports[p] = u.ports[p]) := by
  subst hp
  have hleft := stopped_printer u j
  have hnone : (stopped u j).printers[u.jobs[j].port].current = none := by rw [hleft]; exact leftPrinter_current hc
  have hjobs := retireCurrent_job h
  rw [retireCurrent_stopped h] at hjobs ⊢
  by_cases hs : u.printers[u.jobs[j].port].state = .held ∨ u.printers[u.jobs[j].port].state = .quiesced
  · have hchose := (choose_chose u.jobs[j].port (stopped u j)).1
    have hcurrent := chose_current hchose hnone
    rw [if_pos hs] at hjobs ⊢
    refine ⟨hleft, fun k => ?_, fun _ => hchose, fun hn => absurd hs hn⟩
    rw [hjobs k, hcurrent, hleft]
    simp only [hs, true_and]
  · rw [if_neg hs] at hjobs ⊢
    refine ⟨hleft, fun k => ?_, fun hn => absurd hn hs, fun _ => ⟨hleft, rfl⟩⟩
    rw [if_neg (by rw [hnone]; nofun)]

/-- Before the turn of a PRINTING job of the station, its port is as step 3 left it, and what a choice reads beside is as
in `s`. -/
structure BeforeTurn (st : StationNo) (s : State) (j : JobNo) (u : State) : Prop where
  job : u.jobs[j] = s.jobs[j]
  others : ∀ k : JobNo, s.jobs[k].port = s.jobs[j].port → k ≠ j → u.jobs[k] = (retiredJobs st s)[k]
  jobPort : ∀ k : JobNo, s.jobs[k].port = s.jobs[j].port → u.jobs[k].port = s.jobs[j].port
  printer : u.printers[s.jobs[j].port] = withoutJobs (idleJobs st s) s.printers[s.jobs[j].port]
  port : u.ports[s.jobs[j].port] = s.ports[s.jobs[j].port]
  data : dataByte u.mem = dataByte s.mem
  mode : u.printMode = s.printMode
  settings : u.printerSet = s.printerSet
  time : u.time = s.time

section
variable {st : StationNo} {s v : State} (h : JobsOk s) (hv : IdleRetired st s v)
include hv

/-- A PRINTING job of the station is as it was after step 3. -/
theorem idleRetired_printing {j : JobNo} (hj : j ∈ printingJobs st s) : v.jobs[j] = s.jobs[j] := by
  rw [hv.jobs j, if_neg (not_idle_of_printing (mem_printingJobs.mp hj).2)]

/-- Any other job's record is the retired one after step 3. -/
theorem idleRetired_other {j : JobNo} (hj : j ∉ printingJobs st s) : v.jobs[j] = (retiredJobs st s)[j] := by
  rw [hv.jobs j, retiredJobs_get, if_neg hj]

theorem idleRetired_port (j : JobNo) : v.jobs[j].port = s.jobs[j].port := by
  rw [hv.jobs j]
  split_ifs <;> rfl

include h

theorem idleRetired_placed (p : PortNo) : PlacedAt p v := by
  intro k hk
  rw [hv.printers p] at hk
  rw [idleRetired_port hv]
  exact jobsOk_placed h (hk.imp List.mem_of_mem_filter Option.eq_some_of_filter_eq_some)

/-- A port at which the station has no PRINTING job. -/
theorem portRetired_none {t : State} {p : PortNo} (hp : ∀ j ∈ printingJobs st s, s.jobs[j].port ≠ p)
    (ht : SamePort p v t) : PortRetired st s p t := by
  have hstopped : ∀ j, s.printers[p].current = some j → j ∉ stoppedJobs st s := fun j hc hj =>
    hp j (mem_stoppedJobs.mp hj).1 (jobsOk_current h hc).2
  have hstops : ¬ Stops st s p := fun ⟨j, hj, hc⟩ => hstopped j hc hj
  have hprinter : t.printers[p] = retiredPrinter st s s.printers[p] := by
    rw [ht.printer, hv.printers p, retiredPrinter_running hstopped]
  refine ⟨fun j hj => retiredJobs_running h hstops hprinter ?_, fun _ => ⟨hprinter, ?_⟩, fun hs => absurd hs hstops,
    fun hs => absurd hs hstops⟩
  · rw [ht.jobs j ((idleRetired_port hv j).trans hj), idleRetired_other hv fun hh => hp j hh hj]
  · rw [ht.port, hv.ports]

theorem beforeTurn_of {u : State} {j : JobNo} (hj : j ∈ printingJobs st s) (hvu : PrintersStep v u)
    (hu : SamePort s.jobs[j].port v u) : BeforeTurn st s j u := by
  have hsame : ∀ k : JobNo, s.jobs[k].port = s.jobs[j].port → u.jobs[k] = v.jobs[k] :=
    fun k hk => hu.jobs k ((idleRetired_port hv k).trans hk)
  obtain ⟨js, ps, qs, bs, fs, rfl⟩ := hvu
  refine ⟨(hsame j rfl).trans (idleRetired_printing hv hj), fun k hk hkj => ?_, fun k hk => ?_,
    hu.printer.trans (hv.printers _), hu.port.trans (by rw [hv.ports]), hv.data, hv.mode, hv.settings, hv.time⟩
  · rw [hsame k hk, idleRetired_other hv fun hh => hkj
      (jobsOk_printing_unique h (mem_printingJobs.mp hh).2 (mem_printingJobs.mp hj).2 hk)]
  · rw [hsame k hk, idleRetired_port hv]
    exact hk

end

section
variable {st : StationNo} {s t u : State} {j : JobNo} (h : JobsOk s) (hj : j ∈ printingJobs st s)
  (hu : BeforeTurn st s j u)
include h hj hu

/-- A port whose PRINTING job of the station runs on to its boundary (R12). -/
theorem portRetired_runsOn (hrun : runsOn s.printers[s.jobs[j].port] = true)
    (ht : SamePort s.jobs[j].port (retireCurrent u j) t) : PortRetired st s s.jobs[j].port t := by
  have hstate := (mem_printingJobs.mp hj).2
  have hcurrent := jobsOk_printing h hstate
  have hnot : j ∉ stoppedJobs st s := fun hh => by
    have hstops := (mem_stoppedJobs.mp hh).2
    rw [hrun] at hstops
    cases hstops
  have hstops : ¬ Stops st s s.jobs[j].port := fun ⟨k, hk, hc⟩ => hnot (Option.some.inj (hcurrent.symm.trans hc) ▸ hk)
  have hturn : retireCurrent u j = { u with jobs := put u.jobs j (pendingJob u.jobs[j]) } := by
    refine retireCurrent_runsOn ?_
    simp only [hu.job]
    rw [hu.printer]
    exact hrun
  rw [hturn] at ht
  have hprinter : t.printers[s.jobs[j].port] = retiredPrinter st s s.printers[s.jobs[j].port] := by
    rw [ht.printer, ← retiredPrinter_running fun k hk => Option.some.inj (hcurrent.symm.trans hk) ▸ hnot]
    exact hu.printer
  refine ⟨fun k hk => retiredJobs_running h hstops hprinter ?_, fun _ => ⟨hprinter, ht.port.trans hu.port⟩,
    fun hs => absurd hs hstops, fun hs => absurd hs hstops⟩
  by_cases hkj : k = j
  · subst hkj
    have hread : (put u.jobs k (pendingJob u.jobs[k]))[k] = pendingJob s.jobs[k] := (put_get ..).trans (by rw [hu.job])
    rw [ht.jobs k (by rw [hread]; rfl), hread, retiredJobs_get, if_neg (not_idle_of_printing hstate), if_pos hj, if_neg hnot]
    exact (job_printing (job := pendingJob s.jobs[k]) hstate).symm
  · have hread : (put u.jobs j (pendingJob u.jobs[j]))[k] = u.jobs[k] := put_get_ne _ _ _ _ (Ne.symm hkj)
    rw [ht.jobs k (by rw [hread]; exact hu.jobPort k hk), hread, hu.others k hk hkj]

variable (hrun : runsOn s.printers[s.jobs[j].port] = false)
include hrun

omit h in
/-- The records of the port's jobs once its PRINTING job has been stopped (R12, R51). -/
theorem stopped_records {k : JobNo} (hk : s.jobs[k].port = s.jobs[j].port) :
    (stopped u j).jobs[k] = (retiredJobs st s)[k] := by
  by_cases hkj : k = j
  · subst hkj
    rw [stopped_job, hu.job, retiredJobs_get, if_neg (not_idle_of_printing (mem_printingJobs.mp hj).2), if_pos hj,
      if_pos (mem_stoppedJobs.mpr ⟨hj, hrun⟩)]
    rfl
  · rw [stopped_job_ne u hkj, hu.others k hk hkj]

/-- The record of a printer whose current job has been stopped, before it chooses (R12, R48). -/
theorem leftPrinter_retired : leftPrinter j u.printers[s.jobs[j].port] =
    if s.printers[s.jobs[j].port].state = .held
    then { retiredPrinter st s s.printers[s.jobs[j].port] with hold := none }
    else retiredPrinter st s s.printers[s.jobs[j].port] := by
  have hstate := (mem_printingJobs.mp hj).2
  have hretired := retiredPrinter_stopped (jobsOk_printing h hstate) (mem_stoppedJobs.mpr ⟨hj, hrun⟩)
    (fun hq => by rw [(jobsOk_queued h hq).1] at hstate; cases hstate)
    (fun hq => by rw [(jobsOk_suspended h hq).1] at hstate; cases hstate)
  unfold leftPrinter
  rw [hu.printer, hretired]
  rfl

/-- The printer's choice reads what the retired jobs and printer record hold (R58, R63). -/
theorem stopped_choiceAlike {r : Printer} (hr : leftPrinter j u.printers[s.jobs[j].port] = r) :
    ChoiceAlike s.jobs[j].port (stopped u j)
      { s with jobs := retiredJobs st s, printers := put s.printers s.jobs[j].port r } := by
  have hleft : (stopped u j).printers[s.jobs[j].port] = leftPrinter j u.printers[s.jobs[j].port] := by
    have hprinter := stopped_printer u j
    simp only [hu.job] at hprinter
    exact hprinter
  refine ⟨(put_get ..).trans (hr.symm.trans hleft.symm), fun k hk => (stopped_records hj hu hrun ?_).symm, hu.data.symm,
    hu.port.symm, hu.mode.symm, congrArg (·[s.jobs[j].port]) hu.settings.symm, hu.time.symm⟩
  rw [hleft, leftPrinter_queue, leftPrinter_suspended, hu.printer] at hk
  refine jobsOk_placed h (hk.imp (fun hq => List.mem_of_mem_filter (List.mem_of_mem_filter hq)) fun hs => ?_)
  split_ifs at hs
  exact Option.eq_some_of_filter_eq_some hs

/-- A port whose PRINTING job of the station is stopped, and whose printer then chooses where it is HELD or QUIESCED
(R12, R48, R63). -/
theorem portRetired_stopped (ht : SamePort s.jobs[j].port (retireCurrent u j) t) :
    PortRetired st s s.jobs[j].port t := by
  have hcurrent := jobsOk_printing h (mem_printingJobs.mp hj).2
  have hleft := leftPrinter_retired h hj hu hrun
  obtain ⟨-, hjobs, hchose, hstay⟩ := retireCurrent_turn (congrArg Job.port hu.job) (by rw [hu.printer]; exact hrun)
    (by rw [hu.printer]; exact hcurrent)
  rw [show u.printers[s.jobs[j].port].state = s.printers[s.jobs[j].port].state by rw [hu.printer]; rfl] at hchose hstay
  have hchoose : ∀ r : Printer, leftPrinter j u.printers[s.jobs[j].port] = r →
      (s.printers[s.jobs[j].port].state = .held ∨ s.printers[s.jobs[j].port].state = .quiesced) →
      Chose s.jobs[j].port { s with jobs := retiredJobs st s, printers := put s.printers s.jobs[j].port r } t :=
    fun r hr hs => chose_of_same ((stopped_choiceAlike h hj hu hrun hr).chose (hchose hs)) ht.printer ht.port
  refine ⟨fun k hk => ?_, fun hs => ?_, fun _ hs => hchoose _ (hleft.trans (if_pos hs)) (.inl hs), fun _ hs =>
    hchoose _ (hleft.trans (if_neg (by rw [hs]; decide))) (.inr hs)⟩
  · rw [ht.jobs k ((retireCurrent_jobPort u j k).trans (hu.jobPort k hk)), hjobs k, ← ht.printer,
      stopped_records hj hu hrun hk]
  · have hdetached : s.printers[s.jobs[j].port].state = .detached :=
      hs.resolve_left fun hn => hn ⟨j, mem_stoppedJobs.mpr ⟨hj, hrun⟩, hcurrent⟩
    obtain ⟨hp, hq⟩ := hstay (by rw [hdetached]; nofun)
    exact ⟨ht.printer.trans (hp.trans (hleft.trans (if_neg (by rw [hdetached]; decide)))),
      ht.port.trans (hq.trans hu.port)⟩

end

section
variable {st : StationNo} {s v : State} (h : JobsOk s) (hv : IdleRetired st s v)
include h hv

omit h in
theorem retireCurrents_eq : retireCurrents st v = (printingJobs st s).foldl retireCurrent v := by
  have hlist : ownedJobs v st (fun x => x = .printing) = printingJobs st s := by
    refine List.filter_congr fun j _ => ?_
    rw [hv.jobs j]
    split_ifs with hj
    · have hnot : s.jobs[j].state ≠ .printing := fun hs => not_idle_of_printing hs hj
      rw [decide_eq_false hnot, Bool.and_false]
      exact Bool.and_false _
    · rfl
  unfold retireCurrents
  rw [hlist]

/-- Step 4 of a retirement, from a state as step 3 leaves it: each port's outcome, and the blocks freed (R12, R18). -/
theorem retireCurrents_retired : (∀ p, PortRetired st s p (retireCurrents st v)) ∧
    PrintersStep v (retireCurrents st v) ∧
    poolOf (retireCurrents st v) = freedPool ((stoppedJobs st s).flatMap fun j => s.jobs[j].blocks) (poolOf v) := by
  have hjob : ∀ j ∈ printingJobs st s, v.jobs[j] = s.jobs[j] := fun j hj => idleRetired_printing hv hj
  have hports : (printingJobs st s).Pairwise fun j k => v.jobs[j].port ≠ v.jobs[k].port := by
    refine (((List.nodup_finRange 32).filter _).pairwise_of_forall_ne fun j hj k hk hjk hp => hjk ?_)
    rw [hjob j hj, hjob k hk] at hp
    exact jobsOk_printing_unique h (mem_printingJobs.mp hj).2 (mem_printingJobs.mp hk).2 hp
  obtain ⟨hstep, hother, hturn, hpool⟩ := foldl_retireCurrent hports fun j _ => idleRetired_placed h hv _
  rw [← retireCurrents_eq hv] at hstep hother hturn hpool
  refine ⟨fun p => ?_, hstep, ?_⟩
  · by_cases hp : ∃ j ∈ printingJobs st s, s.jobs[j].port = p
    · obtain ⟨j, hj, rfl⟩ := hp
      obtain ⟨u, hvu, hu, ht⟩ := hturn j hj
      rw [hjob j hj] at hu ht
      cases hrun : runsOn s.printers[s.jobs[j].port] with
      | true => exact portRetired_runsOn h hj (beforeTurn_of h hv hj hvu hu) hrun ht
      | false => exact portRetired_stopped h hj (beforeTurn_of h hv hj hvu hu) hrun ht
    · refine portRetired_none h hv (fun j hj hjp => hp ⟨j, hj, hjp⟩) (hother p fun j hj hjp => hp ⟨j, hj, ?_⟩)
      rwa [hjob j hj] at hjp
  · have hrun : ∀ j ∈ printingJobs st s, (!runsOn v.printers[v.jobs[j].port]) = !runsOn s.printers[s.jobs[j].port] := by
      intro j hj
      simp only [hjob j hj]
      rw [hv.printers]
      rfl
    have hblocks : ∀ j ∈ stoppedJobs st s, v.jobs[j].blocks = s.jobs[j].blocks := fun j hj => by
      rw [hjob j (mem_stoppedJobs.mp hj).1]
    rw [hpool, List.filter_congr hrun, ← stoppedJobs_eq, List.flatMap_congr hblocks]

end

/-- Steps 3 and 4 of a retirement, from a state that agrees with `s` on what they read and in which the station is OUT OF
SERVICE (R12). -/
theorem retireJobs_retired {st : StationNo} {s u : State} (h : JobsOk s) (hu : PrinterSide s u)
    (hin : inService u st = false) :
    (∀ p, PortRetired st s p (retireCurrents st (retireIdleJobs st u))) ∧
      ∃ js ps qs n, retireCurrents st (retireIdleJobs st u) =
        withPool { u with
          jobs := js, printers := ps, ports := qs
          stations := put u.stations st { u.stations[st] with holdings := n } }
          (freedPool ((idleJobs st s ++ stoppedJobs st s).flatMap fun j => s.jobs[j].blocks) (poolOf u)) := by
  have hlist : ownedJobs u st (fun x => x = .waiting || x = .suspended) = idleJobs st s := by
    unfold ownedJobs idleJobs
    rw [hu.jobs]
  obtain ⟨js, ps, n, hfold, hjs, hps⟩ := foldl_endJob_idle (l := idleJobs st s) hin ((List.nodup_finRange 32).filter _)
    (fun j hj => by rw [hu.jobs]; exact (mem_idleJobs.mp hj).1)
    (fun j hj p => by rw [hu.printers, hu.jobs]; exact jobsOk_idle_placed h hj p)
  have hidle : retireIdleJobs st u = _ := (congrArg (·.foldl (endJob .retired) u) hlist).trans hfold
  have hv : IdleRetired st s (retireIdleJobs st u) := by
    rw [hidle]
    refine ⟨fun j => ?_, fun p => ?_, hu.ports, hu.data, hu.mode, hu.settings, hu.time⟩
    · rw [← hu.jobs]
      exact hjs j
    · rw [← hu.printers]
      exact hps p
  obtain ⟨hports, hstep, hpool⟩ := retireCurrents_retired h hv
  refine ⟨hports, ?_⟩
  obtain ⟨js', ps', qs', bs, fs, hframe⟩ := hstep
  refine ⟨js', ps', qs', n, ?_⟩
  have hfreed : (bs, fs) = freedPool ((idleJobs st s ++ stoppedJobs st s).flatMap fun j => s.jobs[j].blocks) (poolOf u) := by
    rw [List.flatMap_append, freedPool_append, ← hu.jobs]
    have hpoolIdle := congrArg poolOf hidle
    rw [hframe, hpoolIdle] at hpool
    exact hu.jobs ▸ hpool
  rw [← hfreed, hframe, hidle]
  rfl

end Sys2Proof.Machine
end

section
/-! ## SET SERVICE of value 0: the whole retirement (R9–R14) -/

namespace Sys2Proof.Machine

open Sys2Proof.Safety
open Config

/-! ### Steps 1 and 2: the cards and the RESERVED blocks (R11) -/

/-- The POSTED cards of a station. -/
def Posted (st : StationNo) (s : State) (x : CardNo) : Prop := s.cards[x] = .posted ∧ cardStation x = st

/-- The answer fields of the station's POSTED cards. -/
def PostedField (st : StationNo) (s : State) (a : Nat) : Prop := ∃ x, Posted st s x ∧ AnswerField x a

theorem dataAddress?_ge {bs : List BlockNo} {k a : Nat} (h : dataAddress? bs k = some a) : poolBase ≤ a := by
  unfold dataAddress? at h
  obtain ⟨b, -, rfl⟩ := Option.map_eq_some_iff.mp h
  unfold blockAddress
  omega

theorem answerField_lt {x : CardNo} {a : Nat} (h : AnswerField x a) : a < poolBase := by
  unfold AnswerField at h
  unfold poolBase
  rw [cardAddress_eq] at h
  omega

/-- Answers to cards leave the bytes of the pool, and so every job's data (R24, R35). -/
theorem dataByte_of_kept {s t : State} (h : MemoryKept s t fun a => ∃ x, AnswerField x a) :
    dataByte t.mem = dataByte s.mem := by
  funext bs k
  unfold dataByte
  split
  · next a ha => exact h a fun ⟨x, hx⟩ => Nat.not_le.mpr (answerField_lt hx) (dataAddress?_ge ha)
  · rfl

/-- From `s` to `u` a station has gone OUT OF SERVICE, its POSTED cards have been answered so and its RESERVED blocks freed
(steps 1 and 2 of a retirement, R10, R11). -/
structure CardsRetired (st : StationNo) (s u : State) : Prop where
  memory : MemoryOk u
  cards : ∀ x : CardNo, (Posted st s x → u.cards[x] = .answered) ∧ (¬ Posted st s x → u.cards[x] = s.cards[x])
  answers : ∀ x, Posted st s x → ∀ k < 4, readMem u.mem (cardAddress x + 4 + k) =
    (answerBytes { outcome := .outOfService }).getD k 0
  bytes : MemoryKept s u (PostedField st s)
  notice : ∀ y : StationNo, y ≠ st → u.notice.getLsbD y.val = s.notice.getLsbD y.val
  frame : ∃ m cs n, u = withPool { s with
      mem := m, cards := cs, notice := n
      posting := s.posting.filter (cardStation · ≠ st)
      stations := put s.stations st { s.stations[st] with service := .outOfService } }
    (freedPool ((List.finRange 96).filter fun b => s.blocks[b] = .reserved st) (poolOf s))

theorem retireCards_retired {st : StationNo} {s : State} (hm : MemoryOk s) (hc : CardsOk s) :
    CardsRetired st s (retireBlocks st (retireCards st (updStation s st fun r => { r with service := .outOfService }))) := by
  obtain ⟨-, hposted, -⟩ := hc
  have hmem : ∀ x : CardNo, x ∈ s.posting.filter (fun c => cardStation c = st) ↔ Posted st s x := fun x => by
    unfold Posted
    simp only [List.mem_filter, decide_eq_true_eq, hposted]
  have hanswered : CardsAnswered { outcome := .outOfService } (s.posting.filter fun c => cardStation c = st)
      { s with
        posting := s.posting.filter fun c => cardStation c ≠ st
        stations := put s.stations st { s.stations[st] with service := .outOfService } }
      (retireCards st (updStation s st fun r => { r with service := .outOfService })) := foldl_answerCard _ _ hm
  generalize retireCards st (updStation s st fun r => { r with service := .outOfService }) = u at hanswered
  obtain ⟨hmemory, hcards, hanswers, hbytes, hnotice, m, cs, n, rfl⟩ := hanswered
  unfold retireBlocks
  rw [freeBlocks_eq]
  refine ⟨hmemory, fun x => ⟨fun hx => ?_, fun hx => ?_⟩, fun x hx => hanswers x ((hmem x).mpr hx), fun a ha => ?_,
    fun y hy => hnotice y fun x hx => ?_, m, cs, n, rfl⟩
  · exact (hcards x).trans (if_pos ((hmem x).mpr hx))
  · exact (hcards x).trans (if_neg (mt (hmem x).mp hx))
  · exact hbytes a fun ⟨x, hx, hxa⟩ => ha ⟨x, (hmem x).mp hx, hxa⟩
  · obtain ⟨-, hst⟩ := (hmem x).mp hx
    exact hst ▸ hy.symm

/-! ### Steps 3 to 7 -/

/-- From `s` to `u` a station has been retired (R10–R14). -/
structure Retired (st : StationNo) (s u : State) : Prop where
  memory : MemoryOk u
  cards : ∀ x : CardNo, (Posted st s x → u.cards[x] = .answered) ∧ (¬ Posted st s x → u.cards[x] = s.cards[x])
  answers : ∀ x, Posted st s x → ∀ k < 4, readMem u.mem (cardAddress x + 4 + k) =
    (answerBytes { outcome := .outOfService }).getD k 0
  bytes : MemoryKept (given (retirementGrants st s) s) u (PostedField st s)
  pool : poolOf u = freedPool (retiredBlocks st s) (poolOf s)
  ports : ∀ p, PortRetired st s p u
  scanners : ∀ p : PortNo, u.scanners[p] = withdrawn .retired st s.time s.scanners[p]
  contacts : ∀ n : ContactNo, u.contacts[n] = s.contacts[n].filter fun r => contactStation r ≠ some st
  ring : u.delivery[st] = { s.delivery[st] with owed := [], frozen := true }
  others : ∀ x : StationNo, x ≠ st → u.delivery[x] = (given (retirementGrants st s) s).delivery[x]
  notice : u.notice = (given (retirementGrants st s) s).notice &&& ~~~stationBit st
  frame : ∃ m cs bs fs js ps qs vs ns ds n, u = { s with
    mem := m, cards := cs, blocks := bs, free := fs, jobs := js, printers := ps, ports := qs, scanners := vs
    contacts := ns, delivery := ds, notice := n
    posting := s.posting.filter (cardStation · ≠ st)
    stations := put s.stations st { s.stations[st] with service := .outOfService, holdings := 0 } }

/-- Records given to other stations leave a station's delivery state (R170). -/
theorem giveStatus_delivery_ne {x st : StationNo} (h : x ≠ st) (r : Record) (s : State) :
    (giveStatus x r s).delivery[st] = s.delivery[st] := by
  unfold giveStatus
  split_ifs
  · rfl
  · exact writeRecord_delivery_ne h.symm ..
  · exact put_get_ne _ _ _ _ h
  · exact put_get_ne _ _ _ _ h

theorem given_delivery_ne {st : StationNo} {rs : List (StationNo × Record)} (h : ∀ r ∈ rs, r.1 ≠ st) (s : State) :
    (given rs s).delivery[st] = s.delivery[st] := by
  induction rs generalizing s with
  | nil => rfl
  | cons r rs ih =>
    exact (ih (fun q hq => h q (List.mem_cons_of_mem r hq)) _).trans
      (giveStatus_delivery_ne (h r List.mem_cons_self) ..)

/-- No grant of a retirement goes to the retired station: it does not wait where it holds (R84, R92). -/
theorem retirementGrants_other {st : StationNo} {s : State} (h : ScannersOk s) :
    ∀ r ∈ retirementGrants st s, r.1 ≠ st := by
  intro r hr
  unfold retirementGrants at hr
  obtain ⟨p, -, hp⟩ := List.mem_flatMap.mp hr
  split_ifs at hp with hholds
  · obtain ⟨-, -, hstate⟩ := h p
    unfold holds at hholds
    cases hc : claimOf s.scanners[p].state with
    | none =>
      rw [hc] at hholds
      cases hholds
    | some c =>
      rw [hc] at hholds
      rw [claimOf_eq_some hc] at hstate
      have hholder : c.holder = st := of_decide_eq_true hholds
      dsimp only at hstate
      rw [hholder] at hstate
      cases hq : s.scanners[p].queue with
      | nil =>
        rw [grantRecords_nil hq] at hp
        cases hp
      | cons w rest =>
        rw [grantRecords_cons hq, List.mem_singleton] at hp
        rw [hq, List.map_cons, List.mem_cons, not_or] at hstate
        rw [hp]
        exact Ne.symm hstate.1
  · cases hp

/-- A station's contact records are gone, and no other (R13). -/
theorem freeContacts_get (st : StationNo) (s : State) (n : ContactNo) :
    (freeContacts st s).contacts[n] = s.contacts[n].filter fun r => contactStation r ≠ some st := by
  refine (Vector.getElem_map ..).trans ?_
  rw [← Fin.getElem_fin]
  cases s.contacts[n] with
  | none => rfl
  | some r =>
    by_cases hr : contactStation r = some st
    · simp [Option.filter_some, hr]
    · simp [Option.filter_some, hr]

/-- The parts that a port's outcome speaks of. -/
theorem portRetired_of_same {st : StationNo} {s t u : State} {p : PortNo} (h : PortRetired st s p t) (hj : u.jobs = t.jobs)
    (hp : u.printers = t.printers) (hq : u.ports = t.ports) : PortRetired st s p u := by
  have hprinter : u.printers[p] = t.printers[p] := by rw [hp]
  have hport : u.ports[p] = t.ports[p] := by rw [hq]
  refine ⟨fun j hjp => ?_, fun hs => ?_, fun hs hheld => chose_of_same (h.held hs hheld) hprinter hport,
    fun hs hq => chose_of_same (h.quiesced hs hq) hprinter hport⟩
  · rw [hj, hprinter]
    exact h.jobs j hjp
  · rw [hprinter, hport]
    exact h.kept hs

/-- From `s` to `w` steps 1 to 4 of a retirement have been made, and the station's holdings are 0 (R10–R12). -/
structure HoldingsRetired (st : StationNo) (s w : State) : Prop where
  memory : MemoryOk w
  cards : ∀ x : CardNo, (Posted st s x → w.cards[x] = .answered) ∧ (¬ Posted st s x → w.cards[x] = s.cards[x])
  answers : ∀ x, Posted st s x → ∀ k < 4, readMem w.mem (cardAddress x + 4 + k) =
    (answerBytes { outcome := .outOfService }).getD k 0
  bytes : MemoryKept s w (PostedField st s)
  notice : ∀ y : StationNo, y ≠ st → w.notice.getLsbD y.val = s.notice.getLsbD y.val
  pool : poolOf w = freedPool (retiredBlocks st s) (poolOf s)
  ports : ∀ p, PortRetired st s p w
  frame : ∃ m cs n js ps qs bs fs, w = { s with
    mem := m, cards := cs, notice := n, jobs := js, printers := ps, ports := qs, blocks := bs, free := fs
    posting := s.posting.filter (cardStation · ≠ st)
    stations := put s.stations st { s.stations[st] with service := .outOfService, holdings := 0 } }

theorem retireHoldings_retired {st : StationNo} {s : State} (hm : MemoryOk s) (hc : CardsOk s) (hj : JobsOk s) :
    HoldingsRetired st s (updStation (retireCurrents st (retireIdleJobs st (retireBlocks st
      (retireCards st (updStation s st fun r => { r with service := .outOfService }))))) st
      fun r => { r with holdings := 0 }) := by
  have hcards := retireCards_retired (st := st) hm hc
  generalize retireBlocks st (retireCards st (updStation s st fun r => { r with service := .outOfService })) = u at hcards
  obtain ⟨hmemory, hanswered, hanswers, hbytes, hnotice, m, cs, nt, hframe⟩ := hcards
  have hin : inService u st = false := decide_eq_false (by
    rw [hframe]
    unfold withPool
    rw [Fin.getElem_fin, put_get]
    nofun)
  have hside : PrinterSide s u := by
    have hdata := dataByte_of_kept (s := s) (t := u) fun a ha => hbytes a fun ⟨x, _, hx⟩ => ha ⟨x, hx⟩
    rw [hframe] at hdata ⊢
    exact ⟨rfl, rfl, rfl, hdata, rfl, rfl, rfl⟩
  obtain ⟨hports, js, ps, qs, n, hjobs⟩ := retireJobs_retired hj hside hin
  rw [hjobs] at hports ⊢
  have hpool : freedPool ((idleJobs st s ++ stoppedJobs st s).flatMap fun j => s.jobs[j].blocks) (poolOf u) =
      freedPool (retiredBlocks st s) (poolOf s) := by
    rw [hframe]
    exact (freedPool_append ..).symm
  rw [hpool] at hports ⊢
  subst hframe
  refine ⟨hmemory, hanswered, hanswers, hbytes, hnotice, rfl, fun p => portRetired_of_same (hports p) rfl rfl rfl,
    m, cs, nt, js, ps, qs, (freedPool (retiredBlocks st s) (poolOf s)).1, (freedPool (retiredBlocks st s) (poolOf s)).2, ?_⟩
  unfold updStation withPool
  simp only [Fin.getElem_fin, put_get, put_put]

theorem retire_retired {st : StationNo} {s : State} (hm : MemoryOk s) (hr : RingsOk s) (hc : CardsOk s) (hj : JobsOk s)
    (hs : ScannersOk s) : Retired st s (retire st s) := by
  have hholdings := retireHoldings_retired (st := st) hm hc hj
  rw [retire_eq]
  generalize updStation (retireCurrents st _) st _ = w at hholdings ⊢
  obtain ⟨hmemory, hcards, hanswers, hbytes, hnotice, hpool, hports, m, cs, nt, js, ps, qs, bs, fs, hframe⟩ := hholdings
  have hother := retirementGrants_other hs (st := st)
  obtain ⟨v, hclaims, hv⟩ := (retireScanner_turn st).foldl _ (List.nodup_finRange 8) w
  have hgrants : retireClaims st w = given (retirementGrants st s) (withScanners w v) := by
    rw [hframe] at hclaims ⊢
    exact hclaims
  have halike : GivenAlike (· ≠ st) (PostedField st s) s (withScanners w v) := by
    refine ⟨hm, hmemory, hbytes, fun x _ => ?_, fun x hx => ?_, hnotice, ?_⟩
    · rw [hframe]
      rfl
    · refine inService_eq ?_
      rw [hframe]
      exact congrArg Station.service (put_get_ne _ _ _ _ (Ne.symm hx))
    · rw [hframe]
      rfl
  have hgiven := halike.given hother
  have hkept := given_ringsWritten (retirementGrants st s) (s := withScanners w v) hmemory
    (ringsOk_of_delivery hr (by rw [hframe]; rfl))
  have hring := given_delivery_ne hother (withScanners w v)
  obtain ⟨m', d', n', hg⟩ := given_frame (retirementGrants st s) (withScanners w v)
  rw [hgrants]
  generalize given (retirementGrants st s) (withScanners w v) = g at hgiven hkept hring hg ⊢
  subst hg
  subst hframe
  refine ⟨hgiven.memory', hcards, fun x hx k hk => ?_, hgiven.bytes, hpool,
    fun p => portRetired_of_same (hports p) rfl rfl rfl, fun p => (hv p).trans (if_pos (List.mem_finRange p)), fun n => ?_, ?_, fun x hx => ?_, ?_,
    _, _, _, _, _, _, _, _, _, _, _, rfl⟩
  · have hfield : AnswerField x (cardAddress x + 4 + k) := ⟨by omega, by omega⟩
    exact (hkept.bytes _ fun ⟨other, ho⟩ => answerField_not_inRing hfield other ho).trans (hanswers x hx k hk)
  · exact freeContacts_get st _ n
  · exact (put_get ..).trans (congrArg (fun d : Delivery => { d with owed := [], frozen := true }) hring)
  · exact (put_get_ne _ _ _ _ (Ne.symm hx)).trans (hgiven.delivery x hx)
  · refine BitVec.eq_of_getLsbD_eq fun i hi => ?_
    show (n' &&& ~~~stationBit st).getLsbD i = _
    rw [BitVec.getLsbD_and, BitVec.getLsbD_and]
    by_cases hx : (⟨i, hi⟩ : StationNo) = st
    · have hbit : (~~~stationBit st).getLsbD i = false := by
        subst hx
        rw [BitVec.getLsbD_not, getLsbD_stationBit ⟨i, hi⟩]
        exact Bool.and_false _
      rw [hbit, Bool.and_false, Bool.and_false]
    · rw [show n'.getLsbD i = _ from hgiven.notice ⟨i, hi⟩ hx]

/-- Settles O30: the retirement step by step, and then the answer to SET SERVICE. -/
theorem retirementGivesEverythingUp : Obligations.RetirementGivesEverythingUp := by
  intro c s st hm hr hc hj hp hscan hs hc0 hst0 hst hv hin posted jobs told
  have hretired := retire_retired (st := st) hm hr hc hj hscan
  have hf : serveSetService c s =
      { state := useOpen (retire st s), answer := openAnswer s .ok ((retire st s).free.length - s.free.length) } := by
    rw [serveSetService_eq hst, hv, checked_pass (serviceChecks_pass (by omega) (fun h => hst0 h.1) hin)]
    rfl
  have hnotPosted : ¬ Posted st s c := by
    obtain ⟨-, -, hserving⟩ := hc
    rintro ⟨hposted, -⟩
    rw [(hserving c).mp hs.1] at hposted
    cases hposted
  generalize retire st s = u at hretired hf
  obtain ⟨hmemory, hcards, hanswers, hbytes, hpool, hports, hscanners, hcontacts, hring, hothers, hnotice, m, cs, bs, fs, js,
    ps, qs, vs, ns, ds, n, hframe⟩ := hretired
  obtain ⟨t, ht, ha, hk, htm⟩ := served_from (f := serveSetService) (u := useOpen u) hmemory hs hf
  have hanswer : ∀ x, posted x → ∀ k < 4, readMem t.mem (cardAddress x + 4 + k) =
      (answerBytes { outcome := .outOfService }).getD k 0 := fun x hx k hk4 => by
    have hfield : AnswerField x (cardAddress x + 4 + k) := ⟨by omega, by omega⟩
    exact (hk _ fun h => hnotPosted (answerField_unique h hfield ▸ hx)).trans (hanswers x hx k hk4)
  subst htm hframe
  refine ⟨_, ht, ha, rfl, fun x => ?_, fun x hx => ⟨hanswer x hx 0 (by omega), hanswer x hx 1 (by omega), ?_⟩, rfl,
    fun hnodup hfree => (congrArg Prod.snd hpool).trans (freedPool_free hnodup hfree),
    fun b => (congrArg (fun y => y.1[b]) hpool).trans (freedPool_get ..), fun j => (hports _).jobs j rfl,
    fun p => ⟨(hports p).kept, (hports p).held, (hports p).quiesced⟩, hscanners, hcontacts, hring, hothers, ?_,
    fun a hna => ?_, rfl⟩
  · by_cases hxc : x = c
    · subst hxc
      exact (put_get ..).trans (if_pos (.inl rfl)).symm
    · refine (put_get_ne _ _ _ _ (Ne.symm hxc)).trans ?_
      obtain ⟨hanswered, hkept⟩ := hcards x
      by_cases hx : posted x
      · exact (hanswered hx).trans (if_pos (.inr hx)).symm
      · exact (hkept hx).trans (if_neg fun h => h.elim hxc hx).symm
  · have h6 := hanswer x hx 2 (by omega)
    have h7 := hanswer x hx 3 (by omega)
    show halfOf (readMem _ (cardAddress x + 4 + 2)) (readMem _ (cardAddress x + 4 + 3)) = 0
    rw [h6, h7]
    rfl
  · rw [← hc0, ← hnotice]
    rfl
  · obtain ⟨hc, hx⟩ := not_or.mp hna
    exact (hk a hc).trans (hbytes a hx)

end Sys2Proof.Machine
end

section
/-! ## The free list, the posting list and the card states (R18, R155, R159, R160) -/

namespace Sys2Proof.Machine

open Sys2Proof.Safety
open Config

/-! ### Writes of PART CONTROL and of a taken mark, for any relation -/

/-- A write to PART CONTROL is a soft reset, a start, both, or nothing (R177). -/
theorem controlWrite_induction {P : State → Prop} {s : State} (same : P s) (reset : P (softReset s))
    (run : ∀ t, P t → P { t with part := .running }) (v : Half) : P (controlWrite v s) := by
  have start : ∀ t, P t → P (startPart t) := fun t ht => by
    unfold startPart
    split
    · exact run t ht
    · exact ht
  unfold controlWrite
  dsimp only
  split
  · exact start _ (by split <;> assumption)
  · split <;> assumption

/-- A taken-mark write is a mark moved and a flush, or nothing (R171). -/
theorem LinkClosed.takenMarkWrite {R : State → State → Prop} (h : LinkClosed R)
    (mark : ∀ s st f, R s (updDelivery s st f)) (st : StationNo) (v : Nat) (s : State) :
    R s (takenMarkWrite st v s) := by
  unfold Machine.takenMarkWrite
  split
  · exact h.trans (mark s st _) (h.flush st _)
  · exact h.refl s

/-! ### Blocks taken by a RESERVE (R22) -/

/-- The blocks of a list are RESERVED by the station, and no other block has changed. -/
theorem foldl_reserveBlock_get (st : StationNo) (l : List BlockNo) (s : State) (b : BlockNo) :
    (l.foldl (reserveBlock st) s).blocks[b] = if b ∈ l then .reserved st else s.blocks[b] := by
  induction l generalizing s with
  | nil => rfl
  | cons c l ih =>
    rw [List.foldl_cons, ih]
    by_cases hb : b ∈ l
    · rw [if_pos hb, if_pos (List.mem_cons_of_mem c hb)]
    · rw [if_neg hb]
      show (put s.blocks c (.reserved st))[b.val] = _
      rw [put_get_eq]
      by_cases hc : c = b
      · rw [if_pos hc, if_pos (hc ▸ List.mem_cons_self)]
      · rw [if_neg hc, if_neg (List.not_mem_cons_of_ne_of_not_mem (Ne.symm hc) hb)]
        rfl

/-- Blocks taken change the block states and the memory alone. -/
theorem foldl_reserveBlock_frame (st : StationNo) (l : List BlockNo) (s : State) :
    l.foldl (reserveBlock st) s =
      { s with mem := (l.foldl (reserveBlock st) s).mem, blocks := (l.foldl (reserveBlock st) s).blocks } := by
  induction l generalizing s with
  | nil => rfl
  | cons c l ih =>
    rw [List.foldl_cons, ih]
    rfl

/-- Blocks are taken from the head of a free list in order, and the rest of the list is in order (R18, R22). -/
theorem acceptReserve_poolOk {s : State} (h : PoolOk s) (st : StationNo) (n : Nat) : PoolOk (acceptReserve st n s).state := by
  obtain ⟨hnodup, hmem⟩ := h
  have hsplit : s.free.take n ++ s.free.drop n = s.free := List.take_append_drop n s.free
  rw [← hsplit] at hnodup
  obtain ⟨_, hdrop, hdisjoint⟩ := List.nodup_append.mp hnodup
  have hfree : (acceptReserve st n s).state.free = s.free.drop n :=
    congrArg State.free (foldl_reserveBlock_frame st (s.free.take n) { s with free := s.free.drop n })
  have hblock : ∀ b : BlockNo, (acceptReserve st n s).state.blocks[b] =
      if b ∈ s.free.take n then .reserved st else s.blocks[b] :=
    foldl_reserveBlock_get st (s.free.take n) { s with free := s.free.drop n }
  refine ⟨hfree ▸ hdrop, fun b => ?_⟩
  rw [hfree, hblock]
  split
  · rename_i hb
    exact iff_of_false (fun hd => hdisjoint b hb b hd rfl) nofun
  · rename_i hb
    have hiff : b ∈ s.free ↔ b ∈ s.free.take n ∨ b ∈ s.free.drop n := by rw [← List.mem_append, hsplit]
    rw [← hmem b, hiff]
    exact ⟨.inr, fun h => h.resolve_left hb⟩

/-! ### Blocks freed and committed (R18, R26) -/

/-- The free list is in order in two states whose pools are the same. -/
theorem poolOk_of_pool {s t : State} (h : PoolOk s) (ht : poolOf t = poolOf s) : PoolOk t := by
  obtain ⟨hblocks, hfree⟩ := Prod.mk.inj ht
  unfold PoolOk
  rw [hblocks, hfree]
  exact h

/-- A block freed joins the tail of the list, unless it stands there already (R17, R18). -/
theorem freeBlock_poolOk {s : State} (h : PoolOk s) (b : BlockNo) : PoolOk (freeBlock s b) := by
  unfold freeBlock
  split
  · exact h
  · rename_i hb
    obtain ⟨hnodup, hmem⟩ := h
    have hnot : b ∉ s.free := fun hin => hb ((hmem b).mp hin)
    refine ⟨List.nodup_append.mpr ⟨hnodup, List.nodup_singleton b, ?_⟩, fun c => ?_⟩
    · rintro x hx y hy rfl
      exact hnot (List.mem_singleton.mp hy ▸ hx)
    · show c ∈ s.free ++ [b] ↔ (put s.blocks b .free)[c.val] = .free
      rw [put_get_eq, List.mem_append, List.mem_singleton]
      by_cases hc : b = c
      · rw [if_pos hc]
        exact iff_of_true (.inr hc.symm) rfl
      · rw [if_neg hc]
        exact (or_iff_left (Ne.symm hc)).trans (hmem c)

/-- The blocks of a list are COMMITTED to the job, and no other block has changed (R26). -/
theorem commitBlocks_get (j : JobNo) (l : List BlockNo) (s : State) (b : BlockNo) :
    (commitBlocks j l s).blocks[b] = if b ∈ l then .committed j else s.blocks[b] := by
  unfold commitBlocks
  induction l generalizing s with
  | nil => rfl
  | cons c l ih =>
    rw [List.foldl_cons, ih]
    by_cases hb : b ∈ l
    · rw [if_pos hb, if_pos (List.mem_cons_of_mem c hb)]
    · rw [if_neg hb]
      show (put s.blocks c (.committed j))[b.val] = _
      rw [put_get_eq]
      by_cases hc : c = b
      · rw [if_pos hc, if_pos (hc ▸ List.mem_cons_self)]
      · rw [if_neg hc, if_neg (List.not_mem_cons_of_ne_of_not_mem (Ne.symm hc) hb)]
        rfl

/-- Blocks committed change the block states alone. -/
theorem commitBlocks_frame (j : JobNo) (l : List BlockNo) (s : State) :
    commitBlocks j l s = { s with blocks := (commitBlocks j l s).blocks } := by
  unfold commitBlocks
  induction l generalizing s with
  | nil => rfl
  | cons c l ih =>
    rw [List.foldl_cons, ih]

/-- Blocks none of which is FREE are committed with the free list in order. -/
theorem commitBlocks_poolOk {s : State} (h : PoolOk s) (j : JobNo) {l : List BlockNo}
    (hl : ∀ b ∈ l, s.blocks[b] ≠ .free) : PoolOk (commitBlocks j l s) := by
  obtain ⟨hnodup, hmem⟩ := h
  have hfree : (commitBlocks j l s).free = s.free := by rw [commitBlocks_frame]
  refine ⟨hfree ▸ hnodup, fun b => ?_⟩
  rw [hfree, commitBlocks_get, hmem b]
  split
  · exact iff_of_false (hl b ‹_›) nofun
  · exact .rfl

/-- A checked list names blocks that are RESERVED by the station (R23, R39). -/
theorem listedBlocks_reserved {s : State} {st : StationNo} {entries : List Nat} {b : BlockNo}
    (h : b ∈ listedBlocks s st entries) : s.blocks[b] = .reserved st := by
  obtain ⟨e, _, he⟩ := List.mem_filterMap.mp h
  unfold ownReserved? at he
  split at he
  · split at he
    · exact Option.some.inj he ▸ ‹_›
    · cases he
  · cases he

/-! ### The free list after every command (R18) -/

/-- The free list goes over in order from one state to another. -/
def PoolKept (s t : State) : Prop := PoolOk s → PoolOk t

theorem hand_pool (p : PortNo) (f : OutFrame) (s : State) : poolOf (hand p f s) = poolOf s := by
  unfold hand
  split <;> rfl

/-- The small writes of every block keep the free list in order. -/
theorem poolKept_commandClosed : CommandClosed PoolKept where
  refl _ := id
  trans h k := k ∘ h
  write _ _ _ _ _ := id
  join _ _ _ _ := id
  gap _ _ := id
  printers _ _ := id
  jobs _ _ := id
  block s b h := freeBlock_poolOk h b
  holdings _ _ _ := id
  hand p f s _ h := poolOk_of_pool h (hand_pool p f s)
  withdraw _ _ _ _ := id
  scanners _ _ := id
  contacts _ _ := id
  control s t h hs := by
    obtain ⟨_, _, _, _, _, _, _, _, _, _, _, _, _, _, _, _, _, _, _, rfl⟩ := h
    exact hs
  unqueue _ _ _ _ _ := id
  port _ _ _ _ := id
  answered _ _ _ _ := id

theorem retireCards_pool (st : StationNo) (s : State) : poolOf (retireCards st s) = poolOf s := by
  unfold retireCards
  refine foldl_inv (P := fun t : State => poolOf t = poolOf s) _ (fun _ _ h => ?_) _ _ rfl
  exact h

theorem freezeRing_poolKept (st : StationNo) (s : State) : PoolKept s (freezeRing st s) := id

/-- A retirement keeps the free list in order (R11, R12). -/
theorem retire_poolKept (st : StationNo) (s : State) : PoolKept s (retire st s) := by
  have closed := poolKept_commandClosed
  have cards : PoolKept s (retireCards st (updStation s st fun r => { r with service := .outOfService })) :=
    fun h => poolOk_of_pool h (retireCards_pool st _)
  rw [retire_eq]
  exact closed.trans cards (closed.trans (closed.retireJobs st _) (closed.trans (closed.holdings _ st fun _ => 0)
    (closed.trans (closed.retireClaims st _) (closed.trans (closed.contacts _ _) (freezeRing_poolKept st _)))))

/-- The blocks of an accepted SUBMIT are RESERVED by its station, so the free list stays in order (R26, R40). -/
theorem acceptSubmit_poolKept (st : StationNo) (p : PortNo) (cls : JobClass) (a : SubmitArgs) (j : JobNo) (s : State) :
    PoolKept s (acceptSubmit st p cls a j s).state := fun h => by
  have closed := poolKept_commandClosed
  have committed : PoolOk (commitBlocks j (listedBlocks s st a.entries)
      (updJob { s with acceptance := s.acceptance + 1 } j fun old =>
        newJob old st p cls a (listedBlocks s st a.entries) (s.acceptance + 1))) :=
    commitBlocks_poolOk (s := updJob { s with acceptance := s.acceptance + 1 } j _) h j fun b hb hfree =>
      nomatch (listedBlocks_reserved hb).symm.trans hfree
  exact closed.afterJoin p j _ (closed.printer _ p _ committed)

/-- What a served request makes of the state keeps the free list in order. -/
theorem served_poolKept (k : RequestKind) (c : CardNo) (s : State) : PoolKept s (served k c s).state := by
  have closed := poolKept_commandClosed.toLinkClosed
  cases k with
  | reserve => exact closed.checked _ fun h => acceptReserve_poolOk h _ _
  | unreserve => exact closed.unreserve c s
  | submit =>
    refine closed.checked _ ?_
    split
    · exact acceptSubmit_poolKept _ _ _ _ _ s
    · exact id
  | setPermits => exact closed.setPermits (fun _ _ _ => id) c s
  | setService => exact closed.setService (fun s st _ => retire_poolKept st s) (fun _ _ => id) c s
  | setQuota => exact closed.setQuota (fun _ _ _ => id) c s
  | setPrinter => exact closed.setPrinter (fun _ _ => id) c s
  | setScanner => exact closed.setScanner (fun _ _ => id) c s
  | setZone => exact closed.setZone (fun _ _ => id) c s
  | clearZone => exact closed.clearZone (fun _ _ => id) c s
  | setPort => exact closed.setPort (fun _ _ _ => id) c s
  | cancelJob | clearPrinter | claim | release | ackPort | quiet | wake => exact closed.served (by decide) c s

theorem writeCardState_pool (c : CardNo) (v : Byte) (s : State) : poolOf (writeCardState c v s) = poolOf s := by
  unfold writeCardState
  split
  · rfl
  · split <;> rfl

theorem hostWrite_poolKept (w : HostWrite) (s : State) : PoolKept s (hostWrite w s) :=
  hostWrite_induction (P := PoolKept s) w id
    (fun st v => poolKept_commandClosed.takenMarkWrite (fun _ _ _ => id) st v s)
    (fun c v _ _ h => poolOk_of_pool h (writeCardState_pool c v _)) (fun _ _ => id) (fun _ => id) (fun _ => id)
    (controlWrite_induction id (fun _ => reset_poolOk) fun _ => id)

/-- Every command keeps the free list in order (R18). -/
theorem exec_poolKept {i : Instr} {s t : State} (ht : exec i s = .next t) : PoolKept s t := by
  by_cases hi : i = .fullReset
  · subst hi
    cases ht
    exact fun _ => reset_poolOk
  · exact poolKept_commandClosed.exec ht hi (fun w => hostWrite_poolKept w s)
      (takeCard_induction (P := PoolKept s) id (fun _ _ => id) fun _ _ _ => id) fun k _ c => served_poolKept k c s

end Sys2Proof.Machine
end

section
/-! ## Commands by what they do to the tables of the pool, the printers and the cards -/

namespace Sys2Proof.Machine

open Sys2Proof.Safety
open Config

/-! ### Operations outside those tables -/

/-- The block states, the free list, the job table, the printer records and the card lists. -/
def tablesOf (s : State) :=
  (s.blocks, s.free, s.jobs, s.printers, s.cards, s.posting, s.serving)

/-- The pool, the job table, the printer records and the card lists are as they were. -/
def TablesKept (s t : State) : Prop := tablesOf t = tablesOf s

theorem TablesKept.refl (s : State) : TablesKept s s := rfl

theorem TablesKept.trans {s t u : State} (h : TablesKept s t) (k : TablesKept t u) : TablesKept s u := Eq.trans k h

theorem TablesKept.pool {s t : State} (h : TablesKept s t) : poolOf t = poolOf s :=
  congrArg (fun x => (x.1, x.2.1)) h

theorem TablesKept.jobs {s t : State} (h : TablesKept s t) : t.jobs = s.jobs := congrArg (fun x => x.2.2.1) h

theorem TablesKept.printers {s t : State} (h : TablesKept s t) : t.printers = s.printers :=
  congrArg (fun x => x.2.2.2.1) h

theorem TablesKept.cards {s t : State} (h : TablesKept s t) :
    t.cards = s.cards ∧ t.posting = s.posting ∧ t.serving = s.serving := by
  have hcards := congrArg (fun x => x.2.2.2.2) h
  exact ⟨congrArg (·.1) hcards, congrArg (·.2.1) hcards, congrArg (·.2.2) hcards⟩

theorem DeliveryStep.tables {s t : State} (h : DeliveryStep s t) : TablesKept s t := by
  obtain ⟨_, _, _, rfl⟩ := h
  exact rfl

theorem ScanStep.tables {s t : State} (h : ScanStep s t) : TablesKept s t := by
  obtain ⟨_, _, _, _, _, rfl⟩ := h
  exact rfl

theorem TouchStep.tables {s t : State} (h : TouchStep s t) : TablesKept s t := by
  obtain ⟨_, _, _, _, _, rfl⟩ := h
  exact rfl

theorem ControlStep.tables {s t : State} (h : ControlStep s t) : TablesKept s t := by
  obtain ⟨_, _, _, _, _, _, _, _, _, _, _, _, _, _, _, _, _, _, _, rfl⟩ := h
  exact rfl

theorem publish_tables (ps : List PortNo) (s t : State) : TablesKept t (publish ps s t) := rfl

theorem updPort_tables (s : State) (p : PortNo) (f : Port → Port) : TablesKept s (updPort s p f) := rfl

theorem hand_tables (p : PortNo) (f : OutFrame) (s : State) : TablesKept s (hand p f s) := (hand_scan p f s).tables

/-! ### The Port Controllers -/

theorem notify_tables (kind : DeviceKind) (p : PortNo) (n : PortNotice) (s : State) : TablesKept s (notify kind p n s) := by
  cases kind <;> exact rfl

theorem portChange_tables (p : PortNo) (was : LinkState) (cause : LinkCause) (s : State) :
    TablesKept s (portChange p was cause s) := (giveStatus_frame ..).tables

theorem notifyArrival_tables (p : PortNo) (d : DevProfile) (s : State) : TablesKept s (notifyArrival p d s) := by
  unfold notifyArrival
  dsimp only
  split
  · exact (notify_tables ..).trans (notify_tables ..)
  · exact notify_tables ..

theorem lossOf_tables (p : PortNo) (was : Port) (s : State) : TablesKept s (lossOf p was s) := by
  unfold lossOf notifyLoss
  split
  · split
    · exact notify_tables ..
    · exact rfl
  · exact rfl

theorem silenceTimerExpiry_tables (p : PortNo) (s : State) : TablesKept s (silenceTimerExpiry p s) := by
  unfold silenceTimerExpiry
  dsimp only
  split
  · exact (updPort_tables ..).trans ((portChange_tables ..).trans (lossOf_tables ..))
  · exact rfl

theorem babbledFrame_tables (p : PortNo) (s : State) : TablesKept s (babbledFrame p s) := by
  unfold babbledFrame
  dsimp only
  split
  · split
    · exact (updPort_tables ..).trans ((updPort_tables ..).trans ((portChange_tables ..).trans (lossOf_tables ..)))
    · exact (updPort_tables ..).trans (updPort_tables ..)
  · exact rfl

theorem completeIntro_tables (p : PortNo) (s : State) : TablesKept s (completeIntro p s) := by
  unfold completeIntro
  split
  · split
    · split
      · dsimp only
        split
        · exact (updPort_tables ..).trans (portChange_tables ..)
        · exact (updPort_tables ..).trans ((portChange_tables ..).trans (notifyArrival_tables ..))
      · exact rfl
    · exact rfl
  · exact rfl

theorem profileFrame_tables (p : PortNo) (payload : List Byte) (s : State) : TablesKept s (profileFrame p payload s) := by
  unfold profileFrame
  split
  · split
    · exact (updPort_tables ..).trans (completeIntro_tables ..)
    · exact (updPort_tables ..).trans ((portChange_tables ..).trans (lossOf_tables ..))
    all_goals exact rfl
  · exact rfl

theorem profileSeenFrame_tables (p : PortNo) (s : State) : TablesKept s (profileSeenFrame p s) := by
  unfold profileSeenFrame
  split
  · exact (updPort_tables ..).trans (completeIntro_tables ..)
  · exact rfl

theorem attemptTimerExpiry_tables (p : PortNo) (s : State) : TablesKept s (attemptTimerExpiry p s) := by
  unfold attemptTimerExpiry
  split
  · split <;> exact rfl
  · exact rfl

theorem profileResend_tables (p : PortNo) (s : State) : TablesKept s (profileResend p s) := by
  unfold profileResend
  split
  · split <;> exact rfl
  · exact rfl

theorem profileSeenResend_tables (p : PortNo) (s : State) : TablesKept s (profileSeenResend p s) := by
  unfold profileSeenResend
  split
  · split <;> exact rfl
  · exact rfl

theorem restartSilence_tables (p : PortNo) (s : State) : TablesKept s (restartSilence p s) := by
  unfold restartSilence
  split <;> exact rfl

theorem setRx_tables (p : PortNo) (rx : Option (List (BitVec 4))) (s : State) : TablesKept s (setRx p rx s) := rfl

theorem scanFrame_tables (p : PortNo) (payload : List Byte) (s : State) : TablesKept s (scanFrame p payload s) := by
  unfold scanFrame
  split
  · exact (scan_scan ..).tables
  · exact rfl

theorem touchFrame_tables (p : PortNo) (payload : List Byte) (s : State) : TablesKept s (touchFrame p payload s).state := by
  unfold touchFrame
  split
  · exact (touch_touch ..).tables
  · exact rfl

/-! ### Notices taken, quiet hours and waking -/

theorem reportPart_tables (was : PartState) (s : State) : TablesKept s (reportPart was s) := (giveStatus_frame ..).tables

theorem enterQuietPart_tables (s : State) : TablesKept s (enterQuietPart s) :=
  .trans (t := { s with part := .quiet }) rfl ((reportPart_tables ..).trans rfl)

theorem wakePart_tables (cause : WakeCause) (s : State) : TablesKept s (wakePart cause s) :=
  .trans (t := { s with part := .running, wake := cause }) rfl ((reportPart_tables ..).trans rfl)

theorem wakeTouch_tables (s : State) : TablesKept s (wakeTouch s) := by
  unfold wakeTouch
  split
  · rename_i rest _
    have taken : TablesKept s { s with wakeReports := rest } := rfl
    dsimp only
    split
    · exact taken.trans (wakePart_tables ..)
    · exact taken
  · exact rfl

theorem scannerLinkLoss_tables (p : PortNo) (s : State) : TablesKept s (scannerLinkLoss p s) := by
  unfold scannerLinkLoss
  split
  · split
    · exact rfl
    · exact .trans (t := popScan p s) rfl (loseScanner_scan ..).tables
  · exact rfl

theorem scannerArrival_tables (p : PortNo) (s : State) : TablesKept s (scannerArrival p s) := by
  unfold scannerArrival
  split
  · split <;> exact rfl
  · exact rfl

theorem panelLinkLoss_tables (p : PortNo) (s : State) : TablesKept s (panelLinkLoss p s).state := by
  unfold panelLinkLoss
  split
  · dsimp only
    refine .trans ?_ (settleAll_touch ..).tables
    exact rfl
  · exact rfl

theorem panelArrival_tables (p : PortNo) (s : State) : TablesKept s (panelArrival p s) := by
  unfold panelArrival
  split <;> exact rfl

theorem scannersEnterQuiet_tables (s : State) : TablesKept s (scannersEnterQuiet s) := by
  unfold scannersEnterQuiet
  split
  · refine .trans ?_ (foldl_rel .refl .trans _ (fun t p => (tearDown_scan p .quiet t).tables) _ _)
    exact rfl
  · exact rfl

theorem scannersLeaveQuiet_tables (s : State) : TablesKept s (scannersLeaveQuiet s) := by
  unfold scannersLeaveQuiet
  split <;> exact rfl

theorem touchEnterQuiet_tables (s : State) : TablesKept s (touchEnterQuiet s) := by
  unfold touchEnterQuiet
  split
  · refine .trans ?_ (settleAll_touch ..).tables
    exact rfl
  · exact rfl

theorem touchLeaveQuiet_tables (s : State) : TablesKept s (touchLeaveQuiet s) := by
  unfold touchLeaveQuiet
  split <;> exact rfl

/-! ### Commands -/

/-- A relation between states that changes outside the tables do not touch, and that the events of the Print Scheduler, a
served request with its answer, the host writes and the taking of a card keep. -/
structure CommandKept (R : State → State → Prop) : Prop where
  refl : ∀ s, R s s
  before : ∀ {s t u}, TablesKept s t → R t u → R s u
  after : ∀ {s t u}, R s t → TablesKept t u → R s u
  pageDone : ∀ p n s, R s (pageDone p n s)
  credit : ∀ p n s, R s (credit p n s)
  pageFault : ∀ p n cause s, R s (pageFault p n cause s)
  ready : ∀ p s, R s (ready p s)
  paper : ∀ p low s, R s (paper p low s)
  pageTimerExpiry : ∀ p s, R s (pageTimerExpiry p s)
  reconnectTimerExpiry : ∀ p s, R s (reconnectTimerExpiry p s)
  printerLinkLoss : ∀ p s, R s (printerLinkLoss p s)
  printerArrival : ∀ p s, R s (printerArrival p s)
  printerReturn : ∀ p s, R s (printerReturn p s)
  kindChange : ∀ p s, R s (kindChange p s)
  printersEnterQuiet : ∀ s, R s (printersEnterQuiet s)
  printersLeaveQuiet : ∀ s, R s (printersLeaveQuiet s)
  request : ∀ k c a args s, Serving k c s → R s (answerServed c a args (served k c s).state)
  hostWrite : ∀ w s, R s (hostWrite w s)
  takeCard : ∀ s, R s (takeCard s)

section
variable {R : State → State → Prop} (h : CommandKept R)
include h

theorem CommandKept.outside {s t : State} (ht : TablesKept s t) : R s t := h.before ht (h.refl t)

theorem CommandKept.printerFrame (p : PortNo) (kind : Byte) (payload : List Byte) (s : State) :
    R s (printerFrame p kind payload s) := by
  unfold Machine.printerFrame
  split
  · split
    · split
      · exact h.ready ..
      · exact h.refl s
    · split
      · exact h.pageDone ..
      · split
        · exact h.credit ..
        · split
          · exact h.paper ..
          · exact h.refl s
    · split
      · exact h.pageFault ..
      · exact h.refl s
    · exact h.refl s
  · exact h.refl s

theorem CommandKept.takeFrame (p : PortNo) (kind : Byte) (payload : List Byte) (s : State) :
    R s (takeFrame p kind payload s).state := by
  unfold Machine.takeFrame
  split
  · exact h.outside (profileFrame_tables ..)
  · split
    · exact h.outside (profileSeenFrame_tables ..)
    · split
      · exact h.outside (scanFrame_tables ..)
      · split
        · exact h.outside (touchFrame_tables ..)
        · exact h.printerFrame ..

theorem CommandKept.frameReceived (p : PortNo) (kind : Byte) (payload : List Byte) (s : State) :
    R s (frameReceived p kind payload s).state := by
  unfold Machine.frameReceived
  split
  · exact h.before ((restartSilence_tables p s).trans (setRx_tables ..)) (h.takeFrame ..)
  · exact h.refl s

theorem CommandKept.assemble (p : PortNo) (g : GroupKind) (s : State) : R s (assemble p g s).state := by
  unfold Machine.assemble
  split
  · exact h.outside (setRx_tables p (some []) s)
  · show R s (dataGroupIn p _ _ s)
    unfold dataGroupIn
    dsimp only
    split
    · exact h.outside (babbledFrame_tables ..)
    · exact h.outside (setRx_tables ..)
  · unfold endFrame
    dsimp only
    split
    · exact h.before (setRx_tables p none s) (h.takeFrame ..)
    · exact h.outside (setRx_tables p none s)
  · exact h.outside (setRx_tables p none s)
  · exact h.outside (setRx_tables p none s)
  all_goals exact h.refl s

theorem CommandKept.groupReceived (p : PortNo) (g : Group) (s : State) : R s (groupReceived p g s).state := by
  have linked : R s (Machine.assemble p (groupKind g)
      (if validGroup g = true then Machine.restartSilence p s else s)).state := by
    split
    · exact h.before (restartSilence_tables p s) (h.assemble ..)
    · exact h.assemble ..
  unfold Machine.groupReceived
  split
  · split
    · exact h.before (updPort_tables ..) (h.assemble ..)
    · exact h.refl s
  · exact linked
  · exact linked
  · exact h.refl s
  · exact h.refl s

theorem CommandKept.event {f : State → State} {s t : State} (ht : event f s = .next t) (hf : R s (f s)) : R s t :=
  Host.Outcome.next.inj ht ▸ h.after hf (publish_tables ..)

theorem CommandKept.eventMarked {f : State → Marked} {s t : State} (ht : eventMarked f s = .next t)
    (hf : R s (f s).state) : R s t :=
  Host.Outcome.next.inj ht ▸ h.after hf (publish_tables ..)

theorem CommandKept.row {k : RequestKind} {s t : State} (ht : Machine.exec (requestRow k) s = .next t) : R s t := by
  rw [exec_requestRow] at ht
  by_cases hk : ∃ c, Serving k c s
  · obtain ⟨c, hc⟩ := hk
    rw [serve_serving hc] at ht
    exact Host.Outcome.next.inj ht ▸ h.after (h.request k c _ _ s hc) (publish_tables ..)
  · rw [serve_other fun c hc => hk ⟨c, hc⟩] at ht
    exact Host.Outcome.next.inj ht ▸ h.refl s

/-- Such a relation holds over every command but a full reset. -/
theorem CommandKept.exec {i : Instr} {s t : State} (ht : exec i s = .next t) (hi : i ≠ .fullReset) : R s t := by
  have write : ∀ w, (Host.Outcome.next (Machine.hostWrite w s) : Out) = .next t → R s t :=
    fun w e => Host.Outcome.next.inj e ▸ h.hostWrite w s
  cases i with
  | fullReset => exact absurd rfl hi
  | run w | softReset w | registerWriteDiscarded w | noticeWrite w | noticeMaskWrite w | hostWrite w | poolBlockWrite w
  | cardByteWrite w | cardStateWrite w | takenMarkWrite w => exact write w ht
  | takeCard => exact Host.Outcome.next.inj ht ▸ h.takeCard s
  | reserve => exact h.row (k := .reserve) ht
  | unreserve => exact h.row (k := .unreserve) ht
  | submit => exact h.row (k := .submit) ht
  | cancelJob => exact h.row (k := .cancelJob) ht
  | clearPrinter => exact h.row (k := .clearPrinter) ht
  | claim => exact h.row (k := .claim) ht
  | release => exact h.row (k := .release) ht
  | setPermits => exact h.row (k := .setPermits) ht
  | setService => exact h.row (k := .setService) ht
  | setQuota => exact h.row (k := .setQuota) ht
  | setPrinter => exact h.row (k := .setPrinter) ht
  | setScanner => exact h.row (k := .setScanner) ht
  | setZone => exact h.row (k := .setZone) ht
  | clearZone => exact h.row (k := .clearZone) ht
  | setPort => exact h.row (k := .setPort) ht
  | ackPort => exact h.row (k := .ackPort) ht
  | quiet => exact h.row (k := .quiet) ht
  | wake => exact h.row (k := .wake) ht
  | wakeTouch => exact h.event ht (h.outside (wakeTouch_tables s))
  | printersEnterQuiet => exact h.event ht (h.printersEnterQuiet s)
  | scannersEnterQuiet => exact h.event ht (h.outside (scannersEnterQuiet_tables s))
  | touchEnterQuiet => exact h.event ht (h.outside (touchEnterQuiet_tables s))
  | printersLeaveQuiet => exact h.event ht (h.printersLeaveQuiet s)
  | scannersLeaveQuiet => exact h.event ht (h.outside (scannersLeaveQuiet_tables s))
  | touchLeaveQuiet => exact h.event ht (h.outside (touchLeaveQuiet_tables s))
  | validGroupReceived p g => exact h.eventMarked ht (h.groupReceived p g s)
  | profileResend p => exact Host.Outcome.next.inj ht ▸ h.outside (profileResend_tables p s)
  | profileSeenResend p => exact Host.Outcome.next.inj ht ▸ h.outside (profileSeenResend_tables p s)
  | sendFrame p => exact Host.Outcome.next.inj ht ▸ h.outside (updPort_tables s p _)
  | paceSwitch p => exact Host.Outcome.next.inj ht ▸ h.outside (updPort_tables s p _)
  | babbledFrame p =>
    exact h.event (f := fun s => Machine.babbledFrame p (Machine.restartSilence p s)) ht
      (h.outside ((restartSilence_tables p s).trans (babbledFrame_tables p _)))
  | profile p payload | profileSeen p payload | pageDone p payload | credit p payload | pageFault p payload
  | ready p payload | paper p payload | scan p payload | touch p payload =>
    exact h.eventMarked ht (h.frameReceived p _ payload s)
  | attemptTimerExpiry p => exact Host.Outcome.next.inj ht ▸ h.outside (attemptTimerExpiry_tables p s)
  | silenceTimerExpiry p => exact h.event ht (h.outside (silenceTimerExpiry_tables p s))
  | printerLinkLoss p => exact h.event ht (h.printerLinkLoss p s)
  | scannerLinkLoss p => exact h.event ht (h.outside (scannerLinkLoss_tables p s))
  | panelLinkLoss p => exact h.eventMarked ht (h.outside (panelLinkLoss_tables p s))
  | printerArrival p => exact h.event ht (h.printerArrival p s)
  | printerReturn p => exact h.event ht (h.printerReturn p s)
  | kindChange p => exact h.event ht (h.kindChange p s)
  | scannerArrival p => exact h.event ht (h.outside (scannerArrival_tables p s))
  | panelArrival p => exact h.event ht (h.outside (panelArrival_tables p s))
  | reconnectTimerExpiry p => exact h.event ht (h.reconnectTimerExpiry p s)
  | pageTimerExpiry p => exact h.event ht (h.pageTimerExpiry p s)
  | idleTimerExpiry p => exact h.event ht (h.outside (idleTimerExpiry_scan p s).tables)
  | symbolGroupReceived p g => exact h.eventMarked ht (h.groupReceived p g s)
  | millisecondTick => exact Host.Outcome.next.inj ht ▸ h.outside (t := { s with time := s.time + 1 }) rfl

end

/-! ### The posting list and the card states (R155, R159, R160) -/

/-- The card lists agree in two states that hold the same ones. -/
theorem cardsOk_of {s t : State} (h : CardsOk s) (hc : t.cards = s.cards) (hp : t.posting = s.posting)
    (hs : t.serving = s.serving) : CardsOk t := by
  unfold CardsOk
  rw [hc, hp, hs]
  exact h

/-- The card lists go over from one state to another in agreement, and the card being served is the same. -/
def CardsHeld (s t : State) : Prop := t.serving = s.serving ∧ (CardsOk s → CardsOk t)

theorem CardsHeld.of {s t : State} (hc : t.cards = s.cards) (hp : t.posting = s.posting) (hs : t.serving = s.serving) :
    CardsHeld s t := ⟨hs, fun h => cardsOk_of h hc hp hs⟩

theorem TablesKept.cardsHeld {s t : State} (h : TablesKept s t) : CardsHeld s t :=
  have ⟨hc, hp, hs⟩ := h.cards
  .of hc hp hs

/-- The small writes of every block leave the card lists as they are. -/
theorem cardsHeld_linkClosed : LinkClosed CardsHeld where
  refl s := .of rfl rfl rfl
  trans h k := ⟨k.1.trans h.1, k.2 ∘ h.2⟩
  write _ _ _ _ _ := .of rfl rfl rfl
  join _ _ _ _ := .of rfl rfl rfl
  gap _ _ := .of rfl rfl rfl
  printers _ _ := .of rfl rfl rfl
  jobs _ _ := .of rfl rfl rfl
  block s b := by
    unfold freeBlock
    split <;> exact .of rfl rfl rfl
  holdings _ _ _ := .of rfl rfl rfl
  hand p f s _ := (hand_tables p f s).cardsHeld
  withdraw _ _ _ _ := .of rfl rfl rfl
  scanners _ _ := .of rfl rfl rfl
  contacts _ _ := .of rfl rfl rfl
  control _ _ h := h.tables.cardsHeld
  unqueue _ _ _ _ _ := .of rfl rfl rfl
  port _ _ _ _ := .of rfl rfl rfl

/-- The card states after the cards of a list have been answered. -/
theorem foldl_answerCard_get (a : Answer) (l : List CardNo) (s : State) (x : CardNo) :
    (l.foldl (fun t c => answerCard c a [] t) s).cards[x] = if x ∈ l then .answered else s.cards[x] := by
  induction l generalizing s with
  | nil => rfl
  | cons c l ih =>
    rw [List.foldl_cons, ih]
    by_cases hx : x ∈ l
    · rw [if_pos hx, if_pos (List.mem_cons_of_mem c hx)]
    · rw [if_neg hx]
      show (put s.cards c .answered)[x.val] = _
      rw [put_get_eq]
      by_cases hc : c = x
      · rw [if_pos hc, if_pos (hc ▸ List.mem_cons_self)]
      · rw [if_neg hc, if_neg (List.not_mem_cons_of_ne_of_not_mem (Ne.symm hc) hx)]
        rfl

/-- Cards answered leave the posting list and the card being served. -/
theorem foldl_answerCard_lists (a : Answer) (l : List CardNo) (s : State) :
    (l.foldl (fun t c => answerCard c a [] t) s).posting = s.posting ∧
      (l.foldl (fun t c => answerCard c a [] t) s).serving = s.serving := by
  refine foldl_inv (P := fun t : State => t.posting = s.posting ∧ t.serving = s.serving) _ (fun _ _ h => ?_) l s ⟨rfl, rfl⟩
  exact h

/-- The POSTED cards of a retired station leave the posting list as they are answered (R11). -/
theorem retireCards_cardsHeld (st : StationNo) (s : State) : CardsHeld s (retireCards st s) := by
  have hlists := foldl_answerCard_lists { outcome := .outOfService } (s.posting.filter fun c => cardStation c = st)
    { s with posting := s.posting.filter fun c => cardStation c ≠ st }
  have hget := foldl_answerCard_get { outcome := .outOfService } (s.posting.filter fun c => cardStation c = st)
    { s with posting := s.posting.filter fun c => cardStation c ≠ st }
  refine ⟨hlists.2, fun ⟨hnodup, hposted, htaken⟩ => ?_⟩
  have hp : (retireCards st s).posting = s.posting.filter fun c => cardStation c ≠ st := hlists.1
  have hs : (retireCards st s).serving = s.serving := hlists.2
  have hc : ∀ x : CardNo, (retireCards st s).cards[x] =
      if x ∈ s.posting.filter (fun c => cardStation c = st) then .answered else s.cards[x] := hget
  refine ⟨hp ▸ hnodup.filter _, fun x => ?_, fun x => ?_⟩
  · rw [hp, hc]
    split
    · rename_i hx
      simp only [List.mem_filter, decide_eq_true_eq] at hx ⊢
      exact iff_of_false (fun h => h.2 hx.2) nofun
    · rename_i hx
      rw [← hposted x]
      simp only [List.mem_filter, decide_eq_true_eq] at hx ⊢
      exact ⟨And.left, fun h => ⟨h, fun hst => hx ⟨h, hst⟩⟩⟩
  · rw [hs, hc, htaken x]
    split
    · rename_i hx
      have hpost := (hposted x).mp (List.mem_of_mem_filter hx)
      exact iff_of_false (fun h => nomatch hpost.symm.trans h) nofun
    · exact .rfl

theorem freezeRing_cardsHeld (st : StationNo) (s : State) : CardsHeld s (freezeRing st s) := .of rfl rfl rfl

/-- A retirement keeps the card lists in agreement (R11). -/
theorem retire_cardsHeld (st : StationNo) (s : State) : CardsHeld s (retire st s) := by
  have closed := cardsHeld_linkClosed
  have cards : CardsHeld s (retireCards st (updStation s st fun r => { r with service := .outOfService })) :=
    closed.trans (t := updStation s st _) (.of rfl rfl rfl) (retireCards_cardsHeld st _)
  rw [retire_eq]
  exact closed.trans cards (closed.trans (closed.retireJobs st _) (closed.trans (closed.holdings _ st fun _ => 0)
    (closed.trans (closed.retireClaims st _) (closed.trans (closed.contacts _ _) (freezeRing_cardsHeld st _)))))

/-- What a served request makes of the state, before its answer, leaves the card lists in agreement. -/
theorem served_cardsHeld (k : RequestKind) (c : CardNo) (s : State) : CardsHeld s (served k c s).state := by
  have closed := cardsHeld_linkClosed
  cases k with
  | reserve => exact closed.reserve (fun _ _ _ _ => .of rfl rfl rfl) c s
  | unreserve => exact closed.unreserve c s
  | submit => exact closed.submit (fun _ _ _ _ => .of rfl rfl rfl) (fun _ _ => .of rfl rfl rfl) c s
  | setPermits => exact closed.setPermits (fun _ _ _ => .of rfl rfl rfl) c s
  | setService => exact closed.setService (fun s st _ => retire_cardsHeld st s) (fun _ _ => .of rfl rfl rfl) c s
  | setQuota => exact closed.setQuota (fun _ _ _ => .of rfl rfl rfl) c s
  | setPrinter => exact closed.setPrinter (fun _ _ => .of rfl rfl rfl) c s
  | setScanner => exact closed.setScanner (fun _ _ => .of rfl rfl rfl) c s
  | setZone => exact closed.setZone (fun _ _ => .of rfl rfl rfl) c s
  | clearZone => exact closed.clearZone (fun _ _ => .of rfl rfl rfl) c s
  | setPort => exact closed.setPort (fun _ _ _ => .of rfl rfl rfl) c s
  | cancelJob | clearPrinter | claim | release | ackPort | quiet | wake => exact closed.served (by decide) c s

/-- The card being served is answered, and the Request Unit is IDLE (R163). -/
theorem answerServed_cardsOk {c : CardNo} {s : State} (h : CardsOk s) (hc : s.serving = some c) (a : Answer)
    (args : List Byte) : CardsOk (answerServed c a args s) := by
  obtain ⟨hnodup, hposted, htaken⟩ := h
  have hget : ∀ x : CardNo, (answerServed c a args s).cards[x] = if c = x then .answered else s.cards[x] :=
    fun x => put_get_eq s.cards c x _
  have hserved : s.cards[c] = .taken := (htaken c).mp hc
  refine ⟨hnodup, fun x => ?_, fun x => ?_⟩
  · rw [hget]
    split
    · rename_i hx
      subst hx
      exact iff_of_false (fun hp => nomatch hserved.symm.trans ((hposted c).mp hp)) nofun
    · exact hposted x
  · rw [hget]
    split
    · exact iff_of_false nofun nofun
    · rename_i hx
      rw [← htaken x, hc]
      exact iff_of_false nofun fun h => hx (Option.some.inj h)

/-- The head card of the posting list is TAKEN while no card is served (R160). -/
theorem takeHead_cardsOk {c : CardNo} {rest : List CardNo} {s : State} (h : CardsOk s) (hp : s.posting = c :: rest)
    (hs : s.serving = none) : CardsOk (takeHead s c rest) := by
  obtain ⟨hnodup, hposted, htaken⟩ := h
  rw [hp] at hnodup hposted
  obtain ⟨hc, hrest⟩ := List.nodup_cons.mp hnodup
  have hget : ∀ x : CardNo, (takeHead s c rest).cards[x] = if c = x then .taken else s.cards[x] :=
    fun x => put_get_eq s.cards c x _
  refine ⟨hrest, fun x => ?_, fun x => ?_⟩
  · rw [hget]
    split
    · rename_i hx
      exact iff_of_false (fun h => hc (hx ▸ h)) nofun
    · rename_i hx
      rw [← hposted x, List.mem_cons]
      exact (or_iff_right (Ne.symm hx)).symm
  · rw [hget]
    show some c = some x ↔ _
    split
    · rename_i hx
      exact iff_of_true (congrArg some hx) rfl
    · rename_i hx
      rw [← htaken x, hs]
      exact iff_of_false (fun h => hx (Option.some.inj h)) nofun

/-- The taking of a card keeps the card lists in agreement (R160, R161). -/
theorem takeCard_cardsOk {s : State} (h : CardsOk s) : CardsOk (takeCard s) := by
  unfold takeCard
  split
  · exact h
  · rename_i c rest hp
    split
    · rename_i hcan
      have hs : s.serving = none := by
        unfold canTake at hcan
        simp only [Bool.and_eq_true, Option.isNone_iff_eq_none] at hcan
        exact hcan.2
      have ht := takeHead_cardsOk h hp hs
      dsimp only
      split
      · exact answerServed_cardsOk ht rfl _ _
      · exact ht
    · exact h

/-- A card posted joins the tail of the posting list; an ANSWERED card emptied stands in no list (R156, R158). -/
theorem writeCardState_cardsOk {s : State} (h : CardsOk s) (c : CardNo) (v : Byte) : CardsOk (writeCardState c v s) := by
  obtain ⟨hnodup, hposted, htaken⟩ := h
  have hput : ∀ (k : CardState) (x : CardNo), (put s.cards c k)[x.val] = if c = x then k else s.cards[x] :=
    fun k x => put_get_eq s.cards c x k
  unfold writeCardState
  split
  · rename_i hopen
    simp only [cardOpen, Bool.and_eq_true, Bool.or_eq_true, decide_eq_true_eq] at hopen
    have hnot : c ∉ s.posting := fun hc => by
      rw [(hposted c).mp hc] at hopen
      simp at hopen
    refine ⟨List.nodup_append.mpr ⟨hnodup, List.nodup_singleton c, ?_⟩, fun x => ?_, fun x => ?_⟩
    · rintro x hx y hy rfl
      exact hnot (List.mem_singleton.mp hy ▸ hx)
    · show x ∈ s.posting ++ [c] ↔ (put s.cards c .posted)[x.val] = .posted
      rw [hput, List.mem_append, List.mem_singleton]
      by_cases hx : c = x
      · rw [if_pos hx]
        exact iff_of_true (.inr hx.symm) rfl
      · rw [if_neg hx]
        exact (or_iff_left (Ne.symm hx)).trans (hposted x)
    · show s.serving = some x ↔ (put s.cards c .posted)[x.val] = .taken
      rw [hput, htaken x]
      split
      · rename_i hx
        subst hx
        exact iff_of_false (fun ht => by rw [ht] at hopen; simp at hopen) nofun
      · exact .rfl
  · split
    · rename_i _ hans
      simp only [Bool.and_eq_true, decide_eq_true_eq] at hans
      refine ⟨hnodup, fun x => ?_, fun x => ?_⟩
      · show x ∈ s.posting ↔ (put s.cards c .empty)[x.val] = .posted
        rw [hput, hposted x]
        split
        · rename_i hx
          subst hx
          exact iff_of_false (fun ht => nomatch hans.1.symm.trans ht) nofun
        · exact .rfl
      · show s.serving = some x ↔ (put s.cards c .empty)[x.val] = .taken
        rw [hput, htaken x]
        split
        · rename_i hx
          subst hx
          exact iff_of_false (fun ht => nomatch hans.1.symm.trans ht) nofun
        · exact .rfl
    · exact ⟨hnodup, hposted, htaken⟩

/-- A host write keeps the card lists in agreement (R151, R156–R158, R178). -/
theorem hostWrite_cardsOk {s : State} (h : CardsOk s) (w : HostWrite) : CardsOk (hostWrite w s) :=
  hostWrite_induction (P := CardsOk) w h
    (fun st v => (cardsHeld_linkClosed.takenMarkWrite (fun _ _ _ => .of rfl rfl rfl) st v s).2 h)
    (fun c v a bs => writeCardState_cardsOk (s := { s with mem := writeBytes s.mem a bs }) h c v) (fun _ _ => h)
    (fun _ => h) (fun _ => h) (controlWrite_induction h (cardsOk_of reset_cardsOk rfl rfl rfl) fun _ ht => ht)

/-- The card lists go over in agreement. -/
def CardsKept (s t : State) : Prop := CardsOk s → CardsOk t

theorem cardsKept_commandKept : CommandKept CardsKept where
  refl _ := id
  before h k hs := k (h.cardsHeld.2 hs)
  after h k hs := k.cardsHeld.2 (h hs)
  pageDone p n s := (cardsHeld_linkClosed.pageDone p n s).2
  credit p n s := (cardsHeld_linkClosed.credit p n s).2
  pageFault p n cause s := (cardsHeld_linkClosed.pageFault p n cause s).2
  ready p s := (cardsHeld_linkClosed.ready p s).2
  paper p low s := (cardsHeld_linkClosed.paper p low s).2
  pageTimerExpiry p s := (cardsHeld_linkClosed.pageTimerExpiry p s).2
  reconnectTimerExpiry p s := (cardsHeld_linkClosed.reconnectTimerExpiry p s).2
  printerLinkLoss p s := (cardsHeld_linkClosed.printerLinkLoss p s).2
  printerArrival p s := (cardsHeld_linkClosed.printerArrival p s).2
  printerReturn p s := (cardsHeld_linkClosed.printerReturn p s).2
  kindChange p s := (cardsHeld_linkClosed.kindChange p s).2
  printersEnterQuiet s := (cardsHeld_linkClosed.printersEnterQuiet s).2
  printersLeaveQuiet s := (cardsHeld_linkClosed.printersLeaveQuiet s).2
  request k c a args s hc h :=
    have hs := served_cardsHeld k c s
    answerServed_cardsOk (hs.2 h) (hs.1.trans hc.1) a args
  hostWrite w _ h := hostWrite_cardsOk h w
  takeCard _ h := takeCard_cardsOk h

/-- Every command keeps the card lists in agreement (R155, R159, R160). -/
theorem exec_cardsKept {i : Instr} {s t : State} (ht : exec i s = .next t) : CardsKept s t := by
  by_cases hi : i = .fullReset
  · subst hi
    cases ht
    exact fun _ => reset_cardsOk
  · exact cardsKept_commandKept.exec ht hi

/-- Settles O8: the small writes of every block keep the free list, and the cards move between the lists by the host, the
taking, the answer and the retirement alone. -/
theorem stepKeepsTheLists : Obligations.StepKeepsTheLists :=
  ⟨fun _ _ hs ht => step_of_exec (R := PoolKept) exec_poolKept (fun _ => id) (fun _ _ => id) (fun h k => k ∘ h) ht hs,
   fun _ _ hs ht => step_of_exec (R := CardsKept) exec_cardsKept (fun _ => id) (fun _ _ => id) (fun h k => k ∘ h) ht hs⟩

end Sys2Proof.Machine
end

section
/-! ## Records given beside other changes, and the end of a job (R14, R51, R170) -/

namespace Sys2Proof.Machine

open Sys2Proof.Safety
open Config

/-! ### Records given in states alike -/

/-- A state with the memory, the delivery states and NOTICE of another. -/
def withRings (s g : State) : State := { s with mem := g.mem, delivery := g.delivery, notice := g.notice }

/-- Two states agree on all that the giving of a record reads (R167–R170). -/
structure RingsAlike (s t : State) : Prop where
  mem : t.mem = s.mem
  delivery : t.delivery = s.delivery
  notice : t.notice = s.notice
  time : t.time = s.time
  service : ∀ st, inService t st = inService s st

theorem RingsAlike.trans {s t u : State} (h : RingsAlike s t) (k : RingsAlike t u) : RingsAlike s u :=
  ⟨k.mem.trans h.mem, k.delivery.trans h.delivery, k.notice.trans h.notice, k.time.trans h.time,
   fun st => (k.service st).trans (h.service st)⟩

/-- A state that agrees with another on its rings has that state's rings. -/
theorem RingsAlike.withRings_eq {s t : State} (h : RingsAlike s t) : withRings t s = t := by
  unfold withRings
  rw [← h.mem, ← h.delivery, ← h.notice]

/-- A record is written alike in states alike. -/
theorem RingsAlike.writeRecord {s t : State} (h : RingsAlike s t) (st : StationNo) (r : Record) :
    Machine.writeRecord st r (stampNow t) t = withRings t (Machine.writeRecord st r (stampNow s) s) := by
  unfold Machine.writeRecord stampNow withRings
  rw [h.mem, h.delivery, h.time]
  dsimp only [raiseNotice]
  rw [h.notice]

theorem RingsAlike.updDelivery {s t : State} (h : RingsAlike s t) (st : StationNo) (f : Delivery → Delivery) :
    Machine.updDelivery t st f = withRings t (Machine.updDelivery s st f) := by
  show { t with delivery := put t.delivery st (f t.delivery[st]) } =
    { t with mem := s.mem, delivery := put s.delivery st (f s.delivery[st]), notice := s.notice }
  rw [h.delivery, ← h.mem, ← h.notice]

theorem RingsAlike.canWrite {s t : State} (h : RingsAlike s t) (st : StationNo) (r : Record) :
    Machine.canWrite t st r = Machine.canWrite s st r := by
  unfold Machine.canWrite ringOpen
  rw [h.service, h.delivery]

/-- A status record is given alike in states alike (R170). -/
theorem RingsAlike.giveStatus {s t : State} (h : RingsAlike s t) (st : StationNo) (r : Record) :
    Machine.giveStatus st r t = withRings t (Machine.giveStatus st r s) := by
  have hopen : ringOpen t st = ringOpen s st := by
    unfold ringOpen
    rw [h.service, h.delivery]
  unfold Machine.giveStatus
  rw [hopen, h.canWrite, h.delivery]
  split
  · exact h.withRings_eq.symm
  · split
    · exact h.writeRecord st r
    · split
      · unfold joinOwed stampNow
        rw [h.time]
        exact h.updDelivery st _
      · exact h.updDelivery st _

/-- A JOB PROGRESS is given alike in states alike (R170). -/
theorem RingsAlike.giveProgress {s t : State} (h : RingsAlike s t) (st : StationNo) (r : Record) :
    Machine.giveProgress st r t = withRings t (Machine.giveProgress st r s) := by
  have hopen : ringOpen t st = ringOpen s st := by
    unfold ringOpen
    rw [h.service, h.delivery]
  unfold Machine.giveProgress
  rw [hopen, h.canWrite]
  split
  · exact h.withRings_eq.symm
  · split
    · exact h.writeRecord st r
    · exact h.updDelivery st _

/-- The giving of a record leaves two states alike. -/
theorem RingsAlike.withRings {s t : State} (h : RingsAlike s t) {g : State} (hg : DeliveryStep s g) :
    RingsAlike g (Machine.withRings t g) := by
  obtain ⟨_, _, _, rfl⟩ := hg
  exact ⟨rfl, rfl, rfl, h.time, h.service⟩

theorem RingsAlike.giveStatusTo {s t : State} (h : RingsAlike s t) (o : Option StationNo) (r : Record) :
    Machine.giveStatusTo o r t = Machine.withRings t (Machine.giveStatusTo o r s) := by
  cases o with
  | none => exact h.withRings_eq.symm
  | some st => exact h.giveStatus st r

/-- Records are given one after the other alike in states alike. -/
theorem RingsAlike.given {s t : State} (h : RingsAlike s t) (rs : List (StationNo × Record)) :
    Safety.given rs t = Machine.withRings t (Safety.given rs s) := by
  induction rs generalizing s t with
  | nil => exact h.withRings_eq.symm
  | cons r rs ih =>
    show Safety.given rs (Machine.giveStatus r.1 r.2 t) = _
    rw [h.giveStatus, ih (h.withRings (giveStatus_frame ..))]
    rfl

/-! ### The end of a job (R51) -/

/-- The record of a job's end (R51). -/
def endedRecord (reason : EndReason) (s : State) (j : JobNo) : Record :=
  .jobEnded j s.jobs[j].port s.jobs[j].serial s.jobs[j].pagesDone s.jobs[j].pageCount
    (if s.jobs[j].cancelPending then s.jobs[j].reason else reason)

/-- The state after a job's end, but for the record given for it: the job has left its place and is FREE, its owner's
holdings have fallen, and its blocks are freed (R51). -/
def endedState (reason : EndReason) (s : State) (j : JobNo) : State :=
  withPool { s with
    printers := put s.printers s.jobs[j].port (leavePlace j s.printers[s.jobs[j].port])
    jobs := put s.jobs j (endedJob reason s.jobs[j])
    stations := (dropHoldings s.jobs[j].owner s.jobs[j].blocks.length s).stations }
    (freedPool s.jobs[j].blocks (poolOf s))

theorem endedState_alike (reason : EndReason) (s : State) (j : JobNo) : RingsAlike s (endedState reason s j) :=
  ⟨rfl, rfl, rfl, rfl, fun st =>
    (inService_eq (s := dropHoldings s.jobs[j].owner s.jobs[j].blocks.length s) rfl).trans (dropHoldings_inService ..)⟩

/-- A job's end in one piece: what it does to the tables, and the record given to the owner (R51). -/
theorem endJob_eq (reason : EndReason) (s : State) (j : JobNo) : endJob reason s j =
    withRings (endedState reason s j) (giveStatusTo s.jobs[j].owner (endedRecord reason s j) s) := by
  have hjob : ∀ u : State, u.jobs = s.jobs → updJob (updJob u j fun r =>
        { r with state := .ended, reason := if s.jobs[j].cancelPending = true then s.jobs[j].reason else reason }) j
        (fun r => { r with state := .free }) = { u with jobs := put s.jobs j (endedJob reason s.jobs[j]) } := by
    intro u hu
    rw [updJob_updJob]
    unfold updJob
    rw [hu]
    rfl
  have alike : ∀ u : State, u.mem = s.mem → u.delivery = s.delivery → u.notice = s.notice → u.time = s.time →
      u.stations = (dropHoldings s.jobs[j].owner s.jobs[j].blocks.length s).stations → RingsAlike s u :=
    fun u hm hd hn ht hs => ⟨hm, hd, hn, ht, fun st =>
      (inService_eq (s := dropHoldings s.jobs[j].owner s.jobs[j].blocks.length s) (by rw [hs])).trans
        (dropHoldings_inService ..)⟩
  unfold endJob
  dsimp only
  rw [freeBlocks_eq, dropHoldings_eq (s := s) (by rfl), (alike _ (by rfl) (by rfl) (by rfl) (by rfl) (by rfl)).giveStatusTo]
  exact hjob (withRings (withPool { s with
    printers := put s.printers s.jobs[j].port (leavePlace j s.printers[s.jobs[j].port])
    stations := (dropHoldings s.jobs[j].owner s.jobs[j].blocks.length s).stations }
    (freedPool s.jobs[j].blocks (poolOf s))) (giveStatusTo s.jobs[j].owner (endedRecord reason s j) s)) rfl

theorem endJob_jobs (reason : EndReason) (s : State) (j : JobNo) :
    (endJob reason s j).jobs = put s.jobs j (endedJob reason s.jobs[j]) := by rw [endJob_eq]; rfl

theorem endJob_printers (reason : EndReason) (s : State) (j : JobNo) : (endJob reason s j).printers =
    put s.printers s.jobs[j].port (leavePlace j s.printers[s.jobs[j].port]) := by rw [endJob_eq]; rfl

theorem endJob_pool (reason : EndReason) (s : State) (j : JobNo) :
    poolOf (endJob reason s j) = freedPool s.jobs[j].blocks (poolOf s) := by rw [endJob_eq]; rfl

theorem endJob_job (reason : EndReason) (s : State) (j : JobNo) :
    (endJob reason s j).jobs[j] = endedJob reason s.jobs[j] := by
  rw [endJob_jobs]
  exact put_get ..

theorem endJob_job_ne (reason : EndReason) (s : State) {j k : JobNo} (h : k ≠ j) :
    (endJob reason s j).jobs[k] = s.jobs[k] := by
  rw [endJob_jobs]
  exact put_get_ne _ _ _ _ h.symm

theorem endJob_printer (reason : EndReason) (s : State) (j : JobNo) (p : PortNo) : (endJob reason s j).printers[p] =
    if s.jobs[j].port = p then leavePlace j s.printers[p] else s.printers[p] := by
  rw [endJob_printers, Fin.getElem_fin, put_get_eq]
  split
  · subst_vars
    rfl
  · rfl

/-- The jobs that end one after the other are FREE, and no other job record has changed (R52). -/
theorem foldl_endJob_jobs (reason : EndReason) (l : List JobNo) (hl : l.Nodup) (s : State) (k : JobNo) :
    (l.foldl (endJob reason) s).jobs[k] = if k ∈ l then endedJob reason s.jobs[k] else s.jobs[k] := by
  induction l generalizing s with
  | nil => rfl
  | cons j l ih =>
    obtain ⟨hj, hl⟩ := List.nodup_cons.mp hl
    rw [List.foldl_cons, ih hl]
    by_cases hk : k = j
    · subst hk
      rw [if_neg hj, if_pos List.mem_cons_self, endJob_job]
    · rw [endJob_job_ne _ _ hk]
      simp only [List.mem_cons, hk, false_or]

end Sys2Proof.Machine
end

section
/-! ## Jobs in their places (R18, R26, R32, R42, R55, R63, R65) -/

namespace Sys2Proof.Machine

open Sys2Proof.Safety
open Config

/-! ### One printer and its jobs -/

/-- A job in a state stands in the place of a printer record that the state names (R32, R42). -/
def StandsAt (r : Printer) (j : JobNo) : JobState → Prop
  | .free => True
  | .waiting => j ∈ r.queue
  | .printing => r.current = some j
  | .suspended => r.suspended = some j
  | .ended => False

/-- The places of a port's printer record hold jobs of the port in the states they name (R32, R42, R63, R65). -/
def PlacesOk (s : State) (p : PortNo) : Prop :=
  (∀ j ∈ s.printers[p].queue, s.jobs[j].state = .waiting ∧ s.jobs[j].port = p) ∧
  (∀ j, s.printers[p].current = some j → s.jobs[j].state = .printing ∧ s.jobs[j].port = p) ∧
  (∀ j, s.printers[p].suspended = some j → s.jobs[j].state = .suspended ∧ s.jobs[j].port = p) ∧
  s.printers[p].queue.Nodup ∧
  (s.printers[p].suspendPending = true → s.printers[p].current ≠ none ∧ s.printers[p].suspended = none) ∧
  (s.printers[p].state = .idle → s.printers[p].current = none)

theorem jobsOk_iff (s : State) :
    JobsOk s ↔ (∀ (j : JobNo) (p : PortNo), s.jobs[j].port = p → StandsAt s.printers[p] j s.jobs[j].state) ∧
      ∀ p, PlacesOk s p := by
  have hstands : ∀ j : JobNo, (∀ p : PortNo, s.jobs[j].port = p → StandsAt s.printers[p] j s.jobs[j].state) ↔
      match s.jobs[j].state with
      | .free => True
      | .waiting => j ∈ s.printers[s.jobs[j].port].queue
      | .printing => s.printers[s.jobs[j].port].current = some j
      | .suspended => s.printers[s.jobs[j].port].suspended = some j
      | .ended => False := fun j => by
    rw [forall_eq']
    cases s.jobs[j].state <;> exact .rfl
  simp only [hstands]
  exact .rfl

/-- A change at one port, of its printer record and of jobs that are its own or were FREE, keeps every job in place when
what it leaves at the port is in order. -/
theorem jobsOk_at {s t : State} (h : JobsOk s) (p : PortNo) (hprinters : ∀ q, q ≠ p → t.printers[q] = s.printers[q])
    (hjobs : ∀ j : JobNo, (t.jobs[j].state = s.jobs[j].state ∧ t.jobs[j].port = s.jobs[j].port) ∨
      (s.jobs[j].state = .free ∨ s.jobs[j].port = p) ∧ t.jobs[j].port = p)
    (hstands : ∀ j : JobNo, t.jobs[j].port = p → StandsAt t.printers[p] j t.jobs[j].state) (hplaces : PlacesOk t p) :
    JobsOk t := by
  obtain ⟨hs, hp⟩ := (jobsOk_iff s).mp h
  refine (jobsOk_iff t).mpr ⟨fun j q hj => ?_, fun q => ?_⟩
  · by_cases hq : q = p
    · subst hq
      exact hstands j hj
    · obtain ⟨hstate, hport⟩ := (hjobs j).resolve_right fun h => hq (hj.symm.trans h.2)
      rw [hprinters q hq, hstate]
      exact hs j q (hport.symm.trans hj)
  · by_cases hq : q = p
    · exact hq ▸ hplaces
    · have same : ∀ j : JobNo, s.jobs[j].state ≠ .free → s.jobs[j].port = q →
          t.jobs[j].state = s.jobs[j].state ∧ t.jobs[j].port = s.jobs[j].port :=
        fun j hstate hport => (hjobs j).resolve_right fun h => h.1.elim hstate fun h => hq (hport ▸ h)
      obtain ⟨hqueue, hcurrent, hsuspended, hrest⟩ := hp q
      unfold PlacesOk
      rw [hprinters q hq]
      have keep : ∀ (j : JobNo) (x : JobState), x ≠ .free → s.jobs[j].state = x ∧ s.jobs[j].port = q →
          t.jobs[j].state = x ∧ t.jobs[j].port = q := fun j x hx ⟨h1, h2⟩ => by
        obtain ⟨e1, e2⟩ := same j (h1.trans_ne hx) h2
        exact ⟨e1.trans h1, e2.trans h2⟩
      exact ⟨fun j hj => keep j _ nofun (hqueue j hj), fun j hj => keep j _ nofun (hcurrent j hj),
        fun j hj => keep j _ nofun (hsuspended j hj), hrest⟩

/-! ### Jobs in place, with their blocks and the printer records where these are asked for -/

/-- Every job is in place; its blocks are committed to it, where `b` holds, and the printer records are in order, where `c`
does. -/
structure Placed (b c : Prop) (s : State) : Prop where
  jobs : JobsOk s
  blocks : b → BlocksOk s
  printers : c → PrintersOk s

/-- Jobs are in place where the jobs, the printers and the block states are the same. -/
theorem Placed.of_same {b c : Prop} {s t : State} (h : Placed b c s) (hj : t.jobs = s.jobs)
    (hp : t.printers = s.printers) (hb : t.blocks = s.blocks) : Placed b c t := by
  obtain ⟨h1, h2, h3⟩ := h
  refine ⟨?_, ?_, ?_⟩
  · rw [jobsOk_iff] at h1 ⊢
    unfold PlacesOk at h1 ⊢
    rw [hj, hp]
    exact h1
  · unfold BlocksOk
    rw [hj, hb]
    exact h2
  · unfold PrintersOk
    rw [hp]
    exact h3

theorem TablesKept.blocks {s t : State} (h : TablesKept s t) : t.blocks = s.blocks := congrArg Prod.fst h.pool

theorem Placed.tables {b c : Prop} {s t : State} (h : Placed b c s) (ht : TablesKept s t) : Placed b c t :=
  h.of_same ht.jobs ht.printers ht.blocks

/-- Blocks stay committed where no live job has appeared or changed its list, and the block states of live jobs' blocks are
the same. -/
theorem blocksOk_of {s t : State} (h : BlocksOk s)
    (hjobs : ∀ j : JobNo, t.jobs[j].state ≠ .free → s.jobs[j].state ≠ .free ∧ t.jobs[j].blocks = s.jobs[j].blocks)
    (hblocks : ∀ j : JobNo, t.jobs[j].state ≠ .free → ∀ x ∈ s.jobs[j].blocks, t.blocks[x] = s.blocks[x]) :
    BlocksOk t := by
  intro j hj
  obtain ⟨hlive, heq⟩ := hjobs j hj
  obtain ⟨hnodup, hcommitted⟩ := h j hlive
  rw [heq]
  exact ⟨hnodup, fun x hx => (hblocks j hj x hx).trans (hcommitted x hx)⟩

/-- A printer record with the places as they were: a flag is raised over them only where R65 allows it, and the record is
IDLE only if it was or has no current job. -/
structure SamePlaces (r r' : Printer) : Prop where
  current : r'.current = r.current
  suspended : r'.suspended = r.suspended
  queue : r'.queue = r.queue
  pending : r'.suspendPending = true → r.suspendPending = true ∨ r.current ≠ none ∧ r.suspended = none
  idle : r'.state = .idle → r.state = .idle ∨ r.current = none
  ok : PrinterOk r → PrinterOk r'

theorem SamePlaces.placesOk {s t : State} {p : PortNo} (h : PlacesOk s p) (hr : SamePlaces s.printers[p] t.printers[p])
    (hjobs : t.jobs = s.jobs) : PlacesOk t p := by
  obtain ⟨hqueue, hcurrent, hsuspended, hnodup, hpending, hidle⟩ := h
  unfold PlacesOk
  rw [hr.current, hr.suspended, hr.queue, hjobs]
  exact ⟨hqueue, hcurrent, hsuspended, hnodup, fun h => (hr.pending h).elim hpending id, fun h => (hr.idle h).elim hidle id⟩

theorem StandsAt.samePlaces {r r' : Printer} {j : JobNo} {x : JobState} (h : StandsAt r j x) (hr : SamePlaces r r') :
    StandsAt r' j x := by
  cases x with
  | free => trivial
  | waiting =>
    show j ∈ r'.queue
    rw [hr.queue]
    exact h
  | printing => exact hr.current.trans h
  | suspended => exact hr.suspended.trans h
  | ended => exact h

/-- Printer records changed with their places as they were keep every job in place. -/
theorem Placed.samePlaces {b c : Prop} {s : State} (h : Placed b c s) {v : Vector Printer 8}
    (hv : ∀ p : PortNo, SamePlaces s.printers[p] v[p]) : Placed b c { s with printers := v } := by
  obtain ⟨hs, hp⟩ := (jobsOk_iff s).mp h.jobs
  refine ⟨(jobsOk_iff _).mpr ⟨fun j p hj => (hs j p hj).samePlaces (hv p), fun p => ?_⟩, h.blocks, fun hc p => ?_⟩
  · exact SamePlaces.placesOk (hp p) (hv p) rfl
  · exact (hv p).ok (h.printers hc p)

theorem SamePlaces.refl (r : Printer) : SamePlaces r r := ⟨rfl, rfl, rfl, .inl, .inl, id⟩

theorem Placed.updPrinter {b c : Prop} {s : State} (h : Placed b c s) (p : PortNo) {f : Printer → Printer}
    (hf : SamePlaces s.printers[p] (f s.printers[p])) : Placed b c (updPrinter s p f) := by
  refine h.samePlaces fun q => ?_
  show SamePlaces s.printers[q] (put s.printers p (f s.printers[p]))[q.val]
  rw [put_get_eq]
  split
  · subst_vars
    exact hf
  · exact .refl _

/-- A job record changed in what is not its state, port or block list. -/
theorem Placed.updJob {b c : Prop} {s : State} (h : Placed b c s) (j : JobNo) {f : Job → Job}
    (hstate : ∀ r, (f r).state = r.state) (hport : ∀ r, (f r).port = r.port) (hblocks : ∀ r, (f r).blocks = r.blocks) :
    Placed b c (updJob s j f) := by
  have same : ∀ k : JobNo, (Machine.updJob s j f).jobs[k].state = s.jobs[k].state ∧
      (Machine.updJob s j f).jobs[k].port = s.jobs[k].port ∧ (Machine.updJob s j f).jobs[k].blocks = s.jobs[k].blocks :=
    fun k => ⟨put_field Job.state s.jobs j _ (hstate _) k, put_field Job.port s.jobs j _ (hport _) k,
      put_field Job.blocks s.jobs j _ (hblocks _) k⟩
  refine ⟨?_, fun hb => ?_, h.printers⟩
  · obtain ⟨hs, hp⟩ := (jobsOk_iff s).mp h.jobs
    refine (jobsOk_iff _).mpr ⟨fun k p hk => ?_, fun p => ?_⟩
    · rw [(same k).1]
      exact hs k p ((same k).2.1.symm.trans hk)
    · unfold PlacesOk
      simp only [(same _).1, (same _).2.1]
      exact hp p
  · refine blocksOk_of (h.blocks hb) (fun k hk => ⟨fun h0 => hk ((same k).1.trans h0), (same k).2.2⟩) fun _ _ _ _ => rfl

/-! ### The page engine (R58–R60) -/

/-- Items of a record changed that are not its places, its flag, its state or its page. -/
theorem samePlaces_of {r r' : Printer} (h1 : r'.current = r.current) (h2 : r'.suspended = r.suspended)
    (h3 : r'.queue = r.queue) (h4 : r'.suspendPending = true → r.suspendPending = true)
    (h5 : r'.state = .idle → r.state = .idle) (h6 : r'.state = .absent → r.state = .absent)
    (h7 : r.page = none → r'.page = none ∧ (r.pageTimer = none → r'.pageTimer = none)) (h8 : r.reconnect = none → r'.reconnect = none)
    (h9 : r.hold = none → r'.hold = none) : SamePlaces r r' := by
  refine ⟨h1, h2, h3, fun h => .inl (h4 h), fun h => .inl (h5 h), fun ⟨hlen, habsent⟩ => ⟨h3 ▸ hlen, fun h => ?_⟩⟩
  obtain ⟨hc, hs, hq, hp, hf, ht, hr, hh⟩ := habsent (h6 h)
  refine ⟨h1.trans hc, h2.trans hs, h3.trans hq, (h7 hp).1, ?_, (h7 hp).2 ht, h8 hr, h9 hh⟩
  cases hf' : r'.suspendPending with
  | false => rfl
  | true => exact absurd (h4 hf') (by rw [hf]; decide)

/-- A record that is not ABSENT afterwards keeps its order with its places. -/
theorem samePlaces_served {r r' : Printer} (h1 : r'.current = r.current) (h2 : r'.suspended = r.suspended)
    (h3 : r'.queue = r.queue) (h4 : r'.suspendPending = true → r.suspendPending = true)
    (h5 : r'.state = .idle → r.state = .idle ∨ r.current = none) (h6 : r'.state ≠ .absent) : SamePlaces r r' :=
  ⟨h1, h2, h3, fun h => .inl (h4 h), h5, fun ⟨hlen, _⟩ => ⟨h3 ▸ hlen, fun h => absurd h h6⟩⟩

/-- A record with a current job keeps its order where only its state's items change, and an ABSENT record has none. -/
theorem samePlaces_current {r r' : Printer} {j : JobNo} (h0 : r.current = some j) (h1 : r'.current = r.current)
    (h2 : r'.suspended = r.suspended) (h3 : r'.queue = r.queue) (h4 : r'.suspendPending = r.suspendPending)
    (h5 : r'.state = r.state) : SamePlaces r r' :=
  ⟨h1, h2, h3, fun h => .inl (h4 ▸ h), fun h => .inl (h5 ▸ h), fun ⟨hlen, habsent⟩ => ⟨h3 ▸ hlen, fun h =>
    nomatch h0.symm.trans (habsent (h5 ▸ h)).1⟩⟩

section
variable {b c : Prop} {s : State}

theorem Placed.hand (h : Placed b c s) (p : PortNo) (f : OutFrame) : Placed b c (hand p f s) :=
  h.tables (hand_tables p f s)

theorem Placed.sendData (h : Placed b c s) (p : PortNo) : Placed b c (sendData p s) := by
  unfold Machine.sendData
  dsimp only
  split
  · rename_i hcurrent _
    split
    · exact (h.updPrinter p (samePlaces_current hcurrent rfl rfl rfl rfl rfl)).hand p _
    · exact h
  · exact h

theorem Placed.sendDataTimes (h : Placed b c s) (p : PortNo) (n : Nat) : Placed b c (sendDataTimes p n s) := by
  induction n generalizing s with
  | zero => exact h
  | succ n ih => exact ih (h.sendData p)

theorem Placed.closePage (h : Placed b c s) (p : PortNo) : Placed b c (closePage p s) := by
  unfold Machine.closePage
  dsimp only
  split
  · rename_i hcurrent _
    split
    · exact h
    · exact (h.updPrinter p (samePlaces_current hcurrent rfl rfl rfl rfl rfl)).hand p _
  · exact h

theorem Placed.feedPage (h : Placed b c s) (p : PortNo) : Placed b c (feedPage p s) :=
  (h.sendDataTimes p _).closePage p

theorem Placed.openPage (h : Placed b c s) (p : PortNo) : Placed b c (openPage p s) := by
  unfold Machine.openPage
  split
  · exact h
  · rename_i hcurrent
    exact ((h.updPrinter p (samePlaces_current hcurrent rfl rfl rfl rfl rfl)).hand p _).feedPage p

/-! ### A printer's choice (R63) -/

/-- A candidate comes from the queue or the suspended slot (R63). -/
theorem candidate?_placed {r : Printer} {j : JobNo} (h : candidate? s r = some j) : j ∈ r.queue ∨ r.suspended = some j := by
  rw [candidate?_eq_nextJob?] at h
  exact nextJob?_placed h

theorem leavePlace_ok {r : Printer} (h : PrinterOk r) (j : JobNo) : PrinterOk (leavePlace j r) := by
  obtain ⟨hlen, habsent⟩ := h
  refine ⟨(List.length_filter_le ..).trans hlen, fun h => ?_⟩
  obtain ⟨hc, hs, hq, hp, hf, hrest⟩ := habsent h
  unfold leavePlace
  dsimp only
  rw [hc, hs, hq]
  exact ⟨rfl, rfl, rfl, hp, hf, hrest⟩

/-- A printer without a current job takes a waiting or suspended job of its own as its current one (R63). -/
theorem Placed.takeCurrent (h : Placed b c s) {p : PortNo} {j : JobNo} {x : PrinterState}
    (hcurrent : s.printers[p].current = none) (hj : j ∈ s.printers[p].queue ∨ s.printers[p].suspended = some j)
    (hx : x ≠ .idle ∧ x ≠ .absent) :
    Placed b c (Machine.updPrinter (makeCurrent p j s) p fun r => { r with state := x }) := by
  obtain ⟨hstands, hplaces⟩ := (jobsOk_iff s).mp h.jobs
  obtain ⟨hqueue, _, hsuspended, hnodup, hpending, _⟩ := hplaces p
  have hlive : s.jobs[j].state ≠ .free ∧ s.jobs[j].port = p := by
    rcases hj with hj | hj
    · exact ⟨(hqueue j hj).1.trans_ne nofun, (hqueue j hj).2⟩
    · exact ⟨(hsuspended j hj).1.trans_ne nofun, (hsuspended j hj).2⟩
  generalize ht : (Machine.updPrinter (makeCurrent p j s) p fun r => { r with state := x }) = t
  have hprinter : t.printers[p] = { s.printers[p] with
      state := x, current := some j, queue := s.printers[p].queue.filter (· ≠ j)
      suspended := if s.printers[p].suspended = some j then none else s.printers[p].suspended } := by
    subst ht
    simp only [makeCurrent, Machine.updPrinter, Machine.updJob, put_put, Fin.getElem_fin, put_get]
  have hother : ∀ q, q ≠ p → t.printers[q] = s.printers[q] := fun q hq => by
    subst ht
    simp only [makeCurrent, Machine.updPrinter, Machine.updJob, put_put, Fin.getElem_fin, put_get_ne _ _ _ _ hq.symm]
  have hjob : ∀ k, t.jobs[k] = if j = k then { s.jobs[k] with state := .printing } else s.jobs[k] := fun k => by
    subst ht
    show (put s.jobs j { s.jobs[j] with state := .printing })[k.val] = _
    rw [put_get_eq]
    split
    · subst_vars; rfl
    · rfl
  have hne : ∀ k, j ≠ k → t.jobs[k] = s.jobs[k] := fun k hk => (hjob k).trans (if_neg hk)
  have hself : t.jobs[j] = { s.jobs[j] with state := .printing } := (hjob j).trans (if_pos rfl)
  refine ⟨jobsOk_at h.jobs p hother (fun k => ?_) (fun k hk => ?_) ⟨?_, ?_, ?_, ?_, ?_, ?_⟩, fun hb => ?_, fun hc q => ?_⟩
  · by_cases hk : j = k
    · subst hk
      rw [hself]
      exact .inr ⟨.inr hlive.2, hlive.2⟩
    · rw [hne k hk]
      exact .inl ⟨rfl, rfl⟩
  · by_cases hjk : j = k
    · subst hjk
      rw [hself, hprinter]
      rfl
    · rw [hne k hjk] at hk ⊢
      have hs := hstands k p hk
      rw [hprinter]
      cases hst : s.jobs[k].state with
      | free => trivial
      | waiting =>
        rw [hst] at hs
        exact List.mem_filter.mpr ⟨hs, decide_eq_true (Ne.symm hjk)⟩
      | printing =>
        rw [hst] at hs
        exact nomatch hcurrent.symm.trans hs
      | suspended =>
        rw [hst] at hs
        have hs : s.printers[p].suspended = some k := hs
        show (if s.printers[p].suspended = some j then none else s.printers[p].suspended) = some k
        rw [hs, if_neg fun h => hjk (Option.some.inj h).symm]
      | ended =>
        rw [hst] at hs
        exact hs
  · rw [hprinter]
    intro k hk
    obtain ⟨hk, hkj⟩ := List.mem_filter.mp hk
    rw [hne k (Ne.symm (of_decide_eq_true hkj))]
    exact hqueue k hk
  · rw [hprinter]
    intro k hk
    cases hk
    rw [hself]
    exact ⟨rfl, hlive.2⟩
  · rw [hprinter]
    dsimp only
    intro k hk
    split_ifs at hk with hs
    rw [hne k fun h => hs (h ▸ hk)]
    exact hsuspended k hk
  · rw [hprinter]
    exact hnodup.filter _
  · rw [hprinter]
    exact fun hf => absurd hcurrent (hpending hf).1
  · rw [hprinter]
    exact fun hf => absurd hf hx.1
  · refine blocksOk_of (h.blocks hb) (fun k hk => ?_) fun k _ x _ => by subst ht; rfl
    by_cases hjk : j = k
    · subst hjk
      exact ⟨hlive.1, by rw [hself]⟩
    · rw [hne k hjk] at hk ⊢
      exact ⟨hk, rfl⟩
  · by_cases hq : q = p
    · subst hq
      rw [hprinter]
      exact ⟨(List.length_filter_le ..).trans (h.printers hc q).1, fun hf => absurd hf hx.2⟩
    · rw [hother q hq]
      exact h.printers hc q

/-- A printer without a current job chooses, and every job stays in place (R63). -/
theorem Placed.choose (h : Placed b c s) {p : PortNo} (hcurrent : s.printers[p].current = none) :
    Placed b c (choose p s) := by
  unfold Machine.choose
  split
  · rename_i hj _
    exact (h.takeCurrent (x := .sending) hcurrent (candidate?_placed hj) ⟨nofun, nofun⟩).openPage p
  · rename_i hj _
    exact h.takeCurrent (x := .quiesced) hcurrent (candidate?_placed hj) ⟨nofun, nofun⟩
  · exact h.updPrinter p (samePlaces_served rfl rfl rfl id (fun _ => .inr hcurrent) nofun)
  · exact h.updPrinter p (samePlaces_served rfl rfl rfl id nofun nofun)

theorem Placed.leaveHeld (h : Placed b c s) {p : PortNo} (hcurrent : s.printers[p].current = none) :
    Placed b c (leaveHeld p s) := by
  unfold Machine.leaveHeld
  refine (h.updPrinter p (samePlaces_of rfl rfl rfl id id id (fun h => ⟨h, id⟩) id fun _ => rfl)).choose ?_
  show (put s.printers p { s.printers[p] with hold := none })[p.val].current = none
  rw [put_get]
  exact hcurrent

end

end Sys2Proof.Machine
end

section
/-! ## Jobs in their places at every event of the Print Scheduler -/

namespace Sys2Proof.Machine

open Sys2Proof.Safety
open Config

section
variable {b c : Prop} {s : State}

/-! ### Ends of jobs (R51, R52) -/

/-- A job that leaves a printer record leaves every other job where it stands (R51). -/
theorem StandsAt.leavePlace {r : Printer} {j k : JobNo} {x : JobState} (h : StandsAt r k x) (hk : k ≠ j) :
    StandsAt (leavePlace j r) k x := by
  have hne : some k ≠ some j := fun h => hk (Option.some.inj h)
  cases x with
  | free => trivial
  | waiting => exact List.mem_filter.mpr ⟨h, decide_eq_true hk⟩
  | printing =>
    have h : r.current = some k := h
    show (if r.current = some j then none else r.current) = some k
    rw [h, if_neg hne]
  | suspended =>
    have h : r.suspended = some k := h
    show (if r.suspended = some j then none else r.suspended) = some k
    rw [h, if_neg hne]
  | ended => exact h

/-- A live job's end leaves every other job in its place, with its blocks (R18, R51). -/
theorem Placed.endJob (h : Placed b c s) (reason : EndReason) {j : JobNo} (hj : s.jobs[j].state ≠ .free) :
    Placed b c (endJob reason s j) := by
  obtain ⟨hstands, hplaces⟩ := (jobsOk_iff s).mp h.jobs
  generalize hp : s.jobs[j].port = p
  have hprinter : (Machine.endJob reason s j).printers[p] = leavePlace j s.printers[p] := by
    rw [endJob_printer, if_pos hp]
  have hother : ∀ q, q ≠ p → (Machine.endJob reason s j).printers[q] = s.printers[q] := fun q hq => by
    rw [endJob_printer, if_neg fun h => hq (h.symm.trans hp)]
  have hself : (Machine.endJob reason s j).jobs[j] = endedJob reason s.jobs[j] := endJob_job ..
  have hne : ∀ k, k ≠ j → (Machine.endJob reason s j).jobs[k] = s.jobs[k] := fun k hk => endJob_job_ne _ _ hk
  have hdead : ∀ k, (Machine.endJob reason s j).jobs[k].state ≠ .free → k ≠ j := fun k hk hkj =>
    hk (by rw [hkj, hself]; rfl)
  obtain ⟨hqueue, hcurrent, hsuspended, hnodup, hpending, hidle⟩ := hplaces p
  refine ⟨jobsOk_at h.jobs p hother (fun k => ?_) (fun k hk => ?_) ?_, fun hb => ?_, fun hc q => ?_⟩
  · by_cases hk : k = j
    · rw [hk, hself]
      exact .inr ⟨.inr hp, hp⟩
    · rw [hne k hk]
      exact .inl ⟨rfl, rfl⟩
  · by_cases hkj : k = j
    · rw [hkj, hself]
      trivial
    · rw [hne k hkj] at hk ⊢
      rw [hprinter]
      exact (hstands k p hk).leavePlace hkj
  · unfold PlacesOk
    rw [hprinter]
    refine ⟨fun k hk => ?_, fun k hk => ?_, fun k hk => ?_, hnodup.filter _, fun hf => ?_, fun hi => ?_⟩
    · obtain ⟨hk, hkj⟩ := List.mem_filter.mp hk
      rw [hne k (of_decide_eq_true hkj)]
      exact hqueue k hk
    · have hk : (if s.printers[p].current = some j then none else s.printers[p].current) = some k := hk
      split_ifs at hk with hs
      rw [hne k fun h => hs (h ▸ hk)]
      exact hcurrent k hk
    · have hk : (if s.printers[p].suspended = some j then none else s.printers[p].suspended) = some k := hk
      split_ifs at hk with hs
      rw [hne k fun h => hs (h ▸ hk)]
      exact hsuspended k hk
    · have hf : (if s.printers[p].current = some j then false else s.printers[p].suspendPending) = true := hf
      show (if s.printers[p].current = some j then none else s.printers[p].current) ≠ none ∧
        (if s.printers[p].suspended = some j then none else s.printers[p].suspended) = none
      split_ifs at hf ⊢
      · exact ⟨(hpending hf).1, rfl⟩
      · exact hpending hf
    · show (if s.printers[p].current = some j then none else s.printers[p].current) = none
      rw [hidle hi]
      exact if_neg nofun
  · have hblocks := h.blocks hb
    refine blocksOk_of hblocks (fun k hk => ?_) fun k hk x hx => ?_
    · have hkj := hdead k hk
      rw [hne k hkj] at hk ⊢
      exact ⟨hk, rfl⟩
    · have hkj := hdead k hk
      rw [hne k hkj] at hk
      have hfreed : (Machine.endJob reason s j).blocks[x] = (freedPool s.jobs[j].blocks (poolOf s)).1[x] := by
        rw [← endJob_pool]
        rfl
      rw [hfreed, freedPool_get, if_neg]
      · rfl
      · intro hxj
        have := ((hblocks k hk).2 x hx).symm.trans ((hblocks j hj).2 x hxj)
        exact hkj (BlockState.committed.inj this)
  · by_cases hq : q = p
    · subst hq
      rw [hprinter]
      exact leavePlace_ok (h.printers hc q) j
    · rw [hother q hq]
      exact h.printers hc q

/-- A printer whose current job has ended has none. -/
theorem endJob_current_none {reason : EndReason} {p : PortNo} {j : JobNo} (hp : s.jobs[j].port = p)
    (hj : s.printers[p].current = some j) : (endJob reason s j).printers[p].current = none := by
  rw [endJob_printer, if_pos hp]
  exact if_pos hj

/-- Live jobs that end one after the other leave every other job in its place (R52). -/
theorem Placed.endJobs (h : Placed b c s) (reason : EndReason) {l : List JobNo} (hl : l.Nodup)
    (hlive : ∀ j ∈ l, s.jobs[j].state ≠ .free) : Placed b c (l.foldl (Machine.endJob reason) s) := by
  induction l generalizing s with
  | nil => exact h
  | cons j l ih =>
    obtain ⟨hj, hl⟩ := List.nodup_cons.mp hl
    refine ih (h.endJob reason (hlive j List.mem_cons_self)) hl fun k hk => ?_
    have hne : k ≠ j := ne_of_mem_of_not_mem hk hj
    rw [endJob_job_ne _ _ hne]
    exact hlive k (List.mem_cons_of_mem j hk)

/-- The jobs that stand at a printer, each once, are the live jobs of its port (R32, R52). -/
theorem mem_printerJobs (h : JobsOk s) (p : PortNo) (j : JobNo) :
    j ∈ printerJobs s.printers[p] ↔ s.jobs[j].state ≠ .free ∧ s.jobs[j].port = p := by
  obtain ⟨hstands, hplaces⟩ := (jobsOk_iff s).mp h
  obtain ⟨hqueue, hcurrent, hsuspended, _⟩ := hplaces p
  unfold printerJobs
  rw [List.mem_append, List.mem_append, Option.mem_toList, Option.mem_toList]
  constructor
  · rintro ((hj | hj) | hj)
    · exact ⟨(hcurrent j hj).1.trans_ne nofun, (hcurrent j hj).2⟩
    · exact ⟨(hsuspended j hj).1.trans_ne nofun, (hsuspended j hj).2⟩
    · exact ⟨(hqueue j hj).1.trans_ne nofun, (hqueue j hj).2⟩
  · rintro ⟨hlive, hport⟩
    have hs := hstands j p hport
    cases hst : s.jobs[j].state with
    | free => exact absurd hst hlive
    | waiting => rw [hst] at hs; exact .inr hs
    | printing => rw [hst] at hs; exact .inl (.inl hs)
    | suspended => rw [hst] at hs; exact .inl (.inr hs)
    | ended => rw [hst] at hs; exact hs.elim

theorem printerJobs_nodup (h : JobsOk s) (p : PortNo) : (printerJobs s.printers[p]).Nodup := by
  obtain ⟨_, hplaces⟩ := (jobsOk_iff s).mp h
  obtain ⟨hqueue, hcurrent, hsuspended, hnodup, _⟩ := hplaces p
  unfold printerJobs
  have hone : ∀ o : Option JobNo, o.toList.Nodup := fun o => by
    cases o with
    | none => exact List.nodup_nil
    | some j => exact List.nodup_singleton j
  refine List.nodup_append.mpr ⟨List.nodup_append.mpr ⟨hone _, hone _, ?_⟩, hnodup, ?_⟩
  · rintro x hx y hy rfl
    exact nomatch (hcurrent x (Option.mem_toList.mp hx)).1.symm.trans (hsuspended x (Option.mem_toList.mp hy)).1
  · rintro x hx y hy rfl
    rcases List.mem_append.mp hx with hx | hx
    · exact nomatch (hcurrent x (Option.mem_toList.mp hx)).1.symm.trans (hqueue x hy).1
    · exact nomatch (hsuspended x (Option.mem_toList.mp hx)).1.symm.trans (hqueue x hy).1

/-- When every job of a printer has ended, its record holds none (R52). -/
theorem lostJobs_printer (h : JobsOk s) (reason : EndReason) (p : PortNo) :
    printerJobs ((printerJobs s.printers[p]).foldl (Machine.endJob reason) s).printers[p] = [] := by
  have hnodup := printerJobs_nodup h p
  have hlive := fun j hj => ((mem_printerJobs h p j).mp hj).1
  have ht := (Placed.endJobs (b := False) (c := False) ⟨h, False.elim, False.elim⟩ reason hnodup hlive).jobs
  refine List.eq_nil_iff_forall_not_mem.mpr fun j hj => ?_
  obtain ⟨hstate, hport⟩ := (mem_printerJobs ht p j).mp hj
  rw [foldl_endJob_jobs reason _ hnodup] at hstate hport
  split_ifs at hstate hport with hin
  · exact hstate rfl
  · exact hin ((mem_printerJobs h p j).mpr ⟨hstate, hport⟩)

/-- A record that holds no job may become ABSENT (R55). -/
theorem makeAbsent_samePlaces {r : Printer} (h : printerJobs r = []) : SamePlaces r (makeAbsent r) := by
  unfold printerJobs at h
  simp only [List.append_eq_nil_iff, Option.toList_eq_nil_iff] at h
  obtain ⟨⟨hc, hs⟩, hq⟩ := h
  exact ⟨hc.symm, hs.symm, hq.symm, nofun, nofun, fun ⟨hlen, _⟩ =>
    ⟨Nat.zero_le _, fun _ => ⟨rfl, rfl, rfl, rfl, rfl, rfl, rfl, rfl⟩⟩⟩

theorem Placed.loseDevice (h : Placed b c s) (p : PortNo) : Placed b c (loseDevice p s) :=
  (h.endJobs .deviceLost (printerJobs_nodup h.jobs p) fun j hj => ((mem_printerJobs h.jobs p j).mp hj).1).updPrinter p
    (makeAbsent_samePlaces (lostJobs_printer h.jobs .deviceLost p))

/-! ### The boundary (R61, R62, R66) -/

/-- The current job of a printer is PRINTING, of its port. -/
theorem Placed.current (h : Placed b c s) {p : PortNo} {j : JobNo} (hj : s.printers[p].current = some j) :
    s.jobs[j].state ≠ .free ∧ s.jobs[j].port = p := by
  obtain ⟨hstate, hport⟩ := (((jobsOk_iff s).mp h.jobs).2 p).2.1 j hj
  exact ⟨hstate.trans_ne nofun, hport⟩

/-- A printer's current job ends and the printer chooses (R48, R62). -/
theorem Placed.endThenChoose (h : Placed b c s) (reason : EndReason) {p : PortNo} {j : JobNo}
    (hj : s.printers[p].current = some j) : Placed b c (Machine.choose p (Machine.endJob reason s j)) :=
  (h.endJob reason (h.current hj).1).choose (endJob_current_none (h.current hj).2 hj)

theorem Placed.endThenLeaveHeld (h : Placed b c s) (reason : EndReason) {p : PortNo} {j : JobNo}
    (hj : s.printers[p].current = some j) : Placed b c (Machine.leaveHeld p (Machine.endJob reason s j)) :=
  (h.endJob reason (h.current hj).1).leaveHeld (endJob_current_none (h.current hj).2 hj)

/-- A suspended job stands in the suspended slot, which was empty (R66). -/
theorem Placed.suspendJob (h : Placed b c s) {p : PortNo} {j : JobNo} (hj : s.printers[p].current = some j)
    (hslot : s.printers[p].suspended = none) (hflag : s.printers[p].suspendPending = false) :
    Placed b c (suspendJob p j s) := by
  obtain ⟨hstands, hplaces⟩ := (jobsOk_iff s).mp h.jobs
  obtain ⟨hqueue, hcurrent, _, hnodup, _, _⟩ := hplaces p
  obtain ⟨hlive, hport⟩ := h.current hj
  generalize ht : Machine.suspendJob p j s = t
  have hprinter : t.printers[p] = { s.printers[p] with current := none, suspended := some j } := by
    subst ht
    exact put_get ..
  have hother : ∀ q, q ≠ p → t.printers[q] = s.printers[q] := fun q hq => by
    subst ht
    exact put_get_ne _ _ _ _ hq.symm
  have hself : t.jobs[j] = { s.jobs[j] with state := .suspended, suspensions := s.jobs[j].suspensions + 1 } := by
    subst ht
    exact put_get ..
  have hne : ∀ k, k ≠ j → t.jobs[k] = s.jobs[k] := fun k hk => by
    subst ht
    exact put_get_ne _ _ _ _ hk.symm
  have hwaits : ∀ k ∈ s.printers[p].queue, k ≠ j := fun k hk hkj => by
    subst hkj
    exact nomatch (hqueue k hk).1.symm.trans (hcurrent k hj).1
  refine ⟨jobsOk_at h.jobs p hother (fun k => ?_) (fun k hk => ?_) ?_, fun hb => ?_, fun hc q => ?_⟩
  · by_cases hk : k = j
    · rw [hk, hself]
      exact .inr ⟨.inr hport, hport⟩
    · rw [hne k hk]
      exact .inl ⟨rfl, rfl⟩
  · rw [hprinter]
    by_cases hkj : k = j
    · rw [hkj, hself]
      rfl
    · rw [hne k hkj] at hk ⊢
      have hs := hstands k p hk
      cases hst : s.jobs[k].state with
      | free => trivial
      | waiting => rw [hst] at hs; exact hs
      | printing => rw [hst] at hs; exact absurd (Option.some.inj (hs.symm.trans hj)) hkj
      | suspended => rw [hst] at hs; exact nomatch hslot.symm.trans hs
      | ended => rw [hst] at hs; exact hs
  · unfold PlacesOk
    rw [hprinter]
    refine ⟨fun k hk => ?_, nofun, fun k hk => ?_, hnodup, fun hf => ?_, fun _ => rfl⟩
    · rw [hne k (hwaits k hk)]
      exact hqueue k hk
    · cases hk
      rw [hself]
      exact ⟨rfl, hport⟩
    · exact absurd hf (by rw [hflag]; decide)
  · refine blocksOk_of (h.blocks hb) (fun k hk => ?_) fun k _ x _ => by subst ht; rfl
    by_cases hkj : k = j
    · subst hkj
      exact ⟨hlive, by rw [hself]⟩
    · rw [hne k hkj] at hk ⊢
      exact ⟨hk, rfl⟩
  · by_cases hq : q = p
    · subst hq
      rw [hprinter]
      refine ⟨(h.printers hc q).1, fun hf => ?_⟩
      exact nomatch hj.symm.trans ((h.printers hc q).2 hf).1
    · rw [hother q hq]
      exact h.printers hc q

theorem Placed.boundary (h : Placed b c s) {p : PortNo} {j : JobNo} (hj : s.printers[p].current = some j) :
    Placed b c (boundary p j s) := by
  have ht : Placed b c (Machine.updPrinter s p fun r => { r with suspendPending := false }) :=
    h.updPrinter p (samePlaces_of rfl rfl rfl nofun id id (fun h => ⟨h, id⟩) id id)
  have hprinter : (Machine.updPrinter s p fun r => { r with suspendPending := false }).printers[p] =
      { s.printers[p] with suspendPending := false } := put_get ..
  have hcurrent : (Machine.updPrinter s p fun r => { r with suspendPending := false }).printers[p].current = some j := by
    rw [hprinter]
    exact hj
  unfold Machine.boundary
  dsimp only
  split
  · exact ht.endThenChoose _ hcurrent
  · split
    · exact ht.endThenChoose _ hcurrent
    · split
      · rename_i hsuspend
        have hslot : s.printers[p].suspended = none := ((((jobsOk_iff s).mp h.jobs).2 p).2.2.2.2.1 hsuspend.1).2
        refine (ht.suspendJob hcurrent (by rw [hprinter]; exact hslot) (by rw [hprinter])).choose ?_
        exact congrArg Printer.current (put_get ..)
      · split
        · exact ht.openPage p
        · exact ht

/-- A page that is dropped leaves the jobs in place (R59, R61, R67, R74). -/
theorem dropPage_samePlaces (r : Printer) : SamePlaces r (dropPage r) :=
  samePlaces_of rfl rfl rfl id id id (fun _ => ⟨rfl, fun _ => rfl⟩) id id

theorem Placed.confirmPage (h : Placed b c s) {p : PortNo} {j : JobNo} (hj : s.printers[p].current = some j) :
    Placed b c (confirmPage p j s) := by
  have ht := ((h.updPrinter p (f := dropPage) (dropPage_samePlaces _)).updJob j (f := countPage (currentLength s j))
    (fun _ => rfl) (fun _ => rfl) (fun _ => rfl))
  generalize hu : Machine.updJob (Machine.updPrinter s p dropPage) j (countPage (currentLength s j)) = u at ht
  have hcurrent : u.printers[p].current = some j := by
    subst hu
    show (put s.printers p (dropPage s.printers[p]))[p.val].current = some j
    rw [put_get]
    exact hj
  have hreport : TablesKept u (reportProgress j u) := by
    unfold reportProgress
    dsimp only
    split
    · split
      · exact (giveProgress_frame ..).tables
      · exact .refl u
    · exact .refl u
  unfold Machine.confirmPage
  dsimp only
  rw [hu]
  refine (ht.tables hreport).boundary ?_
  rw [hreport.printers]
  exact hcurrent

theorem Placed.pageDone (h : Placed b c s) (p : PortNo) (n : Nat) : Placed b c (pageDone p n s) := by
  unfold Machine.pageDone
  dsimp only
  split
  · rename_i hcurrent _
    split
    · exact h.confirmPage hcurrent
    · exact h
  · exact h

theorem Placed.credit (h : Placed b c s) (p : PortNo) (n : Nat) : Placed b c (credit p n s) := by
  unfold Machine.credit
  dsimp only
  split
  · exact (h.updPrinter p (samePlaces_of rfl rfl rfl id id id (fun h => ⟨h, id⟩) id id)).feedPage p
  · exact h

/-! ### Faults and timers (R67–R70, R76, R77) -/

theorem reportFault_tables (r : Record) (o : Option StationNo) (s : State) : TablesKept s (reportFault r o s) := by
  unfold reportFault
  split
  · split
    · exact (giveStatus_frame ..).tables
    · exact (giveStatus_frame ..).tables.trans (giveStatus_frame ..).tables
  · exact (giveStatus_frame ..).tables

theorem Placed.hardFault (h : Placed b c s) {p : PortNo} {j : JobNo} (hj : s.printers[p].current = some j)
    (cause : Cause) : Placed b c (hardFault p j cause s) := by
  have hw : Placed b c (withdraw p s.jobs[j].serial (s.jobs[j].pagesDone + 1) s) := h.tables (updPort_tables ..)
  have hheld := hw.updPrinter p (f := fun r => { dropPage r with state := .held, hold := some cause })
    (samePlaces_served rfl rfl rfl id nofun nofun)
  generalize ht : (Machine.updPrinter (withdraw p s.jobs[j].serial (s.jobs[j].pagesDone + 1) s) p fun r =>
    { dropPage r with state := .held, hold := some cause }) = t at hheld
  have hcurrent : t.printers[p].current = some j := by
    subst ht
    show (put s.printers p { dropPage s.printers[p] with state := .held, hold := some cause })[p.val].current = some j
    rw [put_get]
    exact hj
  have hreport := reportFault_tables (.printerFault p j s.jobs[j].serial (s.jobs[j].pagesDone + 1) cause) s.jobs[j].owner t
  unfold Machine.hardFault
  dsimp only
  rw [ht]
  split
  · exact (hheld.tables hreport).endThenLeaveHeld _ (by rw [hreport.printers]; exact hcurrent)
  · exact hheld.tables hreport

theorem Placed.transientFault (h : Placed b c s) {p : PortNo} {j : JobNo} {pg : PageInFlight}
    (hj : s.printers[p].current = some j) : Placed b c (transientFault p j pg s) := by
  have ht : Placed b c (Machine.updJob s j fun r => { r with transients := r.transients + 1 }) :=
    h.updJob j (fun _ => rfl) (fun _ => rfl) fun _ => rfl
  unfold Machine.transientFault
  dsimp only
  split
  · exact ht.hardFault hj .headHot
  · exact (ht.tables (updPort_tables ..)).updPrinter p (samePlaces_current hj rfl rfl rfl rfl rfl)

theorem Placed.pageFault (h : Placed b c s) (p : PortNo) (n : Nat) (cause : Cause) :
    Placed b c (pageFault p n cause s) := by
  unfold Machine.pageFault
  dsimp only
  split
  · rename_i hcurrent _
    split
    · split
      · split
        · exact h
        · exact h.transientFault hcurrent
      · exact h.hardFault hcurrent cause
    · exact h
  · exact h

theorem Placed.ready (h : Placed b c s) (p : PortNo) : Placed b c (ready p s) := by
  unfold Machine.ready
  dsimp only
  split
  · split
    · exact h.openPage p
    · exact h
  · exact h

theorem Placed.paper (h : Placed b c s) (p : PortNo) (low : Bool) : Placed b c (paper p low s) := by
  unfold Machine.paper
  dsimp only
  split
  · exact (h.updPrinter p (samePlaces_of rfl rfl rfl id id id (fun h => ⟨h, id⟩) id id)).tables
      (giveStatus_frame ..).tables
  · exact h

theorem Placed.pageTimerExpiry (h : Placed b c s) (p : PortNo) : Placed b c (pageTimerExpiry p s) := by
  unfold Machine.pageTimerExpiry
  dsimp only
  split
  · rename_i j pg hcurrent _
    split
    · have hh := hand_tables p (.pageAbandon pg.page) s
      exact (h.tables hh).hardFault (by rw [hh.printers]; exact hcurrent) .timeout
    · exact h
  · exact h

theorem Placed.reconnectTimerExpiry (h : Placed b c s) (p : PortNo) : Placed b c (reconnectTimerExpiry p s) := by
  unfold Machine.reconnectTimerExpiry
  split
  · exact h.loseDevice p
  · exact h

/-! ### Link notices and quiet hours (R74–R76, R78, R80) -/

theorem popPrint_tables (p : PortNo) (s : State) : TablesKept s (popPrint p s) := .refl s

theorem Placed.clearTransients (h : Placed b c s) (p : PortNo) : Placed b c (clearTransients p s) := by
  unfold Machine.clearTransients
  split
  · exact h.updJob _ (fun _ => rfl) (fun _ => rfl) fun _ => rfl
  · exact h

theorem Placed.resumePage (h : Placed b c s) (p : PortNo) : Placed b c (resumePage p s) := by
  unfold Machine.resumePage
  split
  · exact (h.updPrinter p (f := fun r => { r with state := .sending })
      (samePlaces_served rfl rfl rfl id nofun nofun)).openPage p
  · exact h.updPrinter p (samePlaces_served rfl rfl rfl id nofun nofun)

theorem Placed.losePrinter (h : Placed b c s) (p : PortNo) : Placed b c (losePrinter p s) := by
  have ht := h.updPrinter p (f := fun r => { dropPage r with
      state := .detached, hold := none
      reconnect := some (startTimer s (s.printerSet[p].reconnectWindow * second)) })
    (samePlaces_served rfl rfl rfl id nofun nofun)
  unfold Machine.losePrinter
  dsimp only
  split
  · rename_i j hcurrent
    split
    · exact ht.endJob _ (h.current hcurrent).1
    · exact ht
  · exact ht

theorem Placed.printerLinkLoss (h : Placed b c s) (p : PortNo) : Placed b c (printerLinkLoss p s) := by
  unfold Machine.printerLinkLoss
  split
  · split
    · exact (h.tables (popPrint_tables p s)).losePrinter p
    · exact h.tables (popPrint_tables p s)
  · exact h

theorem Placed.printerReturn (h : Placed b c s) (p : PortNo) : Placed b c (printerReturn p s) := by
  unfold Machine.printerReturn
  split
  · split
    · rename_i d _ _
      have ht := ((h.tables (popPrint_tables p s)).updPrinter p (f := comeBack d)
        (samePlaces_of rfl rfl rfl id id id (fun h => ⟨h, id⟩) (fun _ => rfl) id)).clearTransients p
      dsimp only
      split
      · exact ht.resumePage p
      · rename_i hcurrent
        exact ht.choose (Option.not_isSome_iff_eq_none.mp hcurrent)
    · exact h
  · exact h

theorem Placed.kindChange (h : Placed b c s) (p : PortNo) : Placed b c (kindChange p s) := by
  unfold Machine.kindChange
  split
  · split
    · exact (h.tables (popPrint_tables p s)).loseDevice p
    · exact h.tables (popPrint_tables p s)
  · exact h

/-- An ABSENT record that comes up holds no job; no job and no block changes (R57). -/
theorem printerArrival_jobs (p : PortNo) (s : State) :
    (printerArrival p s).jobs = s.jobs ∧ (printerArrival p s).blocks = s.blocks := by
  unfold printerArrival
  split
  · split <;> exact ⟨rfl, rfl⟩
  · exact ⟨rfl, rfl⟩

theorem Placed.printerArrival (h : Placed b True s) (p : PortNo) : Placed b True (printerArrival p s) := by
  unfold Machine.printerArrival
  split
  · split
    · rename_i d _ habsent
      obtain ⟨hc, hs, hq, _⟩ := (h.printers trivial p).2 habsent
      refine (h.tables (popPrint_tables p s)).updPrinter p ⟨?_, ?_, ?_, nofun, fun _ => .inr hc, fun _ => ⟨?_, fun hf => ?_⟩⟩
      · exact hc.symm
      · exact hs.symm
      · exact hq.symm
      · exact Nat.zero_le _
      · have hf : (match s.printMode with | .running => PrinterState.idle | .quiet => PrinterState.quiesced) = .absent := hf
        split at hf <;> cases hf
    · exact h
  · exact h

theorem enterQuiet_samePlaces (r : Printer) : SamePlaces r (enterQuiet r) := by
  unfold enterQuiet
  split
  · exact samePlaces_served rfl rfl rfl id nofun nofun
  · exact .refl r

theorem Placed.printersEnterQuiet (h : Placed b c s) : Placed b c (printersEnterQuiet s) := by
  unfold Machine.printersEnterQuiet
  split
  · have ht : Placed b c { s with printers := s.printers.map enterQuiet } := h.samePlaces fun p => by
      rw [Fin.getElem_fin, Fin.getElem_fin, Vector.getElem_map]
      exact enterQuiet_samePlaces _
    exact ht.of_same rfl rfl rfl
  · exact h

theorem Placed.wakePrinter (h : Placed b c s) (p : PortNo) : Placed b c (wakePrinter s p) := by
  unfold Machine.wakePrinter
  dsimp only
  split
  · split
    · have ht : Placed b c (Machine.updPrinter s p fun r => { r with state := .sending }) :=
        h.updPrinter p (samePlaces_served rfl rfl rfl id nofun nofun)
      split
      · exact ht
      · exact ht.openPage p
    · rename_i hcurrent
      exact h.choose (Option.not_isSome_iff_eq_none.mp hcurrent)
  · exact h

theorem Placed.printersLeaveQuiet (h : Placed b c s) : Placed b c (printersLeaveQuiet s) := by
  unfold Machine.printersLeaveQuiet
  split
  · exact foldl_inv (P := Placed b c) _ (fun t p ht => ht.wakePrinter p) _ _ (h.of_same rfl rfl rfl)
  · exact h

end

end Sys2Proof.Machine
end

section
/-! ## Jobs in their places over requests, resets and every command -/

namespace Sys2Proof.Machine

open Sys2Proof.Safety
open Config

section
variable {b c : Prop} {s : State}

/-! ### CANCEL JOB, CLEAR PRINTER and SET PRINTER (R45–R49, R72) -/

/-- A PRINTING job is its printer's current one (R32). -/
theorem Placed.printing (h : Placed b c s) {j : JobNo} (hj : s.jobs[j].state = .printing) :
    s.printers[s.jobs[j].port].current = some j := by
  have hs := ((jobsOk_iff s).mp h.jobs).1 j _ rfl
  rw [hj] at hs
  exact hs

theorem Placed.endAtOnce (h : Placed b c s) (reason : EndReason) {j : JobNo} (hj : s.jobs[j].state = .printing) :
    Placed b c (endAtOnce reason s.jobs[j].port j s) := by
  have hcurrent := h.printing hj
  unfold Machine.endAtOnce
  dsimp only
  split
  · exact h.endThenLeaveHeld reason hcurrent
  · exact h.endThenChoose reason hcurrent
  all_goals exact h.endJob reason (hj.trans_ne nofun)

theorem Placed.markPending (h : Placed b c s) (reason : EndReason) (j : JobNo) : Placed b c (markPending reason j s) :=
  h.updJob j (fun _ => rfl) (fun _ => rfl) fun _ => rfl

theorem Placed.acceptCancel (h : Placed b c s) {j : JobNo} (hj : s.jobs[j].state ≠ .free) :
    Placed b c (acceptCancel j s).state := by
  unfold Machine.acceptCancel
  dsimp only
  split
  · rename_i hprinting
    split
    · show Placed b c (if _ then s else _)
      split
      · exact h
      · exact h.markPending ..
    · exact h.endAtOnce .cancelled hprinting
  · exact h.endJob .cancelled hj

theorem Placed.serveCancel (h : Placed b c s) (x : CardNo) : Placed b c (serveCancel x s).state := by
  unfold Machine.serveCancel
  dsimp only
  unfold checked
  split
  · exact h
  · rename_i hpass
    split
    · rename_i j hj
      rw [hj] at hpass
      have hlive := (firstFailing_none_iff _).mp hpass _ List.mem_cons_self
      simp only [Bool.and_eq_true, decide_eq_true_eq] at hlive
      exact h.acceptCancel hlive.1
    · exact h

theorem Placed.acceptClear (h : Placed b c s) (p : PortNo) : Placed b c (acceptClear p s) :=
  ((h.updPrinter p (samePlaces_of rfl rfl rfl id id id (fun h => ⟨h, id⟩) id fun _ => rfl)).clearTransients p).resumePage p

theorem Placed.serveClear (h : Placed b c s) (x : CardNo) : Placed b c (serveClear x s).state := by
  unfold Machine.serveClear
  dsimp only
  unfold checked
  split
  · exact h
  · split
    · exact h.acceptClear _
    · exact h

theorem Placed.serveSetPrinter (h : Placed b c s) (x : CardNo) : Placed b c (serveSetPrinter x s).state := by
  unfold Machine.serveSetPrinter
  split
  · rename_i p _
    have stored : Placed b c { s with
        printerSet := put s.printerSet p
          { pageTimeout := max (cardNum s x 9) 5, reconnectWindow := cardNum s x 10
            suspendAllowed := cardByte s x 11 ≠ 0 } } := h.of_same rfl rfl rfl
    unfold acceptSetPrinter
    dsimp only
    split
    · exact stored
    · exact stored.updPrinter p (samePlaces_of rfl rfl rfl nofun id id (fun h => ⟨h, id⟩) id id)
  · exact h

/-! ### SUBMIT (R38–R42, R65) -/

theorem mem_joinQueue (jobs : Vector Job 32) (j k : JobNo) (l : List JobNo) :
    k ∈ joinQueue jobs j l ↔ k = j ∨ k ∈ l := by
  induction l with
  | nil => simp [joinQueue]
  | cons m l ih =>
    unfold joinQueue
    split
    · rw [List.mem_cons, ih, List.mem_cons]
      exact or_left_comm
    · exact List.mem_cons

theorem joinQueue_nodup (jobs : Vector Job 32) {j : JobNo} {l : List JobNo} (hl : l.Nodup) (hj : j ∉ l) :
    (joinQueue jobs j l).Nodup := by
  induction l with
  | nil => exact List.nodup_singleton j
  | cons m l ih =>
    obtain ⟨hm, hl'⟩ := List.nodup_cons.mp hl
    obtain ⟨hjm, hjl⟩ := not_or.mp (mt List.mem_cons.mpr hj)
    unfold joinQueue
    split
    · refine List.nodup_cons.mpr ⟨fun h => ?_, ih hl' hjl⟩
      exact ((mem_joinQueue ..).mp h).elim (fun h => hjm h.symm) hm
    · exact List.nodup_cons.mpr ⟨hj, hl⟩

theorem joinQueue_length (jobs : Vector Job 32) (j : JobNo) (l : List JobNo) :
    (joinQueue jobs j l).length = l.length + 1 := by
  induction l with
  | nil => rfl
  | cons m l ih =>
    unfold joinQueue
    split
    · exact congrArg (· + 1) ih
    · rfl

theorem val_of_index? {n k : Nat} {i : Fin n} (h : index? n k = some i) : i.val = k := by
  unfold index? at h
  split at h
  · cases h
    rfl
  · cases h

/-- A list without a bad entry names distinct blocks (R39). -/
theorem listedBlocks_nodup {st : StationNo} {entries : List Nat} (h : firstBadEntry s st 0 [] entries = none) :
    (listedBlocks s st entries).Nodup := by
  have hgood := firstBadEntry_first s st entries
  rw [h] at hgood
  have hdistinct : entries.Nodup := List.nodup_iff_pairwise_ne.mpr (List.pairwise_iff_getElem.mpr
    fun i k hi hk hik heq => hgood k ⟨entries[k], List.getElem?_eq_getElem hk,
      .inr (heq ▸ List.mem_take_iff_getElem.mpr ⟨i, by omega, rfl⟩)⟩)
  refine hdistinct.filterMap fun e e' x he he' => ?_
  have hval : ∀ {e : Nat}, x ∈ ownReserved? s st e → x.val = e := fun {e} he => by
    unfold ownReserved? at he
    split at he
    · rename_i y hy
      split at he
      · cases he
        exact val_of_index? hy
      · cases he
    · cases he
  exact (hval he).symm.trans (hval he')

/-- The state of an accepted SUBMIT before its printer answers the join (R40, R42). -/
def submitted (st : StationNo) (p : PortNo) (cls : JobClass) (a : SubmitArgs) (j : JobNo) (s : State) : State :=
  enqueue p j (commitBlocks j (listedBlocks s st a.entries)
    (updJob { s with acceptance := s.acceptance + 1 } j fun old =>
      newJob old st p cls a (listedBlocks s st a.entries) (s.acceptance + 1)))

theorem acceptSubmit_state (st : StationNo) (p : PortNo) (cls : JobClass) (a : SubmitArgs) (j : JobNo) (s : State) :
    (acceptSubmit st p cls a j s).state = afterJoin p j (submitted st p cls a j s) := rfl

/-- An accepted SUBMIT before its printer answers: the job table, the printers, the blocks and the acceptance counter alone
have changed (R40, R42). -/
theorem submitted_eq (st : StationNo) (p : PortNo) (cls : JobClass) (a : SubmitArgs) (j : JobNo) (s : State) :
    submitted st p cls a j s =
      { s with
        acceptance := s.acceptance + 1
        jobs := put s.jobs j (newJob s.jobs[j] st p cls a (listedBlocks s st a.entries) (s.acceptance + 1))
        blocks := (commitBlocks j (listedBlocks s st a.entries) s).blocks
        printers := put s.printers p { s.printers[p] with
          queue := joinQueue
            (put s.jobs j (newJob s.jobs[j] st p cls a (listedBlocks s st a.entries) (s.acceptance + 1))) j
            s.printers[p].queue } } := by
  have hblocks : ∀ (l : List BlockNo) (u v : State), u.blocks = v.blocks →
      (commitBlocks j l u).blocks = (commitBlocks j l v).blocks := fun l u v huv => by
    ext x hx
    have hget := fun w => commitBlocks_get j l w ⟨x, hx⟩
    have hu := hget u
    rw [huv, ← hget v] at hu
    exact hu
  unfold submitted enqueue
  rw [commitBlocks_frame, hblocks (listedBlocks s st a.entries) _ s (by rfl)]
  rfl

/-- A job that joins the queue of its printer stands there, with its blocks committed to it (R26, R40, R42). -/
theorem Placed.submitted (h : Placed b c s) {st : StationNo} {p : PortNo} (cls : JobClass) {a : SubmitArgs} {j : JobNo}
    (hserved : s.printers[p].state ≠ .absent) (hroom : s.printers[p].queue.length < queueMax)
    (hfree : s.jobs[j].state = .free) (hbad : firstBadEntry s st 0 [] a.entries = none) :
    Placed b c (submitted st p cls a j s) := by
  obtain ⟨hstands, hplaces⟩ := (jobsOk_iff s).mp h.jobs
  obtain ⟨hqueue, hcurrent, hsuspended, hnodup, hpending, hidle⟩ := hplaces p
  generalize ht : Machine.submitted st p cls a j s = t
  rw [submitted_eq] at ht
  obtain ⟨jobs', hjobs'⟩ : ∃ v, v = put s.jobs j
    (newJob s.jobs[j] st p cls a (listedBlocks s st a.entries) (s.acceptance + 1)) := ⟨_, rfl⟩
  rw [← hjobs'] at ht
  have hprinter : t.printers[p] = { s.printers[p] with queue := joinQueue jobs' j s.printers[p].queue } := by
    subst ht
    exact put_get ..
  have hother : ∀ q, q ≠ p → t.printers[q] = s.printers[q] := fun q hq => by
    subst ht
    exact put_get_ne _ _ _ _ hq.symm
  have hself : t.jobs[j] = newJob s.jobs[j] st p cls a (listedBlocks s st a.entries) (s.acceptance + 1) := by
    subst ht hjobs'
    exact put_get ..
  have hne : ∀ k, k ≠ j → t.jobs[k] = s.jobs[k] := fun k hk => by
    subst ht hjobs'
    exact put_get_ne _ _ _ _ hk.symm
  have hblock : ∀ x : BlockNo, t.blocks[x] = if x ∈ listedBlocks s st a.entries then .committed j else s.blocks[x] := by
    intro x
    subst ht
    exact commitBlocks_get j _ s x
  have hplaced : ∀ k : JobNo, s.jobs[k].state ≠ .free → k ≠ j := fun k hk hkj => by
    subst hkj
    exact hk hfree
  have keep : ∀ (k : JobNo) (x : JobState), x ≠ .free → s.jobs[k].state = x ∧ s.jobs[k].port = p →
      t.jobs[k].state = x ∧ t.jobs[k].port = p := fun k x hx hk => by
    rw [hne k (hplaced k (hk.1.trans_ne hx))]
    exact hk
  refine ⟨jobsOk_at h.jobs p hother (fun k => ?_) (fun k hk => ?_) ?_, fun hb k hk => ?_, fun hc q => ?_⟩
  · by_cases hk : k = j
    · rw [hk, hself]
      exact .inr ⟨.inl hfree, rfl⟩
    · rw [hne k hk]
      exact .inl ⟨rfl, rfl⟩
  · rw [hprinter]
    by_cases hkj : k = j
    · rw [hkj, hself]
      exact (mem_joinQueue ..).mpr (.inl rfl)
    · rw [hne k hkj] at hk ⊢
      have hs := hstands k p hk
      cases hst : s.jobs[k].state with
      | free => trivial
      | waiting => rw [hst] at hs; exact (mem_joinQueue ..).mpr (.inr hs)
      | printing => rw [hst] at hs; exact hs
      | suspended => rw [hst] at hs; exact hs
      | ended => rw [hst] at hs; exact hs
  · unfold PlacesOk
    rw [hprinter]
    refine ⟨fun k hk => ?_, fun k hk => keep k _ nofun (hcurrent k hk), fun k hk => keep k _ nofun (hsuspended k hk),
      joinQueue_nodup jobs' hnodup fun hj => ?_, hpending, hidle⟩
    · rcases (mem_joinQueue ..).mp hk with hk | hk
      · rw [hk, hself]
        exact ⟨rfl, rfl⟩
      · exact keep k _ nofun (hqueue k hk)
    · exact nomatch hfree.symm.trans (hqueue j hj).1
  · by_cases hkj : k = j
    · subst hkj
      rw [hself]
      exact ⟨listedBlocks_nodup hbad, fun x hx => (hblock x).trans (if_pos hx)⟩
    · rw [hne k hkj] at hk ⊢
      obtain ⟨hn, hcommitted⟩ := h.blocks hb k hk
      refine ⟨hn, fun x hx => (hblock x).trans ?_⟩
      rw [if_neg fun hl => nomatch (listedBlocks_reserved hl).symm.trans (hcommitted x hx)]
      exact hcommitted x hx
  · by_cases hq : q = p
    · subst hq
      rw [hprinter]
      exact ⟨(joinQueue_length ..).trans_le hroom, fun hf => absurd hf hserved⟩
    · rw [hother q hq]
      exact h.printers hc q

/-- The flag of R65 is due only over a current job beside an empty suspended slot. -/
theorem suspendDue_places {p : PortNo} {j : JobNo} (h : suspendDue s p j = true) :
    s.printers[p].current ≠ none ∧ s.printers[p].suspended = none := by
  unfold suspendDue at h
  dsimp only at h
  split at h
  · rename_i hcurrent
    simp only [Bool.and_eq_true, Option.isNone_iff_eq_none] at h
    exact ⟨hcurrent.trans_ne nofun, h.2⟩
  · cases h

/-- The answer of a printer to a join: a choice while IDLE, or a flag raised over a current job beside an empty slot
(R41, R65). -/
theorem Placed.afterJoin (h : Placed b c s) (p : PortNo) (j : JobNo) : Placed b c (afterJoin p j s) := by
  obtain ⟨_, _, _, _, _, hidle⟩ := ((jobsOk_iff s).mp h.jobs).2 p
  unfold Machine.afterJoin
  split
  · rename_i hi
    exact h.choose (hidle hi)
  · split
    · rename_i hni hdue
      have hslot := suspendDue_places hdue
      refine h.updPrinter p ⟨rfl, rfl, rfl, fun _ => .inr hslot, .inl, fun ⟨hlen, habsent⟩ => ⟨hlen, fun hf => ?_⟩⟩
      exact absurd (habsent hf).1 hslot.1
    · exact h

theorem Placed.serveSubmit (h : Placed b c s) (x : CardNo) : Placed b c (serveSubmit x s).state := by
  unfold Machine.serveSubmit
  dsimp only
  unfold checked
  split
  · exact h
  · rename_i hpass
    split
    · rename_i p cls j hp _ hj
      have hall := (firstFailing_none_iff _).mp hpass
      unfold submitChecks at hall
      rw [hp] at hall
      simp only [List.forall_mem_cons] at hall
      obtain ⟨hready, _, _, _, _, hbad, _, _, _, _, hroom, _⟩ := hall
      unfold printerReady attached at hready
      unfold queueRoom at hroom
      simp only [Bool.and_eq_true, decide_eq_true_eq] at hready hroom
      unfold freeJob? lowest? at hj
      have hfree := List.find?_some hj
      rw [decide_eq_true_eq] at hfree
      rw [acceptSubmit_state]
      exact (h.submitted cls hready.1 hroom hfree (Option.isNone_iff_eq_none.mp hbad)).afterJoin p j
    · exact h

/-! ### Blocks RESERVED and freed by a station (R11, R22, R23) -/

/-- Blocks that no job holds are freed with every job in place. -/
theorem Placed.freeBlocks (h : Placed b c s) {l : List BlockNo} (hl : ∀ x ∈ l, ∀ j : JobNo, s.blocks[x] ≠ .committed j) :
    Placed b c (freeBlocks l s) := by
  rw [freeBlocks_eq]
  refine ⟨h.jobs, fun hb => blocksOk_of (h.blocks hb) (fun _ hj => ⟨hj, rfl⟩) fun j hj x hx => ?_, h.printers⟩
  refine (freedPool_get l (poolOf s) x).trans (if_neg fun hxl => hl x hxl j ?_)
  exact (h.blocks hb j hj).2 x hx

theorem Placed.serveUnreserve (h : Placed b c s) (x : CardNo) : Placed b c (serveUnreserve x s).state := by
  unfold Machine.serveUnreserve
  dsimp only
  unfold checked
  split
  · exact h
  · refine (h.freeBlocks fun y hy j hj => ?_).of_same rfl rfl rfl
    exact nomatch (listedBlocks_reserved hy).symm.trans hj

/-! ### Retirement (R10–R12) -/

theorem retireCards_jobs (st : StationNo) (s : State) : (retireCards st s).jobs = s.jobs ∧
    (retireCards st s).printers = s.printers ∧ (retireCards st s).blocks = s.blocks := by
  unfold retireCards
  refine foldl_inv (P := fun t : State => t.jobs = s.jobs ∧ t.printers = s.printers ∧ t.blocks = s.blocks) _
    (fun _ _ h => ?_) _ _ ⟨rfl, rfl, rfl⟩
  exact h

theorem Placed.retireBlocks (h : Placed b c s) (st : StationNo) : Placed b c (retireBlocks st s) :=
  h.freeBlocks fun _ hx _ hj => nomatch (of_decide_eq_true (List.mem_filter.mp hx).2).symm.trans hj

theorem mem_ownedJobs {st : StationNo} {test : JobState → Bool} {j : JobNo} (h : j ∈ ownedJobs s st test) :
    test s.jobs[j].state = true := by
  unfold ownedJobs at h
  simp only [List.mem_filter, Bool.and_eq_true] at h
  exact h.2.2

theorem ownedJobs_nodup (s : State) (st : StationNo) (test : JobState → Bool) : (ownedJobs s st test).Nodup :=
  (List.nodup_finRange 32).filter _

theorem Placed.retireIdleJobs (h : Placed b c s) (st : StationNo) : Placed b c (retireIdleJobs st s) :=
  h.endJobs .retired (ownedJobs_nodup ..) fun j hj hf => by
    have htest := mem_ownedJobs hj
    rw [hf] at htest
    exact absurd htest (by decide)

theorem Placed.retireCurrent (h : Placed b c s) {j : JobNo} (hj : s.jobs[j].state = .printing) :
    Placed b c (retireCurrent s j) := by
  have ht : Placed b c (Machine.updJob (Machine.markPending .retired j s) j fun r => { r with owner := none }) :=
    (h.markPending .retired j).updJob j (fun _ => rfl) (fun _ => rfl) fun _ => rfl
  generalize hu : Machine.updJob (Machine.markPending .retired j s) j (fun r => { r with owner := none }) = u at ht
  have hjob : u.jobs[j] = pendingJob s.jobs[j] := by
    subst hu
    unfold Machine.markPending
    rw [updJob_updJob]
    exact put_get ..
  unfold Machine.retireCurrent
  dsimp only
  rw [hu]
  split
  · exact ht
  · have hport : u.jobs[j].port = s.jobs[j].port := by rw [hjob]; rfl
    rw [← hport]
    exact ht.endAtOnce .retired (by rw [hjob]; exact hj)

/-- A PRINTING job stays PRINTING while another one is retired (R12). -/
theorem retireCurrent_printing {j k : JobNo} (hk : k ≠ j) (h : s.jobs[k].state = .printing) :
    (retireCurrent s j).jobs[k].state = .printing := by
  cases hrun : runsOn s.printers[s.jobs[j].port] with
  | true =>
    rw [retireCurrent_runsOn hrun]
    exact (congrArg Job.state (put_get_ne _ _ _ _ hk.symm)).trans h
  | false =>
    rw [retireCurrent_job hrun, stopped_job_ne s hk]
    split
    · rfl
    · exact h

theorem Placed.retireCurrents (h : Placed b c s) (st : StationNo) : Placed b c (retireCurrents st s) := by
  have fold : ∀ (l : List JobNo) (u : State), Placed b c u → l.Nodup → (∀ j ∈ l, u.jobs[j].state = .printing) →
      Placed b c (l.foldl Machine.retireCurrent u) := by
    intro l
    induction l with
    | nil => exact fun _ hu _ _ => hu
    | cons j l ih =>
      intro u hu hl hprinting
      obtain ⟨hj, hl⟩ := List.nodup_cons.mp hl
      exact ih _ (hu.retireCurrent (hprinting j List.mem_cons_self)) hl fun k hk =>
        retireCurrent_printing (ne_of_mem_of_not_mem hk hj) (hprinting k (List.mem_cons_of_mem j hk))
  exact fold _ s h (ownedJobs_nodup ..) fun j hj => of_decide_eq_true (mem_ownedJobs hj)

theorem Placed.updStation (h : Placed b c s) (st : StationNo) (f : Station → Station) :
    Placed b c (updStation s st f) := h.of_same rfl rfl rfl

theorem Placed.useOpen (h : Placed b c s) : Placed b c (useOpen s) := h.of_same rfl rfl rfl

theorem Placed.retire (h : Placed b c s) (st : StationNo) : Placed b c (retire st s) := by
  rw [retire_eq]
  obtain ⟨hj, hp, hb⟩ := retireCards_jobs st (Machine.updStation s st fun r => { r with service := .outOfService })
  have cards : Placed b c (retireCards st (Machine.updStation s st fun r => { r with service := .outOfService })) :=
    h.of_same hj hp hb
  have jobs := ((cards.retireBlocks st).retireIdleJobs st).retireCurrents st
  exact (((jobs.updStation st fun r => { r with holdings := 0 }).tables (retireClaims_scan st _).tables).tables
    (freeContacts_touch st _).tables).tables (freezeRing_frame st _).tables

/-! ### The other requests -/

theorem Placed.serveSetService (h : Placed b c s) (x : CardNo) : Placed b c (serveSetService x s).state := by
  unfold Machine.serveSetService
  split
  · rename_i st _
    unfold checked
    split
    · exact h.useOpen
    · unfold acceptSetService
      split
      · exact (h.retire st).useOpen
      · exact Placed.useOpen (s := reinstate st s) (h.of_same rfl rfl rfl)
  · exact h.useOpen

theorem checked_tables {l : List (Bool × Answer)} {r : Served} (h : TablesKept s r.state) :
    TablesKept s (checked s l r).state := by
  unfold checked
  split
  · exact .refl s
  · exact h

theorem serveClaim_tables (x : CardNo) (s : State) : TablesKept s (serveClaim x s).state := by
  refine checked_tables ?_
  split
  · unfold acceptClaim
    split
    · exact (grant_scan ..).tables
    · split
      · split <;> exact rfl
      · exact rfl
    · exact rfl
  · exact rfl

theorem serveRelease_tables (x : CardNo) (s : State) : TablesKept s (serveRelease x s).state := by
  unfold serveRelease
  split
  · unfold releaseAt
    split
    · split
      · exact (endClaim_scan ..).tables
      · split <;> exact rfl
    · exact rfl
  · exact rfl

theorem serveSetPermits_tables (x : CardNo) (s : State) : TablesKept s (serveSetPermits x s).state := by
  unfold serveSetPermits
  split
  · rename_i st _
    have hfold : ∀ (l : List PortNo) (u : State), TablesKept u (l.foldl (withdrawPermit st) u) :=
      foldl_rel .refl .trans _ fun t p => (withdrawPermit_scan st t p).tables
    exact TablesKept.trans (t := Machine.updStation s st _) rfl ((hfold _ _).trans rfl)
  · exact rfl

theorem serveSetScanner_tables (x : CardNo) (s : State) : TablesKept s (serveSetScanner x s).state := by
  unfold serveSetScanner
  split
  · exact rfl
  · dsimp only
    split <;> exact rfl

/-- The requests that act on no job, printer, block or card but the one served leave the tables as they are. -/
theorem served_tables {k : RequestKind} (hk : k ∉ ([.reserve, .unreserve, .submit, .cancelJob, .clearPrinter,
    .setPrinter, .setService] : List RequestKind)) (x : CardNo) (s : State) : TablesKept s (served k x s).state := by
  cases k with
  | claim => exact serveClaim_tables x s
  | release => exact serveRelease_tables x s
  | setPermits => exact serveSetPermits_tables x s
  | setQuota =>
    show TablesKept s (serveSetQuota x s).state
    unfold serveSetQuota
    split <;> exact rfl
  | setScanner => exact serveSetScanner_tables x s
  | setZone =>
    refine checked_tables ?_
    split <;> exact rfl
  | clearZone =>
    show TablesKept s (serveClearZone x s).state
    unfold serveClearZone
    split
    · exact rfl
    · split <;> exact rfl
  | setPort =>
    show TablesKept s (serveSetPort x s).state
    unfold serveSetPort
    dsimp only
    split
    · exact rfl
    · split <;> exact rfl
  | ackPort =>
    show TablesKept s (serveAckPort x s).state
    unfold serveAckPort
    split <;> exact rfl
  | quiet =>
    show TablesKept s (serveQuiet x s).state
    unfold serveQuiet
    split
    · exact enterQuietPart_tables s
    · exact rfl
  | wake =>
    show TablesKept s (serveWake x s).state
    unfold serveWake
    split
    · exact wakePart_tables .request s
    · exact rfl
  | reserve | unreserve | submit | cancelJob | clearPrinter | setPrinter | setService => exact absurd (by decide) hk

/-- What a served request but RESERVE makes of the state leaves every job in place. -/
theorem Placed.served (h : Placed b c s) {k : RequestKind} (hk : k ≠ .reserve) (x : CardNo) :
    Placed b c (served k x s).state := by
  cases k with
  | reserve => exact absurd rfl hk
  | unreserve => exact h.serveUnreserve x
  | submit => exact h.serveSubmit x
  | cancelJob => exact h.serveCancel x
  | clearPrinter => exact h.serveClear x
  | setPrinter => exact h.serveSetPrinter x
  | setService => exact h.serveSetService x
  | claim | release | setPermits | setQuota | setScanner | setZone | clearZone | setPort | ackPort | quiet | wake =>
    exact h.tables (served_tables (by decide) x s)

/-! ### Resets and host writes (R178) -/

theorem softReset_jobs (s : State) : (softReset s).jobs = s.jobs.map softJob ∧
    (softReset s).printers = s.printers.map softPrinter := by
  have ha : TablesKept s ((List.finRange 8).foldl abandonPage s) := foldl_rel .refl .trans _ (fun t p => by
    unfold abandonPage
    split
    · exact hand_tables ..
    · exact .refl t) _ s
  exact ⟨congrArg (Vector.map softJob) ha.jobs, congrArg (Vector.map softPrinter) ha.printers⟩

/-- After a soft reset no job is live and every place is empty (R53, R81). -/
theorem softReset_placed (b c : Prop) (s : State) : Placed b c (softReset s) := by
  obtain ⟨hj, hp⟩ := softReset_jobs s
  have hjob : ∀ j : JobNo, (softReset s).jobs[j].state = .free := fun j => by
    rw [hj, Fin.getElem_fin, Vector.getElem_map]
    unfold softJob
    split
    · assumption
    · rfl
  have hprinter : ∀ p : PortNo, (softReset s).printers[p] = softPrinter s.printers[p] := fun p => by
    rw [hp]
    exact Vector.getElem_map ..
  refine ⟨(jobsOk_iff _).mpr ⟨fun j p _ => ?_, fun p => ?_⟩, fun _ j hlive => absurd (hjob j) hlive, fun _ p => ?_⟩
  · rw [hjob]
    trivial
  · unfold PlacesOk
    rw [hprinter]
    exact ⟨nofun, nofun, nofun, List.nodup_nil, nofun, fun _ => rfl⟩
  · rw [hprinter]
    exact ⟨Nat.zero_le _, fun _ => ⟨rfl, rfl, rfl, rfl, rfl, rfl, rfl, rfl⟩⟩

theorem Placed.hostWrite (h : Placed b c s) (w : HostWrite) : Placed b c (hostWrite w s) :=
  hostWrite_induction (P := Placed b c) w h (fun st v => h.tables (takenMarkWrite_touch st v s).tables)
    (fun x v a bs => by
      unfold writeCardState
      split
      · exact h.of_same rfl rfl rfl
      · split <;> exact h.of_same rfl rfl rfl)
    (fun _ _ => h.of_same rfl rfl rfl) (fun _ => h.of_same rfl rfl rfl) (fun _ => h.of_same rfl rfl rfl)
    (controlWrite_induction h (softReset_placed b c s) fun _ ht => ht.of_same rfl rfl rfl)

theorem Placed.takeCard (h : Placed b c s) : Placed b c (takeCard s) :=
  takeCard_induction (P := Placed b c) h (fun _ _ => h.of_same rfl rfl rfl) fun _ _ _ => h.of_same rfl rfl rfl

end

/-! ### Every command -/

/-- Jobs and printer records go over in order; so do the blocks of live jobs, where the free list is in order. -/
structure PlaceKept (s t : State) : Prop where
  places : JobsOk s → PrintersOk s → JobsOk t ∧ PrintersOk t
  blocks : JobsOk s → PoolOk s → BlocksOk s → BlocksOk t

theorem PlaceKept.of {s t : State} (h : ∀ b c, Placed b c s → Placed b c t) : PlaceKept s t where
  places hj hp :=
    have ht := h False True ⟨hj, False.elim, fun _ => hp⟩
    ⟨ht.jobs, ht.printers trivial⟩
  blocks hj _ hb := (h True False ⟨hj, fun _ => hb, False.elim⟩).blocks trivial

/-- A printer's arrival takes no job and no block (R57). -/
theorem printerArrival_placeKept (p : PortNo) (s : State) : PlaceKept s (printerArrival p s) where
  places hj hp :=
    have ht := Placed.printerArrival (b := False) ⟨hj, False.elim, fun _ => hp⟩ p
    ⟨ht.jobs, ht.printers trivial⟩
  blocks _ _ hb := by
    obtain ⟨hjobs, hblocks⟩ := printerArrival_jobs p s
    exact blocksOk_of hb (by rw [hjobs]; exact fun _ h => ⟨h, rfl⟩) (by rw [hblocks]; exact fun _ _ _ _ => rfl)

/-- A RESERVE takes FREE blocks, which no job holds (R18, R22). -/
theorem serveReserve_placeKept (x : CardNo) (s : State) : PlaceKept s (serveReserve x s).state := by
  unfold serveReserve
  dsimp only
  unfold checked
  split
  · exact .of fun _ _ => id
  · generalize cardStation x = st
    generalize cardNum s x 8 = n
    have hframe := foldl_reserveBlock_frame st (s.free.take n) { s with free := s.free.drop n }
    have hjobs : (acceptReserve st n s).state.jobs = s.jobs := by
      have := congrArg State.jobs hframe
      exact this
    have hprinters : (acceptReserve st n s).state.printers = s.printers := by
      have := congrArg State.printers hframe
      exact this
    refine ⟨fun hj hp => ?_, fun _ hpool hb => ?_⟩
    · have ht : Placed False True { (acceptReserve st n s).state with blocks := s.blocks } :=
        Placed.of_same ⟨hj, False.elim, fun _ => hp⟩ hjobs hprinters rfl
      exact ⟨ht.jobs, ht.printers trivial⟩
    · refine blocksOk_of hb (by rw [hjobs]; exact fun _ h => ⟨h, rfl⟩) fun j hj y hy => ?_
      rw [hjobs] at hj
      refine (foldl_reserveBlock_get st (s.free.take n) { s with free := s.free.drop n } y).trans (if_neg fun hin => ?_)
      exact nomatch ((hpool.2 y).mp (List.mem_of_mem_take hin)).symm.trans ((hb j hj).2 y hy)

theorem PlaceKept.answered {s t : State} (h : PlaceKept s t) (x : CardNo) (a : Answer) (args : List Byte) :
    PlaceKept s (answerServed x a args t) where
  places hj hp := h.places hj hp
  blocks hj hpool hb := h.blocks hj hpool hb

theorem placeKept_commandKept : CommandKept PlaceKept where
  refl _ := .of fun _ _ => id
  before {s t u} h k :=
    have hst : ∀ b c, Placed b c s → Placed b c t := fun _ _ hs => hs.tables h
    { places := fun hj hp =>
        have ht := hst False True ⟨hj, False.elim, fun _ => hp⟩
        k.places ht.jobs (ht.printers trivial)
      blocks := fun hj hpool hb =>
        have ht := hst True False ⟨hj, fun _ => hb, False.elim⟩
        k.blocks ht.jobs (poolOk_of_pool hpool h.pool) (ht.blocks trivial) }
  after {s t u} h k :=
    { places := fun hj hp =>
        have ⟨htj, htp⟩ := h.places hj hp
        have hu := Placed.tables (b := False) (c := True) ⟨htj, False.elim, fun _ => htp⟩ k
        ⟨hu.jobs, hu.printers trivial⟩
      blocks := fun hj hpool hb => by
        have ht := h.blocks hj hpool hb
        exact blocksOk_of ht (by rw [k.jobs]; exact fun _ h => ⟨h, rfl⟩) (by rw [k.blocks]; exact fun _ _ _ _ => rfl) }
  pageDone p n _ := .of fun _ _ h => h.pageDone p n
  credit p n _ := .of fun _ _ h => h.credit p n
  pageFault p n cause _ := .of fun _ _ h => h.pageFault p n cause
  ready p _ := .of fun _ _ h => h.ready p
  paper p low _ := .of fun _ _ h => h.paper p low
  pageTimerExpiry p _ := .of fun _ _ h => h.pageTimerExpiry p
  reconnectTimerExpiry p _ := .of fun _ _ h => h.reconnectTimerExpiry p
  printerLinkLoss p _ := .of fun _ _ h => h.printerLinkLoss p
  printerArrival p s := printerArrival_placeKept p s
  printerReturn p _ := .of fun _ _ h => h.printerReturn p
  kindChange p _ := .of fun _ _ h => h.kindChange p
  printersEnterQuiet _ := .of fun _ _ h => h.printersEnterQuiet
  printersLeaveQuiet _ := .of fun _ _ h => h.printersLeaveQuiet
  request k x a args s _ := by
    by_cases hk : k = .reserve
    · subst hk
      exact (serveReserve_placeKept x s).answered x a args
    · exact (PlaceKept.of fun _ _ h => h.served hk x).answered x a args
  hostWrite w _ := .of fun _ _ h => h.hostWrite w
  takeCard _ := .of fun _ _ h => h.takeCard

/-- Every command keeps every job in its place, with its blocks (R26, R32, R42, R55). -/
theorem exec_placeKept {i : Instr} {s t : State} (ht : exec i s = .next t) : PlaceKept s t := by
  by_cases hi : i = .fullReset
  · subst hi
    cases ht
    exact ⟨fun _ _ => ⟨reset_jobsOk, reset_printersOk⟩, fun _ _ _ => reset_blocksOk⟩
  · exact placeKept_commandKept.exec ht hi

/-- A step is the front command's, on a state that holds the same tables, or nothing. -/
theorem step_placeKept {s t : State} (ht : step s = .next t) : PlaceKept s t := by
  unfold step at ht
  split at ht
  · exact Host.Outcome.next.inj ht ▸ .of fun _ _ => id
  · rename_i rest _
    exact placeKept_commandKept.before (t := s.withPending rest) rfl (exec_placeKept ht)

/-- Settles O11: every operation of the Print Scheduler moves a job only between the places its state names, and frees or
commits only the blocks of the jobs it ends or accepts. -/
theorem stepKeepsJobsInPlace : Obligations.StepKeepsJobsInPlace :=
  ⟨fun _ _ hj hp ht => (step_placeKept ht).places hj hp, fun _ _ hj hpool hb ht => (step_placeKept ht).blocks hj hpool hb⟩

end Sys2Proof.Machine
end

section
/-! ## Discarded and guarded host writes (R24, R151, R153) -/

namespace Sys2Proof.Machine

open Sys2Proof.Safety
open Config

/-- A host write to a discarded place changes nothing (R151, R153). -/
theorem hostWrite_discarded {w : HostWrite} (h : isDiscarded w.address = true) (s : State) : hostWrite w s = s := by
  unfold isDiscarded inAreas areaBase poolBase unmappedBase registerBase cardOffset ringOffset at h
  simp only [Bool.or_eq_true, Bool.and_eq_true, decide_eq_true_eq] at h
  unfold hostWrite areaBase poolBase unmappedBase registerBase
  dsimp only
  rcases h with (hlow | ⟨hfrom, hto⟩) | ⟨⟨hfrom, hto⟩, hplace⟩
  · rw [if_pos hlow]
  · rw [if_neg (by omega), if_neg (by omega), if_neg (by omega), if_pos hto]
  · rw [if_neg (by omega), if_pos hto]
    split
    · unfold writeArea cardOffset ringOffset
      dsimp only
      rcases hplace with ⟨hmark, hcard⟩ | hring
      · rw [if_neg (by omega), if_pos hcard]
      · rw [if_neg (by omega), if_neg (by omega), if_neg (by omega)]
    · rfl

/-- A host write to PART STATUS changes nothing (R151). -/
theorem hostWrite_status {w : HostWrite} (h : inRegister 2 w.address = true) (s : State) : hostWrite w s = s := by
  unfold inRegister registerBase at h
  simp only [Bool.and_eq_true, decide_eq_true_eq] at h
  unfold hostWrite areaBase poolBase unmappedBase registerBase
  dsimp only
  rw [if_neg (by omega), if_neg (by omega), if_neg (by omega), if_neg (by omega),
    show (w.address - 0xFFF8) / 2 = 1 by omega]
  rfl

/-- A host write into the pool goes to the guard of its block (R24). -/
theorem hostWrite_pool {w : HostWrite} (h : inPool w.address = true) (s : State) :
    hostWrite w s = writePool w.address (HostWrite.bytes w) s := by
  unfold inPool poolBase unmappedBase at h
  simp only [Bool.and_eq_true, decide_eq_true_eq] at h
  unfold hostWrite areaBase poolBase unmappedBase
  dsimp only
  rw [if_neg (by omega), if_neg (by omega), if_pos h.2]

/-- The guard of a block is open exactly while the block is RESERVED (R24). -/
theorem guardOpen_iff {s : State} {a : Nat} {b : BlockNo} (hb : b.val = (a - 0x9000) / 256) :
    guardOpen s a = true ↔ ∃ st, s.blocks[b] = .reserved st := by
  have hat : blockAt? a = some b := index?_eq_some b hb.symm
  rw [guardOpen, hat]
  dsimp only
  cases s.blocks[b] with
  | reserved st => exact iff_of_true rfl ⟨st, rfl⟩
  | free | committed _ => exact iff_of_false nofun nofun

/-- The bytes of a host write, each at its address (R151, R182). -/
theorem readMem_hostBytes {m : Memory} (hm : memoryWf m = true) (w : HostWrite) (x : Nat) :
    readMem (writeBytes m w.address (HostWrite.bytes w)) x =
      match w with
      | .byte a v => if x = a.toNat then v else readMem m x
      | .word a v =>
        if x = a.toNat / 2 * 2 then v.setWidth 8
        else if x = a.toNat / 2 * 2 + 1 then (v >>> 8).setWidth 8
        else readMem m x := by
  cases w with
  | byte a v =>
    rw [show writeBytes m (HostWrite.address (.byte a v)) (HostWrite.bytes (.byte a v)) = writeMem m a.toNat v from rfl,
      readMem_writeMem hm]
  | word a v =>
    rw [show writeBytes m (HostWrite.address (.word a v)) (HostWrite.bytes (.word a v)) =
      writeMem (writeMem m (a.toNat / 2 * 2) (loByte v)) (a.toNat / 2 * 2 + 1) (hiByte v) from rfl,
      readMem_writeMem (writeMem_wf hm _ _), readMem_writeMem hm]
    by_cases h0 : x = a.toNat / 2 * 2
    · rw [if_neg (by omega), if_pos h0]
      exact (if_pos h0).symm
    · rw [if_neg h0]
      exact (if_neg h0).symm

/-- Settles O15: what a host write does is settled by its region, and in the pool by the state of its block. -/
theorem discardedAndGuardedWrites : Obligations.DiscardedAndGuardedWrites := by
  refine ⟨fun w s hw => congrArg Host.Outcome.next (hostWrite_discarded hw s),
    fun w s hw => congrArg Host.Outcome.next (hostWrite_status hw s), fun w s b hm hw hb => ⟨fun st hst => ?_, fun hst => ?_⟩⟩
  · refine ⟨_, rfl, ?_⟩
    rw [hostWrite_pool hw]
    unfold writePool
    rw [if_pos ((guardOpen_iff hb).mpr ⟨st, hst⟩)]
    exact ⟨rfl, readMem_hostBytes hm w⟩
  · show Host.Outcome.next (hostWrite w s) = _
    rw [hostWrite_pool hw]
    unfold writePool
    rw [if_neg fun h => have ⟨st, hres⟩ := (guardOpen_iff hb).mp h; hst st hres]

end Sys2Proof.Machine
end

section
/-! ## RESERVE and UNRESERVE (R20–R23) -/

namespace Sys2Proof.Machine

open Sys2Proof.Safety
open Config

/-! ### What both requests leave -/

/-- An event that leaves the jobs and what the port entries show as they are publishes station entries and the pool alone. -/
theorem publish_poolStations {s t : State} (hj : t.jobs = s.jobs) (hp : ∀ p, portItems s p = portItems t p) :
    publish [] s t = { t with
      stationCount := (publish [] s t).stationCount, poolCount := (publish [] s t).poolCount } := by
  rw [publish_eq, publish_jobCount fun j => by rw [hj], publish_portCount hp]

/-! ### RESERVE accepted (R22) -/

theorem foldl_reserveBlock_wf (st : StationNo) (l : List BlockNo) {s : State} (hm : memoryWf s.mem = true) :
    memoryWf (l.foldl (reserveBlock st) s).mem = true :=
  foldl_inv (P := fun t : State => memoryWf t.mem = true) _ (fun _ _ h => clearMem_wf h _ _) l s hm

/-- Blocks taken read 00H, and no other byte has changed (R22). -/
theorem foldl_reserveBlock_mem (st : StationNo) (l : List BlockNo) {s : State} (hm : memoryWf s.mem = true) (a : Nat) :
    ((∃ b ∈ l, InBlock b a) → readMem (l.foldl (reserveBlock st) s).mem a = 0) ∧
      ((¬ ∃ b ∈ l, InBlock b a) → readMem (l.foldl (reserveBlock st) s).mem a = readMem s.mem a) := by
  induction l generalizing s with
  | nil => exact ⟨fun ⟨_, hb, _⟩ => absurd hb List.not_mem_nil, fun _ => rfl⟩
  | cons c l ih =>
    obtain ⟨hin, hout⟩ := ih (s := reserveBlock st s c) (clearMem_wf hm _ _)
    have hclear : InBlock c a → readMem (reserveBlock st s c).mem a = 0 := fun ha =>
      (readMem_clearMem hm ..).trans (if_pos ha)
    have hkeep : ¬ InBlock c a → readMem (reserveBlock st s c).mem a = readMem s.mem a := fun ha =>
      (readMem_clearMem hm ..).trans (if_neg ha)
    rw [List.foldl_cons]
    refine ⟨fun ⟨b, hb, ha⟩ => ?_, fun hno => ?_⟩
    · by_cases hl : ∃ b ∈ l, InBlock b a
      · exact hin hl
      · rcases List.mem_cons.mp hb with rfl | hb
        · rw [hout hl, hclear ha]
        · exact absurd ⟨b, hb, ha⟩ hl
    · rw [hout fun ⟨b, hb, ha⟩ => hno ⟨b, List.mem_cons_of_mem c hb, ha⟩,
        hkeep fun ha => hno ⟨c, List.mem_cons_self, ha⟩]

/-- The checks of RESERVE pass (R21). -/
theorem reserveChecks_pass {s : State} {st : StationNo} {n : Nat} (h1 : 1 ≤ n) (h32 : n ≤ 32)
    (hquota : s.stations[st].holdings + n ≤ s.stations[st].quota) (hfree : n ≤ s.free.length) :
    firstFailing (reserveChecks s st n) = none := by
  rw [firstFailing_none_iff]
  unfold reserveChecks
  simp only [List.forall_mem_cons]
  exact ⟨by simp [h1, h32], decide_eq_true hquota, decide_eq_true hfree, by simp⟩

/-- An accepted RESERVE before its answer: the free list, the blocks, their bytes and the holdings alone have changed. -/
theorem acceptReserve_eq (st : StationNo) (n : Nat) (s : State) : (acceptReserve st n s).state =
    { s with
      mem := (acceptReserve st n s).state.mem, blocks := (acceptReserve st n s).state.blocks, free := s.free.drop n
      stations := put s.stations st { s.stations[st] with holdings := s.stations[st].holdings + n } } := by
  unfold acceptReserve
  dsimp only
  rw [foldl_reserveBlock_frame]
  rfl

theorem byteOf_toNat {n : Nat} (h : n < 256) : (byteOf n).toNat = n := Nat.mod_eq_of_lt h

/-- A byte of an accepted RESERVE's card behind offset 7 is the number of a block taken (R22). -/
theorem answered_argument {s : State} (hm : memoryWf s.mem = true) (c : CardNo) (a : Answer) {args : List Byte} {i : Nat}
    (hi : i < args.length) : cardByte (answerServed c a args s) c (8 + i) = args.getD i 0 := by
  unfold cardByte
  rw [answerServed_mem, readMem_answerCard hm, if_neg (by omega), if_pos (by omega)]
  exact congrArg (args.getD · 0) (by omega)

/-- No byte of a card lies in the pool (R151). -/
theorem card_below_pool (c : CardNo) {a : Nat} (h : a < cardAddress c + 0x60) (b : BlockNo) : ¬ InBlock b a := by
  unfold InBlock blockAddress poolBase
  rw [cardAddress_eq] at h
  omega

/-- The accepted RESERVE, served and answered (R22, R163). -/
theorem reserve_accepted {c : CardNo} {s : State} {n : Nat} (hs : Serving .reserve c s) (hn : cardNum s c 8 = n)
    (h1 : 1 ≤ n) (h32 : n ≤ 32) (hquota : s.stations[cardStation c].holdings + n ≤ s.stations[cardStation c].quota)
    (hfree : n ≤ s.free.length) :
    exec .reserve s = .next (publish [] s (answerServed c { outcome := .ok, value := s.free.length - n }
      ((s.free.take n).map fun b => byteOf b.val) (acceptReserve (cardStation c) n s).state)) := by
  have hanswer : (acceptReserve (cardStation c) n s).answer = { outcome := .ok, value := s.free.length - n } := by
    have hdrop : (acceptReserve (cardStation c) n s).state.free = s.free.drop n := by rw [acceptReserve_eq]
    rw [← List.length_drop, ← hdrop]
    rfl
  show serve .reserve serveReserve s = _
  rw [serve_serving hs]
  unfold serveReserve
  dsimp only
  rw [hn, checked_pass (reserveChecks_pass h1 h32 hquota hfree), hanswer]
  rfl

/-- Settles O21: the accepted RESERVE, its blocks, their bytes and the answer. -/
theorem reserveTakesTheHead : Obligations.ReserveTakesTheHead := by
  intro c s hm _ hs h1 h32 hquota hfree
  have hexec := reserve_accepted hs rfl h1 h32 hquota hfree
  generalize cardNum s c 8 = n at *
  have hframe := acceptReserve_eq (cardStation c) n s
  have hwf : memoryWf (acceptReserve (cardStation c) n s).state.mem = true := foldl_reserveBlock_wf _ _ hm
  have hmem := foldl_reserveBlock_mem (cardStation c) (s.free.take n) (s := { s with free := s.free.drop n }) hm
  have hblock : ∀ b : BlockNo, (acceptReserve (cardStation c) n s).state.blocks[b] =
      if b ∈ s.free.take n then .reserved (cardStation c) else s.blocks[b] :=
    foldl_reserveBlock_get (cardStation c) (s.free.take n) { s with free := s.free.drop n }
  obtain ⟨args, hargs⟩ : ∃ args, args = (s.free.take n).map fun b => byteOf b.val := ⟨_, rfl⟩
  have hlength : args.length = n := by rw [hargs, List.length_map, List.length_take, Nat.min_eq_left hfree]
  rw [← hargs] at hexec
  generalize hstate : (acceptReserve (cardStation c) n s).state = u at hexec hwf hblock hframe
  have hbytes : ∀ a, ((∃ b ∈ s.free.take n, InBlock b a) → readMem u.mem a = 0) ∧
      ((¬ ∃ b ∈ s.free.take n, InBlock b a) → readMem u.mem a = readMem s.mem a) := by
    subst hstate
    exact hmem
  clear hmem hstate
  obtain ⟨m, bs, hu⟩ : ∃ m bs, u = { s with
    mem := m, blocks := bs, free := s.free.drop n
    stations := put s.stations (cardStation c)
      { s.stations[cardStation c] with holdings := s.stations[cardStation c].holdings + n } } := ⟨_, _, hframe⟩
  subst hu
  refine ⟨_, hexec, answerServed_stands hwf c _ args, rfl, fun b hb => ⟨?_, fun a ha => ?_⟩,
    fun b hb => (hblock b).trans (if_neg hb), fun i b hi hb => ?_, rfl, fun a ha => ?_, ?_⟩
  · exact (hblock b).trans (if_pos hb)
  · have hcard : ¬ a < cardAddress c + 0x60 := fun h => card_below_pool c h b ha
    show readMem (answerServed c _ args _).mem a = 0
    rw [answerServed_mem, readMem_answerCard hwf, if_neg (by omega), if_neg (by omega)]
    exact (hbytes a).1 ⟨b, hb, ha⟩
  · show (cardByte (answerServed c _ args _) c (8 + i)).toNat = b.val
    rw [answered_argument hwf c _ (by omega), hargs, List.getD_eq_getElem?_getD, List.getElem?_map,
      List.getElem?_take_of_lt hi, hb]
    exact byteOf_toNat (by omega)
  · obtain ⟨hfield, hrest⟩ := not_or.mp ha
    obtain ⟨hlist, hpool⟩ := not_or.mp hrest
    show readMem (answerServed c _ args _).mem a = _
    rw [answerServed_mem, readMem_answerCard hwf,
      if_neg (show ¬ (cardAddress c + 4 ≤ a ∧ a < cardAddress c + 8) from hfield), hlength, if_neg hlist]
    exact (hbytes a).2 hpool
  · exact publish_poolStations rfl fun _ => rfl

/-! ### RESERVE refused (R21) -/

/-- Settles O22: the first check that fails, in each of the three places. -/
theorem reserveRefusals : Obligations.ReserveRefusals := by
  intro c s hm hs
  have refused : ∀ a, firstFailing (reserveChecks s (cardStation c) (cardNum s c 8)) = some a →
      ∃ t, exec .reserve s = .next t ∧ OnlyAnswered c a s t := fun a ha =>
    refused_answer (f := serveReserve) hm hs (checked_fail ha _)
  have count : 1 ≤ cardNum s c 8 ∧ cardNum s c 8 ≤ 32 →
      (decide (1 ≤ cardNum s c 8) && decide (cardNum s c 8 ≤ 32)) = true := fun ⟨h1, h32⟩ => by simp [h1, h32]
  refine ⟨fun hn => refused _ ?_, fun hn hquota => refused _ ?_, fun hn hquota hfree => refused _ ?_⟩
  · have hfail : (decide (1 ≤ cardNum s c 8) && decide (cardNum s c 8 ≤ 32)) = false := by
      rw [Bool.eq_false_iff, ne_eq, Bool.and_eq_true, decide_eq_true_eq, decide_eq_true_eq]
      exact hn
    unfold reserveChecks
    rw [hfail, firstFailing_fail]
  · unfold reserveChecks
    rw [count hn, firstFailing_pass, decide_eq_false (Nat.not_le.mpr hquota), firstFailing_fail]
    split
    · rw [Nat.sub_eq_zero_of_le ‹_›]
    · rfl
  · unfold reserveChecks
    rw [count hn, firstFailing_pass, decide_eq_true hquota, firstFailing_pass,
      decide_eq_false (Nat.not_le.mpr hfree), firstFailing_fail]

/-! ### UNRESERVE (R23) -/

/-- A block RESERVED by the station is the one its number names. -/
theorem ownReserved?_val {s : State} {st : StationNo} {b : BlockNo} (h : s.blocks[b] = .reserved st) :
    ownReserved? s st b.val = some b := by
  unfold ownReserved?
  rw [index?_eq_some b rfl]
  exact if_pos h

/-- A list of blocks RESERVED by the station names them. -/
theorem listedBlocks_map {s : State} {st : StationNo} {bs : List BlockNo} (h : ∀ b ∈ bs, s.blocks[b] = .reserved st) :
    listedBlocks s st (bs.map Fin.val) = bs := by
  unfold listedBlocks
  rw [List.filterMap_map]
  exact (List.filterMap_congr fun b hb => ownReserved?_val (h b hb)).trans List.filterMap_some

/-- No entry of a list that begins with distinct blocks RESERVED by the station fails among them. -/
theorem not_badEntry {s : State} {st : StationNo} {entries : List Nat} {bs : List BlockNo}
    (hpre : entries.take bs.length = bs.map Fin.val) (hnodup : bs.Nodup) (hres : ∀ b ∈ bs, s.blocks[b] = .reserved st)
    {k : Nat} (hk : k < bs.length) : ¬ BadEntry s st entries k := by
  have hat : ∀ i (hi : i < bs.length), entries[i]? = some bs[i].val := fun i hi => by
    rw [← List.getElem?_take_of_lt hi, hpre, List.getElem?_map, List.getElem?_eq_getElem hi]
    rfl
  rintro ⟨e, he, hbad⟩
  have hek : e = bs[k].val := Option.some.inj (he.symm.trans (hat k hk))
  rcases hbad with hbad | hbad
  · exact hbad bs[k] hek.symm (hres _ (List.getElem_mem hk))
  · obtain ⟨i, hi, heq⟩ := List.mem_take_iff_getElem.mp hbad
    have hik : i < k := by omega
    have hei := hat i (by omega)
    rw [List.getElem?_eq_getElem (by omega), heq, hek] at hei
    have hval := Fin.ext (Option.some.inj hei)
    exact absurd (hnodup.getElem_inj_iff.mp hval) (by omega)

theorem readBytes_take (m : Memory) (a : Nat) {k n : Nat} (h : k ≤ n) : (readBytes m a n).take k = readBytes m a k := by
  induction n generalizing a k with
  | zero => rw [Nat.le_zero.mp h]; rfl
  | succ n ih =>
    cases k with
    | zero => rfl
    | succ k => exact congrArg (readMem m a :: ·) (ih (a + 1) (Nat.le_of_succ_le_succ h))

/-- The first entries of a card's list. -/
theorem cardList_take (s : State) (c : CardNo) (o : Nat) {k n : Nat} (h : k ≤ n) :
    (cardList s c o n).take k = cardList s c o k := by
  unfold cardList
  rw [← List.map_take, readBytes_take _ _ h]

/-- An UNRESERVE with a count of 1–32 is settled by its list (R23). -/
theorem serveUnreserve_eq {c : CardNo} {s : State} (h1 : 1 ≤ cardNum s c 8) (h32 : cardNum s c 8 ≤ 32) :
    serveUnreserve c s = match firstBadEntry s (cardStation c) 0 [] (cardList s c 9 (cardNum s c 8)) with
      | some i => refuse s { outcome := .badArgument, detail := i }
      | none => acceptUnreserve (cardStation c) (cardNum s c 8) (cardList s c 9 (cardNum s c 8)) s := by
  have hcount : (decide (1 ≤ cardNum s c 8) && decide (cardNum s c 8 ≤ 32)) = true := by simp [h1, h32]
  unfold serveUnreserve checked unreserveChecks
  dsimp only
  rw [hcount, firstFailing_pass]
  cases firstBadEntry s (cardStation c) 0 [] (cardList s c 9 (cardNum s c 8)) <;> rfl

/-- An accepted UNRESERVE (R23). -/
theorem unreserve_accepted (c : CardNo) (s : State) (bs : List BlockNo) (hm : MemoryOk s) (hs : Serving .unreserve c s)
    (h1 : 1 ≤ bs.length) (h32 : bs.length ≤ 32) (hn : cardNum s c 8 = bs.length)
    (hlist : cardList s c 9 bs.length = bs.map Fin.val) (hnodup : bs.Nodup)
    (hres : ∀ b ∈ bs, s.blocks[b] = .reserved (cardStation c)) :
    ∃ t, exec .unreserve s = .next t ∧
      AnswerStands c { outcome := .ok, value := s.free.length + bs.length } t ∧
      t.free = s.free ++ bs ∧ (∀ b ∈ bs, t.blocks[b] = .free) ∧ (∀ b ∉ bs, t.blocks[b] = s.blocks[b]) ∧
      t.stations = put s.stations (cardStation c)
        { s.stations[cardStation c] with holdings := s.stations[cardStation c].holdings - bs.length } ∧
      MemoryKept s t (AnswerField c) ∧
      t = { s with
        mem := t.mem, cards := put s.cards c .answered, serving := none
        notice := s.notice ||| stationBit (cardStation c), stations := t.stations, blocks := t.blocks, free := t.free
        stationCount := t.stationCount, poolCount := t.poolCount } := by
  have hfree : (freedPool bs (poolOf s)).2 = s.free ++ bs :=
    freedPool_free hnodup fun b hb => (hres b hb).trans_ne nofun
  have hgood : firstBadEntry s (cardStation c) 0 [] (bs.map Fin.val) = none := by
    have hfirst := firstBadEntry_first s (cardStation c) (bs.map Fin.val)
    cases hbad : firstBadEntry s (cardStation c) 0 [] (bs.map Fin.val) with
    | none => rfl
    | some j =>
      rw [hbad] at hfirst
      obtain ⟨e, he, _⟩ := hfirst.1
      have hj : j < bs.length := by
        have := (List.getElem?_eq_some_iff.mp he).1
        rwa [List.length_map] at this
      exact absurd hfirst.1 (not_badEntry (List.take_of_length_le (by simp)) hnodup hres hj)
  have hf : serveUnreserve c s =
      { state := updStation (withPool s (freedPool bs (poolOf s))) (cardStation c) fun r =>
          { r with holdings := r.holdings - bs.length }
        answer := { outcome := .ok, value := s.free.length + bs.length } } := by
    rw [serveUnreserve_eq (hn ▸ h1) (hn ▸ h32), hn, hlist, hgood]
    unfold acceptUnreserve
    dsimp only
    rw [listedBlocks_map hres, freeBlocks_eq]
    have hlength : (withPool s (freedPool bs (poolOf s))).free.length = s.free.length + bs.length :=
      (congrArg List.length hfree).trans List.length_append
    rw [hlength]
  obtain ⟨t, ht, ha, hk, rfl⟩ := served_answer (f := serveUnreserve) hm hs hf rfl
  exact ⟨_, ht, ha, hfree, fun b hb => (freedPool_get bs (poolOf s) b).trans (if_pos hb),
    fun b hb => (freedPool_get bs (poolOf s) b).trans (if_neg hb), rfl, hk, publish_poolStations rfl fun _ => rfl⟩

/-- An UNRESERVE whose first bad entry is at the place after some distinct blocks of the station (R23). -/
theorem unreserve_refused {c : CardNo} {s : State} {bs : List BlockNo} {e : Nat} (hm : MemoryOk s)
    (hs : Serving .unreserve c s) (h32 : cardNum s c 8 ≤ 32) (hlt : bs.length < cardNum s c 8)
    (hlist : cardList s c 9 (bs.length + 1) = bs.map Fin.val ++ [e]) (hnodup : bs.Nodup)
    (hres : ∀ b ∈ bs, s.blocks[b] = .reserved (cardStation c))
    (hbad : ∀ b : BlockNo, b.val = e → s.blocks[b] = .reserved (cardStation c) → b ∈ bs) :
    ∃ t, exec .unreserve s = .next t ∧ OnlyAnswered c { outcome := .badArgument, detail := bs.length } s t := by
  refine refused_answer (f := serveUnreserve) hm hs ?_
  rw [serveUnreserve_eq (by omega) h32]
  generalize hentries : cardList s c 9 (cardNum s c 8) = entries
  have htake : entries.take (bs.length + 1) = bs.map Fin.val ++ [e] := by
    rw [← hentries, cardList_take _ _ _ (by omega), hlist]
  have hpre : entries.take bs.length = bs.map Fin.val := by
    have := congrArg (List.take bs.length) htake
    rwa [List.take_take, Nat.min_eq_left (Nat.le_succ _), List.take_left' (by simp)] at this
  have hat : entries[bs.length]? = some e := by
    rw [← List.getElem?_take_of_lt (Nat.lt_succ_self _), htake, List.getElem?_append_right (by simp)]
    simp
  have hfails : BadEntry s (cardStation c) entries bs.length := by
    refine ⟨e, hat, ?_⟩
    by_cases h : ∃ b : BlockNo, b.val = e ∧ s.blocks[b] = .reserved (cardStation c)
    · obtain ⟨b, hb, hr⟩ := h
      rw [hpre]
      exact .inr (List.mem_map.mpr ⟨b, hbad b hb hr, hb⟩)
    · exact .inl fun b hb hr => h ⟨b, hb, hr⟩
  have hfirst := firstBadEntry_first s (cardStation c) entries
  cases hj : firstBadEntry s (cardStation c) 0 [] entries with
  | none =>
    rw [hj] at hfirst
    exact absurd hfails (hfirst bs.length)
  | some j =>
    rw [hj] at hfirst
    have hle : ¬ bs.length < j := fun h => hfirst.2 _ h hfails
    have hge : ¬ j < bs.length := fun h => not_badEntry hpre hnodup hres h hfirst.1
    rw [show j = bs.length by omega]

/-- Settles O23: the accepted UNRESERVE, a bad count and a first bad entry. -/
theorem unreserveReturnsBlocks : Obligations.UnreserveReturnsBlocks := by
  refine ⟨unreserve_accepted, fun c s hm hs hn => ?_, fun c s bs e hm hs h32 hlt hlist hnodup hres hbad =>
    unreserve_refused hm hs h32 hlt hlist hnodup hres hbad⟩
  refine refused_answer (f := serveUnreserve) hm hs ?_
  have hfail : (decide (1 ≤ cardNum s c 8) && decide (cardNum s c 8 ≤ 32)) = false := by
    rw [Bool.eq_false_iff, ne_eq, Bool.and_eq_true, decide_eq_true_eq, decide_eq_true_eq]
    omega
  unfold serveUnreserve unreserveChecks
  dsimp only
  rw [hfail]
  rfl

end Sys2Proof.Machine
end

section
/-! ## The bytes that records given change, and the blocks of an ended job (R18, R27, R51, R167–R170) -/

namespace Sys2Proof.Machine

open Sys2Proof.Safety
open Config

/-! ### Records given change bytes of rings alone -/

theorem memoryKept_trans {s t u : State} {F G H : Nat → Prop} (h : MemoryKept s t F) (k : MemoryKept t u G)
    (hF : ∀ a, F a → H a) (hG : ∀ a, G a → H a) : MemoryKept s u H :=
  fun a ha => (k a fun hg => ha (hG a hg)).trans (h a fun hf => ha (hF a hf))

theorem memoryKept_mono {s t : State} {F G : Nat → Prop} (h : MemoryKept s t F) (hFG : ∀ a, F a → G a) :
    MemoryKept s t G := fun a ha => h a fun hf => ha (hFG a hf)

/-- A record that fits changes no byte outside its ring, wherever the write mark stands: a mark past the ring's end makes an
empty SKIP. -/
theorem writeRecord_bytes {s : State} {st : StationNo} {r : Record}
    (hf : fits s.delivery[st] (recordLength r) = true) (x : Half) : MemoryKept s (writeRecord st r x s) (InRing st) := by
  rw [fits_iff] at hf
  intro a ha
  unfold InRing ringBytes at ha
  have hplace : recordPlace s.delivery[st] (recordLength r) =
      if recordLength r ≤ 1792 - s.delivery[st].w then s.delivery[st].w else 0 := rfl
  have hlength := recordLength_ge r
  have hpast : a < ringAddress st + recordPlace s.delivery[st] (recordLength r) ∨
      ringAddress st + recordPlace s.delivery[st] (recordLength r) + recordLength r ≤ a := by
    rw [hplace]
    split at hf <;> rename_i h
    · rw [if_pos h]
      omega
    · rw [if_neg h]
      omega
  rw [writeRecord_mem, readMem_writeBytes_other _ _ _ (by rw [recordBytes_length]; exact hpast)]
  unfold afterSkip
  split
  · rfl
  · refine readMem_writeBytes_other _ _ _ ?_
    unfold skipBytes toEnd ringBytes
    rw [padTo_length]
    omega

theorem giveStatus_bytes (st : StationNo) (r : Record) (s : State) : MemoryKept s (giveStatus st r s) (InRing st) := by
  unfold giveStatus
  split
  · exact fun _ _ => rfl
  · split
    · next hw => exact writeRecord_bytes (canWrite_fits hw) _
    · split <;> exact fun _ _ => rfl

theorem giveProgress_bytes (st : StationNo) (r : Record) (s : State) :
    MemoryKept s (giveProgress st r s) (InRing st) := by
  unfold giveProgress
  split
  · exact fun _ _ => rfl
  · split
    · next hw => exact writeRecord_bytes (canWrite_fits hw) _
    · exact fun _ _ => rfl

theorem giveStatusTo_bytes (o : Option StationNo) (r : Record) (s : State) :
    MemoryKept s (giveStatusTo o r s) fun a => ∃ st, o = some st ∧ InRing st a := by
  cases o with
  | none => exact fun _ _ => rfl
  | some st => exact memoryKept_mono (giveStatus_bytes st r s) fun a ha => ⟨st, rfl, ha⟩

theorem given_bytes (rs : List (StationNo × Record)) (s : State) :
    MemoryKept s (given rs s) fun a => ∃ st, InRing st a := by
  induction rs generalizing s with
  | nil => exact fun _ _ => rfl
  | cons r rs ih => exact memoryKept_trans (giveStatus_bytes r.1 r.2 s) (ih _) (fun a ha => ⟨r.1, ha⟩) fun _ => id

/-- PRINTER FAULT, as records given (R70). -/
theorem reportFault_given (r : Record) (o : Option StationNo) :
    ∃ rs, ∀ t : State, reportFault r o t = given rs t := by
  cases o with
  | none => exact ⟨[(0, r)], fun _ => rfl⟩
  | some st =>
    by_cases h : st = 0
    · exact ⟨[(0, r)], fun t => if_pos h⟩
    · exact ⟨[(st, r), (0, r)], fun t => if_neg h⟩

/-! ### What a job's end leaves of the pool and the holdings -/

/-- A job's blocks freed and its owner's holdings dropped, as the rules say it (R18, R27, R51). -/
theorem freed_of_pool {job : Job} {s t : State} (hpool : poolOf t = freedPool job.blocks (poolOf s))
    (hstations : t.stations = (dropHoldings job.owner job.blocks.length s).stations) : Freed job s t := by
  have hblock : ∀ b : BlockNo, t.blocks[b] = if b ∈ job.blocks then .free else s.blocks[b] := fun b =>
    (congrArg (fun x : Vector BlockState 96 × List BlockNo => x.1[b]) hpool).trans (freedPool_get ..)
  refine ⟨fun b hb => (hblock b).trans (if_pos hb), fun b hb => (hblock b).trans (if_neg hb), fun hnodup hused => ?_,
    fun st => ?_⟩
  · exact (congrArg Prod.snd hpool).trans (freedPool_free (x := poolOf s) hnodup hused)
  · rw [hstations]
    cases job.owner with
    | none => rfl
    | some x =>
      show (put s.stations x { s.stations[x] with holdings := _ })[st.val] = _
      rw [put_get_eq]
      by_cases h : x = st
      · subst h
        simp
      · simp [h]

end Sys2Proof.Machine
end

section
/-! ## What a printer, a scanner and a panel lose with their link (R74, R99, R122) -/

namespace Sys2Proof.Machine

open Sys2Proof.Safety
open Config

/-! ### A printer's loss (R74, R49) -/

/-- The record of a printer whose link is lost (R74). -/
def detachedPrinter (s : State) (p : PortNo) : Printer :=
  { s.printers[p] with
    state := .detached, hold := none, page := none, sent := 0, credits := 0, pageTimer := none
    reconnect := some { start := s.time, length := s.printerSet[p].reconnectWindow * 1000 } }

/-- The state in which a lost printer's record stands and its notice is taken. -/
def detachedState (s : State) (p : PortNo) (rest : List PortNotice) : State :=
  { s with toPrint := put s.toPrint p rest, printers := put s.printers p (detachedPrinter s p) }

theorem printerLinkLoss_eq {p : PortNo} {rest : List PortNotice} {s : State} (h : s.toPrint[p] = .loss :: rest) :
    printerLinkLoss p s =
      if attached s.printers[p] = true then
        match s.printers[p].current with
        | some j =>
          if s.jobs[j].cancelPending = true then endJob s.jobs[j].reason (detachedState s p rest) j
          else detachedState s p rest
        | none => detachedState s p rest
      else { s with toPrint := put s.toPrint p rest } := by
  have hpop : popPrint p s = { s with toPrint := put s.toPrint p rest } := by
    unfold popPrint
    rw [h, List.tail_cons]
  unfold printerLinkLoss
  rw [h, List.head?_cons]
  dsimp only
  rw [hpop]
  rfl

/-- The suspended slot without a job, in the two forms of the model. -/
theorem suspended_without (o : Option JobNo) (j : JobNo) : (if o = some j then none else o) = o.filter (· ≠ j) := by
  cases o with
  | none => rfl
  | some k =>
    by_cases hk : k = j
    · rw [hk, if_pos rfl, Option.filter_some_neg (by simp)]
    · rw [if_neg fun e => hk (Option.some.inj e), Option.filter_some_pos (by simpa using hk)]

/-- A printer record that its current job has left (R51, R65). -/
theorem leavePlace_current {j : JobNo} {r : Printer} (h : r.current = some j) : leavePlace j r =
    { r with
      current := none, suspended := r.suspended.filter (· ≠ j), queue := r.queue.filter (· ≠ j)
      suspendPending := false } := by
  unfold leavePlace
  rw [if_pos h, if_pos h, suspended_without]

/-- An entry replaced, and the new one changed in turn. -/
theorem put_twice {α : Type} {n : Nat} {p q : Fin n} (h : q = p) (v : Vector α n) (x : α) (f : α → α) :
    put (put v p x) q (f (put v p x)[q]) = put v p (f x) := by
  subst h
  rw [put_put, Fin.getElem_fin, put_get]

theorem dropHoldings_stations {s u : State} (hu : u.stations = s.stations) (o : Option StationNo) (n : Nat) :
    (dropHoldings o n u).stations = (dropHoldings o n s).stations := by rw [dropHoldings_eq hu]

/-- The record of a job that ends with its pending reason. -/
theorem endedRecord_pending {s : State} {j : JobNo} (h : s.jobs[j].cancelPending = true) (why : EndReason) :
    endedRecord why s j = .jobEnded j s.jobs[j].port s.jobs[j].serial s.jobs[j].pagesDone s.jobs[j].pageCount
      s.jobs[j].reason := by
  unfold endedRecord
  rw [if_pos h]

theorem endedJob_reason (job : Job) : endedJob job.reason job = { job with state := .free } := by
  unfold endedJob
  rw [ite_self]

/-- The end of a lost printer's cancel-pending job in one piece (R49, R74). -/
theorem endJob_detached {p : PortNo} {j : JobNo} {s : State} (rest : List PortNotice)
    (hpending : s.jobs[j].cancelPending = true) (hp : s.jobs[j].port = p) :
    endJob s.jobs[j].reason (detachedState s p rest) j =
      withRings (endedState s.jobs[j].reason (detachedState s p rest) j)
        (giveStatusTo s.jobs[j].owner (.jobEnded j p s.jobs[j].serial s.jobs[j].pagesDone s.jobs[j].pageCount
          s.jobs[j].reason) s) := by
  have halike : RingsAlike s (detachedState s p rest) := ⟨rfl, rfl, rfl, rfl, fun _ => rfl⟩
  have hrecord := endedRecord_pending (s := detachedState s p rest) hpending s.jobs[j].reason
  rw [show (detachedState s p rest).jobs = s.jobs from rfl, hp] at hrecord
  rw [endJob_eq, hrecord, show (detachedState s p rest).jobs = s.jobs from rfl, halike.giveStatusTo]
  rfl

theorem printerLinkLoss_reaches (p : PortNo) (rest : List PortNotice) (s : State) (h : s.toPrint[p] = .loss :: rest) :
    (attached s.printers[p] = true → (∀ j, s.printers[p].current = some j → s.jobs[j].cancelPending = false) →
      ∃ t, exec (.printerLinkLoss p) s = .next t ∧
        t = { s with
          toPrint := put s.toPrint p rest, portCount := t.portCount
          printers := put s.printers p (detachedPrinter s p) }) ∧
    (∀ j, attached s.printers[p] = true → s.printers[p].current = some j → s.jobs[j].cancelPending = true →
      s.jobs[j].port = p →
      ∃ t, exec (.printerLinkLoss p) s = .next t ∧
        t.printers = put s.printers p
          { detachedPrinter s p with
            current := none, suspended := s.printers[p].suspended.filter (· ≠ j)
            queue := s.printers[p].queue.filter (· ≠ j), suspendPending := false } ∧
        t.jobs = put s.jobs j { s.jobs[j] with state := .free } ∧
        Told (giveStatusTo s.jobs[j].owner (.jobEnded j p s.jobs[j].serial s.jobs[j].pagesDone
          s.jobs[j].pageCount s.jobs[j].reason) s) t ∧
        Freed s.jobs[j] s t ∧
        MemoryKept s t (fun a => ∃ st, s.jobs[j].owner = some st ∧ InRing st a) ∧
        t = { s with
          toPrint := put s.toPrint p rest, printers := t.printers, jobs := t.jobs, blocks := t.blocks, free := t.free
          stations := t.stations, mem := t.mem, delivery := t.delivery, notice := t.notice, portCount := t.portCount
          jobCount := t.jobCount, stationCount := t.stationCount, poolCount := t.poolCount }) ∧
    (attached s.printers[p] = false →
      exec (.printerLinkLoss p) s = .next { s with toPrint := put s.toPrint p rest }) := by
  have hexec : exec (.printerLinkLoss p) s = .next (publish [] s (printerLinkLoss p s)) := rfl
  refine ⟨fun ha hnone => ⟨_, hexec, ?_⟩, fun j ha hc hpending hp => ⟨_, hexec, ?_⟩, fun ha => ?_⟩
  · have heq : printerLinkLoss p s = detachedState s p rest := by
      rw [printerLinkLoss_eq h, if_pos ha]
      split
      · next j hc => rw [if_neg (by rw [hnone j hc]; exact Bool.false_ne_true)]
      · rfl
    rw [heq]
    exact publish_portsOnly [] rfl rfl rfl rfl
  · have heq : printerLinkLoss p s = endJob s.jobs[j].reason (detachedState s p rest) j := by
      rw [printerLinkLoss_eq h, if_pos ha, hc]
      dsimp only
      rw [if_pos hpending]
    rw [heq, endJob_detached rest hpending hp]
    refine ⟨?_, congrArg (put s.jobs j) (endedJob_reason _), ⟨rfl, rfl, rfl⟩,
      freed_of_pool rfl (dropHoldings_stations (s := s) (u := detachedState s p rest) rfl _ _),
      giveStatusTo_bytes _ _ s, rfl⟩
    show put (put s.printers p (detachedPrinter s p)) s.jobs[j].port
      (leavePlace j (put s.printers p (detachedPrinter s p))[s.jobs[j].port]) = _
    exact (put_twice hp ..).trans (congrArg (put s.printers p) (leavePlace_current hc))
  · rw [hexec, printerLinkLoss_eq h, if_neg (by rw [ha]; exact Bool.false_ne_true)]
    exact congrArg Host.Outcome.next (publish_same (fun _ => rfl) (fun _ => rfl) (fun _ => rfl) rfl)

/-! ### A scanner's loss (R99) -/

theorem dropWaits_eq (p : PortNo) (why : ClaimEnd) (s : State) : dropWaits p why s =
    given (s.scanners[p].queue.map fun w => (w.station, .claimEnded p true 0 why))
      (withScanners s (put s.scanners p { s.scanners[p] with queue := [] })) := by
  unfold dropWaits given
  rw [List.foldl_map]
  rfl

/-- A scanner record after its teardown (R99, R100). -/
def tornDown (why : ClaimEnd) (r : Scanner) : Scanner :=
  match claimOf r.state with
  | some c => { r with state := .free, lastEnd := some (why, c.serial), queue := [] }
  | none => { r with queue := [] }

/-- A teardown in one piece: the record, and the records given in their order (R99, R100). -/
theorem tearDown_eq (p : PortNo) {why : ClaimEnd} (hwhy : tellsHolder why = true) (s : State) : tearDown p why s =
    given (teardownRecords p why s.scanners[p]) (withScanners s (put s.scanners p (tornDown why s.scanners[p]))) := by
  unfold tearDown teardownRecords tornDown
  cases hstate : s.scanners[p].state with
  | held c =>
    simp only [claimOf, dropWaits_eq, dropClaim_eq, hwhy, if_true, given_append, given_scannersField, ← given_scanners,
      withScanners_scanners, withScanners_twice, put_put, Fin.getElem_fin, put_get]
  | free | absent =>
    simp only [claimOf, dropWaits_eq, List.nil_append, hstate]

theorem loseScanner_eq (p : PortNo) (s : State) : loseScanner p s =
    given (teardownRecords p .deviceLost s.scanners[p]) (withScanners s (put s.scanners p
      { s.scanners[p] with
        state := .absent, queue := [], lastCode := none
        lastEnd := match s.scanners[p].state with
          | .held claim => some (.deviceLost, claim.serial)
          | _ => s.scanners[p].lastEnd })) := by
  have hset : ∀ t : State, ∀ f, updScanner t p f = withScanners t (put t.scanners p (f t.scanners[p])) := fun _ _ => rfl
  unfold loseScanner
  rw [tearDown_eq p rfl, hset, given_scannersField, ← given_scanners]
  simp only [withScanners_scanners, withScanners_twice, put_put, Fin.getElem_fin, put_get]
  unfold tornDown
  cases hstate : s.scanners[p.val].state <;> simp only [claimOf]

theorem scannerLinkLoss_reaches (p : PortNo) (rest : List PortNotice) (s : State) (h : s.toScan[p] = .loss :: rest) :
    (s.scanners[p].state ≠ .absent →
      ∃ t, exec (.scannerLinkLoss p) s = .next t ∧
        (let told := given (teardownRecords p .deviceLost s.scanners[p]) s
         Told told t) ∧
        MemoryKept s t (fun a => ∃ st, InRing st a) ∧
        t = { s with
          toScan := put s.toScan p rest
          scanners := put s.scanners p
            { s.scanners[p] with
              state := .absent, queue := [], lastCode := none
              lastEnd := match s.scanners[p].state with
                | .held claim => some (.deviceLost, claim.serial)
                | _ => s.scanners[p].lastEnd }
          mem := t.mem, delivery := t.delivery, notice := t.notice, portCount := t.portCount }) ∧
    (s.scanners[p].state = .absent →
      exec (.scannerLinkLoss p) s = .next { s with toScan := put s.toScan p rest }) := by
  have hexec : exec (.scannerLinkLoss p) s = .next (publish [] s (scannerLinkLoss p s)) := rfl
  have hpop : popScan p s = { s with toScan := put s.toScan p rest } := by
    unfold popScan
    rw [h, List.tail_cons]
  have heq : scannerLinkLoss p s = if s.scanners[p].state = .absent then { s with toScan := put s.toScan p rest }
      else loseScanner p { s with toScan := put s.toScan p rest } := by
    unfold scannerLinkLoss
    rw [h, List.head?_cons, hpop]
  refine ⟨fun hstate => ⟨_, hexec, ?_⟩, fun hstate => ?_⟩
  · have hlose := (loseScanner_eq p { s with toScan := put s.toScan p rest }).trans
      (RingsAlike.given (s := s) (t := withScanners { s with toScan := put s.toScan p rest } _)
        ⟨rfl, rfl, rfl, rfl, fun _ => rfl⟩ (teardownRecords p .deviceLost s.scanners[p]))
    rw [heq, if_neg hstate, hlose]
    exact ⟨⟨rfl, rfl, rfl⟩, given_bytes _ s, publish_portsOnly [] rfl rfl rfl rfl⟩
  · rw [hexec, heq, if_pos hstate]
    exact congrArg Host.Outcome.next (publish_same (fun _ => rfl) (fun _ => rfl) (fun _ => rfl) rfl)

/-! ### A panel's loss (R122, R113) -/

/-- The touch notices and the panel limits replaced. -/
def withPanels (s : State) (q : Vector (List PortNotice) 8) (v : Vector (Option Nat) 8) : State :=
  { s with toTouch := q, panels := v }

/-- The end of a contact does not see the panel limits. -/
theorem cancelled_panels (s : State) (q : Vector (List PortNotice) 8) (v : Vector (Option Nat) 8) (n : ContactNo) :
    cancelled (withPanels s q v) n = withPanels (cancelled s n) q v := by
  have hcan : ∀ st r, canWrite (withPanels s q v) st r = canWrite s st r := fun _ _ => rfl
  have hwrite : ∀ st r x, writeRecord st r x (withPanels s q v) = withPanels (writeRecord st r x s) q v :=
    fun _ _ _ => rfl
  unfold cancelled
  rw [show (withPanels s q v).contacts = s.contacts from rfl]
  generalize s.contacts[n] = held
  match held with
  | none => rfl
  | some ⟨p, id, .closing b e⟩ => rfl
  | some ⟨p, id, .suppressed z st⟩ => rfl
  | some ⟨p, id, .ignored place⟩ => rfl
  | some ⟨p, id, .live b m⟩ =>
    dsimp only
    rw [hcan, hwrite]
    split_ifs <;> rfl

theorem cancelAll_panels (which : PortNo → Bool) (s : State) (q : Vector (List PortNotice) 8)
    (v : Vector (Option Nat) 8) : cancelAll which (withPanels s q v) = withPanels (cancelAll which s) q v := by
  unfold cancelAll
  show List.foldl cancelled (withPanels s q v) (List.filter (fun n => s.contacts[n].any fun c => which c.port) _) = _
  generalize List.filter _ _ = l
  induction l generalizing s with
  | nil => rfl
  | cons n l ih => rw [List.foldl_cons, cancelled_panels, ih, List.foldl_cons]

/-- What the end of a contact without a lift makes of its record (R113). -/
def EndedContact (c : Contact) (x : Option Contact) : Prop :=
  match c.cond with
  | .closing _ _ => x = some c
  | .suppressed _ _ | .ignored _ => x = none
  | .live b _ => x = none ∨ x = some { c with cond := .closing b .cancel }

theorem cancelled_contact {s : State} {n : ContactNo} {c : Contact} (h : s.contacts[n] = some c) :
    EndedContact c (cancelled s n).contacts[n] := by
  unfold cancelled EndedContact
  rw [h]
  match c with
  | ⟨p, id, .closing b e⟩ => exact h
  | ⟨p, id, .suppressed z st⟩ => exact put_get ..
  | ⟨p, id, .ignored place⟩ => exact put_get ..
  | ⟨p, id, .live b m⟩ =>
    dsimp only
    split
    · exact .inl (put_get ..)
    · exact .inr (put_get ..)

theorem foldl_cancelled_other {l : List ContactNo} {n : ContactNo} (hn : n ∉ l) (s : State) :
    (l.foldl cancelled s).contacts[n] = s.contacts[n] := by
  induction l generalizing s with
  | nil => rfl
  | cons m l ih =>
    obtain ⟨hm, hl⟩ := List.ne_and_not_mem_of_not_mem_cons hn
    rw [List.foldl_cons, ih hl, cancelled_contacts_ne _ _ _ (Ne.symm hm)]

theorem foldl_cancelled_listed {l : List ContactNo} (hl : l.Nodup) {n : ContactNo} (hn : n ∈ l) {s : State} {c : Contact}
    (h : s.contacts[n] = some c) : EndedContact c (l.foldl cancelled s).contacts[n] := by
  induction l generalizing s with
  | nil => exact absurd hn List.not_mem_nil
  | cons m l ih =>
    obtain ⟨hm, hl⟩ := List.nodup_cons.mp hl
    rw [List.foldl_cons]
    rcases List.mem_cons.mp hn with rfl | hnl
    · rw [foldl_cancelled_other hm]
      exact cancelled_contact h
    · have hne : m ≠ n := fun e => hm (e ▸ hnl)
      exact ih hl hnl ((cancelled_contacts_ne s m n hne).trans h)

/-- The contacts that hold keys on the lost panel end, and no other contact changes (R122). -/
theorem cancelAll_contact {p : PortNo} {s : State} {n : ContactNo} {c : Contact} (h : s.contacts[n] = some c) :
    (c.port ≠ p → (cancelAll (fun q => decide (q = p)) s).contacts[n] = some c) ∧
    (c.port = p → EndedContact c (cancelAll (fun q => decide (q = p)) s).contacts[n]) := by
  have hmem : n ∈ (List.finRange 32).filter (fun n => s.contacts[n].any fun c => decide (c.port = p)) ↔ c.port = p := by
    rw [List.mem_filter, h]
    simp
  unfold cancelAll
  exact ⟨fun hp => (foldl_cancelled_other (mt hmem.mp hp) s).trans h, fun hp =>
    foldl_cancelled_listed ((List.nodup_finRange 32).filter _) (hmem.mpr hp) h⟩

/-- The end of a contact changes contact records alone, or writes a record that fits beside. -/
theorem cancelled_cases (s : State) (n : ContactNo) :
    (∃ v, cancelled s n = { s with contacts := v }) ∨
    ∃ st r v, canWrite s st r = true ∧
      cancelled s n = { writeRecord st r (s.time.setWidth 16) s with contacts := v } := by
  unfold cancelled
  generalize s.contacts[n] = held
  match held with
  | none => exact .inl ⟨s.contacts, rfl⟩
  | some ⟨p, id, .closing b e⟩ => exact .inl ⟨s.contacts, rfl⟩
  | some ⟨p, id, .suppressed z st⟩ => exact .inl ⟨_, rfl⟩
  | some ⟨p, id, .ignored place⟩ => exact .inl ⟨_, rfl⟩
  | some ⟨p, id, .live b m⟩ =>
    dsimp only
    split
    · next hw => exact .inr ⟨_, _, _, hw, rfl⟩
    · exact .inl ⟨_, rfl⟩

theorem cancelled_bytes (s : State) (n : ContactNo) : MemoryKept s (cancelled s n) fun a => ∃ st, InRing st a := by
  intro a ha
  rcases cancelled_cases s n with ⟨v, h⟩ | ⟨st, r, v, hw, h⟩
  · rw [h]
  · rw [h]
    exact writeRecord_bytes (canWrite_fits hw) _ a fun hin => ha ⟨st, hin⟩

/-- What the end of contacts may change. -/
def ContactsStep (s t : State) : Prop :=
  ∃ v m d n, t = { s with contacts := v, mem := m, delivery := d, notice := n }

theorem ContactsStep.trans {s t u : State} (h : ContactsStep s t) (k : ContactsStep t u) : ContactsStep s u := by
  obtain ⟨_, _, _, _, rfl⟩ := h
  obtain ⟨_, _, _, _, rfl⟩ := k
  exact ⟨_, _, _, _, rfl⟩

theorem cancelled_step (s : State) (n : ContactNo) : ContactsStep s (cancelled s n) := by
  rcases cancelled_cases s n with ⟨v, h⟩ | ⟨st, r, v, hw, h⟩
  · exact ⟨_, _, _, _, h⟩
  · obtain ⟨m, d, x, hframe⟩ := writeRecord_frame st r (s.time.setWidth 16) s
    rw [hframe] at h
    exact ⟨_, _, _, _, h⟩

theorem cancelAll_step (which : PortNo → Bool) (s : State) : ContactsStep s (cancelAll which s) :=
  foldl_rel (R := ContactsStep) (fun _ => ⟨_, _, _, _, rfl⟩)
    (.trans) _ cancelled_step _ s

theorem cancelAll_bytes (which : PortNo → Bool) (s : State) :
    MemoryKept s (cancelAll which s) fun a => ∃ st, InRing st a :=
  foldl_rel (R := fun s t => MemoryKept s t fun a => ∃ st, InRing st a) (fun _ _ _ => rfl)
    (fun h k => memoryKept_trans h k (fun _ => id) fun _ => id) _ cancelled_bytes _ s

theorem panelLinkLoss_reaches (p : PortNo) (rest : List PortNotice) (s : State) (h : s.toTouch[p] = .loss :: rest) :
    ∃ t, exec (.panelLinkLoss p) s = .next t ∧
      (∀ n : ContactNo, ∀ c, s.contacts[n] = some c →
        (c.port ≠ p → t.contacts[n] = some c) ∧ (c.port = p → EndedContact c t.contacts[n])) ∧
      (let told := cancelAll (fun q => decide (q = p)) s
       t.contacts = told.contacts ∧ Told told t) ∧
      MemoryKept s t (fun a => ∃ st, InRing st a) ∧
      t = { s with
        toTouch := put s.toTouch p rest, panels := put s.panels p none, contacts := t.contacts, mem := t.mem
        delivery := t.delivery, notice := t.notice, portCount := t.portCount } := by
  have heq : panelLinkLoss p s =
      { state := withPanels (cancelAll (fun q => decide (q = p)) s) (put s.toTouch p rest) (put s.panels p none)
        marks := [p] } := by
    unfold panelLinkLoss popTouch
    rw [h, List.head?_cons]
    dsimp only
    rw [List.tail_cons, settleAll_eq_cancelAll (fun q => decide (q = p)), ← cancelAll_panels]
    rfl
  have hexec : exec (.panelLinkLoss p) s =
      .next (publish (panelLinkLoss p s).marks s (panelLinkLoss p s).state) := rfl
  refine ⟨_, hexec, ?_⟩
  rw [heq]
  have hcontact := fun n c => cancelAll_contact (p := p) (s := s) (n := n) (c := c)
  have hbytes := cancelAll_bytes (fun q => decide (q = p)) s
  obtain ⟨v, m, d, n, hframe⟩ := cancelAll_step (fun q => decide (q = p)) s
  dsimp only
  generalize cancelAll (fun q => decide (q = p)) s = u at hcontact hbytes hframe ⊢
  subst hframe
  exact ⟨hcontact, ⟨rfl, rfl, rfl, rfl⟩, hbytes, publish_portsOnly [p] rfl rfl rfl rfl⟩

/-- Settles O48: the loss of a printer, of a scanner and of a panel, each in one piece. -/
theorem linkLossesReachTheOwners : Obligations.LinkLossesReachTheOwners :=
  ⟨printerLinkLoss_reaches, scannerLinkLoss_reaches, panelLinkLoss_reaches⟩

end Sys2Proof.Machine
end

section
/-! ## A lost printer gives up its jobs (R51, R52, R76) -/

namespace Sys2Proof.Machine

open Sys2Proof.Safety
open Config

/-! ### Several jobs ended one after the other -/

/-- What the end of jobs may change. -/
def JobsStep (s t : State) : Prop :=
  ∃ js ps bs fr sts m d n, t =
    { s with
      jobs := js, printers := ps, blocks := bs, free := fr, stations := sts, mem := m, delivery := d, notice := n }

theorem JobsStep.refl (s : State) : JobsStep s s := ⟨_, _, _, _, _, _, _, _, rfl⟩

theorem JobsStep.trans {s t u : State} (h : JobsStep s t) (k : JobsStep t u) : JobsStep s u := by
  obtain ⟨_, _, _, _, _, _, _, _, rfl⟩ := h
  obtain ⟨_, _, _, _, _, _, _, _, rfl⟩ := k
  exact ⟨_, _, _, _, _, _, _, _, rfl⟩

theorem endJob_step (reason : EndReason) (s : State) (j : JobNo) : JobsStep s (endJob reason s j) := by
  rw [endJob_eq]
  exact ⟨_, _, _, _, _, _, _, _, rfl⟩

theorem foldl_endJob_step (reason : EndReason) (l : List JobNo) (s : State) : JobsStep s (l.foldl (endJob reason) s) :=
  foldl_rel .refl .trans _ (endJob_step reason) l s

/-- The other jobs of a list are as they were after one of them has ended. -/
theorem endJob_listed (reason : EndReason) (s : State) {j : JobNo} {l : List JobNo} (hj : j ∉ l) (k : JobNo) (hk : k ∈ l) :
    (endJob reason s j).jobs[k] = s.jobs[k] := endJob_job_ne _ _ fun e => hj (e ▸ hk)

/-- The records of the ended jobs are given in their order (R51, R52). -/
theorem foldl_endJob_rings (reason : EndReason) {l : List JobNo} (hl : l.Nodup) {g s : State} (h : RingsAlike g s) :
    RingsAlike (given (endedRecords s reason l) g) (l.foldl (endJob reason) s) := by
  induction l generalizing g s with
  | nil => exact h
  | cons j l ih =>
    obtain ⟨hj, hl⟩ := List.nodup_cons.mp hl
    have hstep : RingsAlike (giveStatusTo s.jobs[j].owner (endedRecord reason s j) g) (endJob reason s j) := by
      rw [endJob_eq, h.giveStatusTo]
      exact (h.trans (endedState_alike reason s j)).withRings (giveStatusTo_frame ..)
    have hrest : endedRecords (endJob reason s j) reason l = endedRecords s reason l :=
      List.filterMap_congr fun k hk => by rw [endJob_listed reason s hj k hk]
    have hgiven : given (endedRecords s reason (j :: l)) g =
        given (endedRecords s reason l) (giveStatusTo s.jobs[j].owner (endedRecord reason s j) g) := by
      unfold endedRecords
      rw [List.filterMap_cons]
      cases s.jobs[j].owner <;> rfl
    rw [hgiven, ← hrest]
    exact ih hl hstep

/-- The blocks of the ended jobs are freed in their order (R18, R52). -/
theorem foldl_endJob_pool (reason : EndReason) {l : List JobNo} (hl : l.Nodup) (s : State) :
    poolOf (l.foldl (endJob reason) s) = freedPool (l.flatMap fun j => s.jobs[j].blocks) (poolOf s) := by
  induction l generalizing s with
  | nil => rfl
  | cons j l ih =>
    obtain ⟨hj, hl⟩ := List.nodup_cons.mp hl
    rw [List.foldl_cons, ih hl, endJob_pool, List.flatMap_cons, freedPool_append,
      List.flatMap_congr fun k hk => congrArg Job.blocks (endJob_listed reason s hj k hk)]

theorem endJob_station (reason : EndReason) (s : State) (j : JobNo) (st : StationNo) :
    (endJob reason s j).stations[st] = { s.stations[st] with
      holdings := s.stations[st].holdings - if s.jobs[j].owner = some st then s.jobs[j].blocks.length else 0 } := by
  have hfreed : Freed s.jobs[j] s (endJob reason s j) :=
    freed_of_pool (endJob_pool reason s j) (by rw [endJob_eq]; rfl)
  obtain ⟨_, _, _, hstation⟩ := hfreed
  rw [hstation st]
  split_ifs <;> rfl

/-- The owners' holdings fall by the numbers of their jobs' blocks (R27, R52). -/
theorem foldl_endJob_station (reason : EndReason) {l : List JobNo} (hl : l.Nodup) (s : State) (st : StationNo) :
    (l.foldl (endJob reason) s).stations[st] = { s.stations[st] with
      holdings := s.stations[st].holdings -
        ((l.filter fun j => s.jobs[j].owner = some st).map fun j => s.jobs[j].blocks.length).sum } := by
  induction l generalizing s with
  | nil => rfl
  | cons j l ih =>
    obtain ⟨hj, hl⟩ := List.nodup_cons.mp hl
    have hkept := endJob_listed reason s hj
    have hfilter : (l.filter fun k => (endJob reason s j).jobs[k].owner = some st) =
        l.filter fun k => s.jobs[k].owner = some st :=
      List.filter_congr fun k hk => by rw [hkept k hk]
    have hmap : ((l.filter fun k => s.jobs[k].owner = some st).map fun k => (endJob reason s j).jobs[k].blocks.length) =
        (l.filter fun k => s.jobs[k].owner = some st).map fun k => s.jobs[k].blocks.length :=
      List.map_congr_left fun k hk => by rw [hkept k (List.mem_of_mem_filter hk)]
    rw [List.foldl_cons, ih hl, hfilter, hmap, endJob_station, List.filter_cons]
    dsimp only
    rw [Nat.sub_sub]
    split_ifs with howner hdecide hdecide
    · rw [List.map_cons, List.sum_cons]
    · exact absurd (decide_eq_true howner) hdecide
    · exact absurd (of_decide_eq_true hdecide) howner
    · rw [Nat.zero_add]

/-- The end of jobs at a printer changes no other printer, and not the printer's window. -/
theorem foldl_endJob_printers (reason : EndReason) {p : PortNo} {l : List JobNo} (hl : l.Nodup) {s : State}
    (hp : ∀ j ∈ l, s.jobs[j].port = p) :
    ∃ r : Printer, r.window = s.printers[p].window ∧ (l.foldl (endJob reason) s).printers = put s.printers p r := by
  induction l generalizing s with
  | nil => exact ⟨s.printers[p], rfl, (put_self s.printers p).symm⟩
  | cons j l ih =>
    obtain ⟨hj, hl⟩ := List.nodup_cons.mp hl
    have hport : s.jobs[j].port = p := hp j List.mem_cons_self
    obtain ⟨r, hwindow, hr⟩ := ih hl (s := endJob reason s j) fun k hk => by
      rw [endJob_listed reason s hj k hk]
      exact hp k (List.mem_cons_of_mem j hk)
    refine ⟨r, ?_, ?_⟩
    · rw [hwindow, endJob_printer, if_pos hport]
      rfl
    · rw [List.foldl_cons, hr, endJob_printers]
      generalize leavePlace j _ = left
      rw [hport, put_put]

/-! ### The loss of the device (R52, R76) -/

/-- The printer record of a lost device (R55, log 21). -/
theorem makeAbsent_eq (r : Printer) : makeAbsent r =
    { state := .absent, current := none, suspended := none, queue := [], suspendPending := false, page := none
      sent := 0, credits := 0, window := r.window, pageTimer := none, reconnect := none, hold := none
      paperLow := false } := rfl

/-- What a lost printer leaves: `s` before the event, `u` after it, the change counts apart (R51, R52, R76). -/
structure DeviceLost (p : PortNo) (s u : State) : Prop where
  printers : u.printers = put s.printers p (makeAbsent s.printers[p])
  jobs : ∀ j : JobNo, u.jobs[j] =
    if s.jobs[j].state ≠ .free ∧ s.jobs[j].port = p then endedJob .deviceLost s.jobs[j] else s.jobs[j]
  pool : poolOf u = freedPool ((printerJobs s.printers[p]).flatMap fun j => s.jobs[j].blocks) (poolOf s)
  stations : ∀ st : StationNo, u.stations[st] = { s.stations[st] with
    holdings := s.stations[st].holdings -
      (((printerJobs s.printers[p]).filter fun j => s.jobs[j].owner = some st).map fun j => s.jobs[j].blocks.length).sum }
  rings : RingsAlike (given (endedRecords s .deviceLost (printerJobs s.printers[p])) s) u
  frame : JobsStep { s with toPrint := u.toPrint } u

/-- A printer whose notice was or was not taken gives up its jobs. -/
theorem loseDevice_lost {s : State} (h : JobsOk s) (p : PortNo) (q : Vector (List PortNotice) 8) :
    DeviceLost p s (loseDevice p { s with toPrint := q }) ∧ (loseDevice p { s with toPrint := q }).toPrint = q := by
  have hnodup := printerJobs_nodup h p
  have hmem := mem_printerJobs h p
  have hstep := foldl_endJob_step .deviceLost (printerJobs s.printers[p]) { s with toPrint := q }
  have hjobs := foldl_endJob_jobs .deviceLost _ hnodup { s with toPrint := q }
  have hpool := foldl_endJob_pool .deviceLost hnodup { s with toPrint := q }
  have hstation := foldl_endJob_station .deviceLost hnodup { s with toPrint := q }
  have hrings := foldl_endJob_rings .deviceLost hnodup (g := s) (s := { s with toPrint := q })
    ⟨rfl, rfl, rfl, rfl, fun _ => rfl⟩
  obtain ⟨r, hwindow, hprinters⟩ := foldl_endJob_printers .deviceLost hnodup (p := p) (s := { s with toPrint := q })
    fun j hj => ((hmem j).mp hj).2
  unfold loseDevice
  show DeviceLost p s (updPrinter (List.foldl _ { s with toPrint := q } (printerJobs s.printers[p])) p makeAbsent) ∧
    (updPrinter (List.foldl _ { s with toPrint := q } (printerJobs s.printers[p])) p makeAbsent).toPrint = q
  generalize List.foldl (endJob .deviceLost) { s with toPrint := q } (printerJobs s.printers[p]) = u at *
  obtain ⟨js, ps, bs, fr, sts, m, d, n, rfl⟩ := hstep
  refine ⟨⟨?_, fun j => (hjobs j).trans (if_congr (hmem j) rfl rfl), hpool, hstation,
    ⟨hrings.mem, hrings.delivery, hrings.notice, hrings.time, hrings.service⟩, ⟨_, _, _, _, _, _, _, _, rfl⟩⟩, rfl⟩
  show put ps p (makeAbsent ps[p]) = _
  rw [show ps = _ from hprinters, Fin.getElem_fin, put_get, put_put]
  simp only [makeAbsent_eq, hwindow]

/-- What a lost printer leaves, as the obligation says it. -/
theorem DeviceLost.given_up {p : PortNo} {s u : State} (h : DeviceLost p s u) :
    let lost := s.printers[p].current.toList ++ s.printers[p].suspended.toList ++ s.printers[p].queue
    let told := given (endedRecords s .deviceLost lost) s
    let t := publish [] s u
    t.printers = put s.printers p
        { state := .absent, current := none, suspended := none, queue := [], suspendPending := false, page := none
          sent := 0, credits := 0, window := s.printers[p].window, pageTimer := none, reconnect := none, hold := none
          paperLow := false } ∧
      (∀ j : JobNo, s.jobs[j].state = .free ∨ s.jobs[j].port ≠ p → t.jobs[j] = s.jobs[j]) ∧
      (∀ j : JobNo, s.jobs[j].state ≠ .free → s.jobs[j].port = p →
        t.jobs[j] = { s.jobs[j] with
          state := .free, reason := if s.jobs[j].cancelPending then s.jobs[j].reason else .deviceLost }) ∧
      (∀ b : BlockNo, t.blocks[b] = if b ∈ lost.flatMap fun j => s.jobs[j].blocks then .free else s.blocks[b]) ∧
      Joined (lost.flatMap fun j => s.jobs[j].blocks) s t ∧
      (∀ st : StationNo, t.stations[st] = { s.stations[st] with
        holdings := s.stations[st].holdings -
          ((lost.filter fun j => s.jobs[j].owner = some st).map fun j => s.jobs[j].blocks.length).sum }) ∧
      Told told t ∧
      t = { s with
        toPrint := t.toPrint, printers := t.printers, jobs := t.jobs, blocks := t.blocks, free := t.free
        stations := t.stations, mem := t.mem, delivery := t.delivery, notice := t.notice, portCount := t.portCount
        jobCount := t.jobCount, stationCount := t.stationCount, poolCount := t.poolCount } := by
  obtain ⟨hprinters, hjobs, hpool, hstations, hrings, hframe⟩ := h
  intro lost told t
  refine ⟨hprinters, fun j hj => (hjobs j).trans (if_neg ?_), fun j hstate hport => (hjobs j).trans (if_pos ⟨hstate, hport⟩),
    fun b => ?_, fun hnodup hused => ?_, hstations, ⟨hrings.delivery, hrings.mem, hrings.notice⟩, ?_⟩
  · rintro ⟨hstate, hport⟩
    exact hj.elim hstate (· hport)
  · exact (congrArg (fun x : Vector BlockState 96 × List BlockNo => x.1[b]) hpool).trans (freedPool_get ..)
  · exact (congrArg Prod.snd hpool).trans (freedPool_free (x := poolOf s) hnodup hused)
  · obtain ⟨js, ps, bs, fr, sts, m, d, n, hu⟩ := hframe
    show publish [] s u = _
    rw [publish_eq]
    generalize u.toPrint = q at hu
    subst hu
    rfl

/-- Settles O50: both events lose the device, the first of them with its notice taken. -/
theorem lostPrintersGiveUpTheirJobs : Obligations.LostPrintersGiveUpTheirJobs := by
  intro p i s hs hi
  rcases hi with ⟨rfl, hdetached, rest, hnotice⟩ | ⟨rfl, timer, htimer, hdue⟩
  · have heq : kindChange p s = loseDevice p { s with toPrint := put s.toPrint p s.toPrint[p].tail } := by
      unfold kindChange
      rw [hnotice, List.head?_cons]
      dsimp only
      rw [if_pos hdetached]
      unfold popPrint
      rw [hnotice]
    obtain ⟨hlost, hq⟩ := loseDevice_lost hs p (put s.toPrint p s.toPrint[p].tail)
    rw [← heq] at hlost hq
    exact ⟨_, rfl, hq.trans (if_pos rfl).symm, hlost.given_up⟩
  · have heq : reconnectTimerExpiry p s = loseDevice p { s with toPrint := s.toPrint } := by
      unfold reconnectTimerExpiry
      rw [htimer]
      exact if_pos (decide_eq_true hdue)
    obtain ⟨hlost, hq⟩ := loseDevice_lost hs p s.toPrint
    rw [← heq] at hlost hq
    exact ⟨_, rfl, hq.trans (if_neg nofun).symm, hlost.given_up⟩

end Sys2Proof.Machine
end

section
/-! ## A printer's frames received, and what a choice leaves to say (R63, R132, R133, R147) -/

namespace Sys2Proof.Machine

open Sys2Proof.Safety
open Config

/-! ### A frame of the printer on an UP port -/

/-- On a linked port a frame that is taken has restarted the silence timer and ended the reception before it (R133, R144). -/
theorem setRx_restartSilence {p : PortNo} {s : State} (h : linked s.ports[p] = true) :
    setRx p none (restartSilence p s) = framed p s := by
  unfold setRx restartSilence
  rw [if_pos h]
  unfold updPort framed
  simp only [Fin.getElem_fin, put_get, put_put]
  rfl

@[simp] theorem framed_port (p : PortNo) (s : State) : (framed p s).ports[p] =
    { s.ports[p] with silence := some { start := s.time, length := 20 }, rx := none } := put_get ..

/-- A printer's frame is read on an UP port with a printer (R133, R147). -/
theorem frameReceived_printer {p : PortNo} {s : State} (h : UpWith .printer p s) {kind : Byte} {payload : List Byte}
    (hkind : kind ∈ [kindPageDone, kindPageFault]) (hlength : payload.length ≤ 96) :
    frameReceived p kind payload s = unmarked (printerFrame p kind payload (framed p s)) := by
  have hlinked : linked s.ports[p] = true := by
    unfold linked
    rw [h.1]
    rfl
  unfold frameReceived
  rw [if_pos ⟨hlinked, hlength⟩, setRx_restartSilence hlinked]
  unfold takeFrame
  simp only [List.mem_cons, List.not_mem_nil, or_false] at hkind
  rcases hkind with rfl | rfl <;> rfl

theorem framed_upKind {p : PortNo} {s : State} (h : UpWith .printer p s) :
    upKind (framed p s).ports[p] = some .printer := by
  rw [framed_port]
  unfold upKind
  rw [if_pos h.1]
  exact h.2

theorem exec_pageDone {p : PortNo} {s : State} (h : UpWith .printer p s) (n : Byte) :
    exec (.pageDone p [n]) s = .next (publish [] s (pageDone p n.toNat (framed p s))) := by
  show eventMarked (frameReceived p kindPageDone [n]) s = _
  unfold eventMarked
  rw [frameReceived_printer h (by decide) (Nat.le_of_ble_eq_true rfl)]
  unfold printerFrame
  rw [if_pos (framed_upKind h)]
  rfl

theorem exec_pageFault {p : PortNo} {s : State} (h : UpWith .printer p s) (n code : Byte) :
    exec (.pageFault p [n, code]) s = .next (publish [] s (pageFault p n.toNat (faultCause code) (framed p s))) := by
  show eventMarked (frameReceived p kindPageFault [n, code]) s = _
  unfold eventMarked
  rw [frameReceived_printer h (by decide) (Nat.le_of_ble_eq_true rfl)]
  unfold printerFrame
  rw [if_pos (framed_upKind h)]
  rfl

/-- What a port's mirror entry shows of a port record does not change with its silence timer, its reception and its send
list. -/
theorem portItems_of_ports {s t : State} (hports : ∀ q : PortNo, portPart t.ports[q] = portPart s.ports[q])
    (ht : t = { s with ports := t.ports }) (q : PortNo) : portItems s q = portItems t q := by
  have hshow : portItems t q = padTo 63 (portPart t.ports[q] ++ printerPart s.printers[q] s.printerSet[q] ++
      scannerPart s.scanners[q] s.scannerSet[q] ++ panelPart s q) := by
    rw [ht]
    rfl
  rw [hshow, hports]
  rfl

theorem framed_portPart (p : PortNo) (s : State) (q : PortNo) : portPart (framed p s).ports[q] = portPart s.ports[q] := by
  by_cases hq : p = q
  · subst hq
    rw [framed_port]
    rfl
  · exact congrArg portPart (put_get_ne _ _ _ _ hq)

/-- A frame that has no further effect publishes nothing. -/
theorem publish_framed (p : PortNo) (s : State) : publish [] s (framed p s) = framed p s :=
  publish_same (portItems_of_ports (framed_portPart p s) rfl) (fun _ => rfl) (fun _ => rfl) rfl

/-- An event that leaves the Station Table and the pool as they are publishes port and job entries alone. -/
theorem publish_portsJobs {s t : State} (hs : t.stations = s.stations) (hb : t.blocks = s.blocks) (hf : t.free = s.free) :
    publish [] s t = { t with portCount := (publish [] s t).portCount, jobCount := (publish [] s t).jobCount } := by
  rw [publish_eq, publish_stationCount (stationItems_eq hs hb), publish_poolCount (poolItems_eq hf hb)]

/-! ### What a choice leaves (R63) -/

/-- A choice leaves the suspend-pending flag of a printer record as it is. -/
theorem chose_suspendPending {p : PortNo} {s t : State} (h : Chose p s t) :
    t.printers[p].suspendPending = s.printers[p].suspendPending := by
  have hchosen : (chosenPrinter p s).suspendPending = s.printers[p].suspendPending := by
    cases hj : nextJob? s s.printers[p] with
    | none => rw [chosenPrinter_none hj]
    | some m => rw [chosenPrinter_some hj]
  unfold Chose at h
  split at h
  · obtain ⟨hprinter, -⟩ := h
    rw [hprinter]
    exact hchosen
  · rw [h.1, hchosen]
  · rw [h.1, hchosen]

/-- A job that stands neither in the queue nor in the suspended slot is not chosen. -/
theorem not_chosen {s : State} {r : Printer} {j : JobNo} (hq : j ∉ r.queue) (hs : r.suspended ≠ some j) :
    nextJob? s r ≠ some j := fun h => (nextJob?_placed h).elim hq hs

/-- A PRINTING job stands in no queue and in no suspended slot (R32). -/
theorem printing_elsewhere {s : State} {j : JobNo} (h : JobsOk s) (hj : s.jobs[j].state = .printing) (p : PortNo) :
    j ∉ s.printers[p].queue ∧ s.printers[p].suspended ≠ some j :=
  ⟨fun hq => absurd ((jobsOk_queued h hq).1.symm.trans hj) nofun,
   fun hs => absurd ((jobsOk_suspended h hs).1.symm.trans hj) nofun⟩

theorem ChoiceAlike.chosenJobs_eq {p : PortNo} {s t : State} (h : ChoiceAlike p s t) (hj : t.jobs = s.jobs) :
    chosenJobs p t = chosenJobs p s := by
  unfold chosenJobs
  rw [h.nextJob_eq, hj]

/-- What a printer's choice makes of a state that agrees, on all a choice reads, with one written down, and of the tables it
does not read: the words of the statements. -/
theorem choose_alike {p : PortNo} {u m : State} (h : ChoiceAlike p u m) (hj : m.jobs = u.jobs) :
    ∃ js ps xs, choose p u = { u with jobs := js, printers := ps, ports := xs } ∧
      (∀ t : State, t.printers = ps → t.ports = xs → Chose p m t) ∧ js = chosenJobs p m ∧
      ∀ q : PortNo, q ≠ p → ps[q] = u.printers[q] ∧ xs[q] = u.ports[q] := by
  obtain ⟨hchose, hjobs, hother⟩ := choose_chose p u
  refine ⟨_, _, _, choose_frame p u, fun t hps hxs => ?_, hjobs.trans (h.chosenJobs_eq hj).symm, hother⟩
  have hmt := h.chose hchose
  unfold Chose PageOpened at hmt ⊢
  rw [hps, hxs]
  exact hmt

end Sys2Proof.Machine
end

section
/-! ## A page is counted, and the boundary decided (R36, R61–R63, R65, R66) -/

namespace Sys2Proof.Machine

open Sys2Proof.Safety
open Config

/-! ### The state at a boundary -/

/-- The JOB PROGRESS of a counted page, given beside nothing else (R61). -/
def progressGiven (p : PortNo) (j : JobNo) (s : State) : State :=
  match s.jobs[j].owner with
  | some st => if s.jobs[j].notices then giveProgress st (.jobProgress j p s.jobs[j].serial
      (s.jobs[j].pagesDone + 1) s.jobs[j].pageCount) s else s
  | none => s

/-- The job record after its page is counted (R36, R61). -/
def countedJob (s : State) (j : JobNo) : Job := countPage (currentLength s j) s.jobs[j]

/-- The state in which the boundary decision is taken: the frame received, the page counted, suspend-pending clear, and JOB
PROGRESS given (R61, R62). -/
def atBoundary (p : PortNo) (j : JobNo) (s : State) : State :=
  withRings { framed p s with
    jobs := put s.jobs j (countedJob s j)
    printers := put s.printers p { emptied s.printers[p] with current := some j } } (progressGiven p j s)

theorem progressGiven_frame (p : PortNo) (j : JobNo) (s : State) : DeliveryStep s (progressGiven p j s) := by
  unfold progressGiven
  split
  · split
    · exact giveProgress_frame ..
    · exact .refl s
  · exact .refl s

theorem progressGiven_bytes (p : PortNo) (j : JobNo) (s : State) :
    MemoryKept s (progressGiven p j s) fun a => ∃ st, s.jobs[j].owner = some st ∧ InRing st a := by
  unfold progressGiven
  split
  · next st howner =>
    split
    · exact memoryKept_mono (giveProgress_bytes _ _ _) fun a ha => ⟨st, howner, ha⟩
    · exact fun _ _ => rfl
  · exact fun _ _ => rfl

/-- JOB PROGRESS is given alike beside the page counted. -/
theorem reportProgress_eq {p : PortNo} {j : JobNo} {s t : State} (h : RingsAlike s t) (hport : s.jobs[j].port = p)
    (hjob : t.jobs[j] = countedJob s j) : reportProgress j t = withRings t (progressGiven p j s) := by
  unfold reportProgress progressGiven
  dsimp only
  rw [hjob, show (countedJob s j).port = s.jobs[j].port from rfl, hport]
  dsimp only [countedJob, countPage]
  cases s.jobs[j].owner with
  | none => exact h.withRings_eq.symm
  | some st =>
    dsimp only
    by_cases hn : s.jobs[j].notices = true
    · exact (if_pos hn).trans ((h.giveProgress ..).trans (congrArg (withRings t) (if_pos hn).symm))
    · exact (if_neg hn).trans (h.withRings_eq.symm.trans (congrArg (withRings t) (if_neg hn).symm))

theorem atBoundary_alike (p : PortNo) (j : JobNo) (s : State) :
    RingsAlike (progressGiven p j s) (atBoundary p j s) :=
  RingsAlike.withRings (s := s) (t := { framed p s with
    jobs := put s.jobs j (countedJob s j)
    printers := put s.printers p { emptied s.printers[p] with current := some j } })
    ⟨rfl, rfl, rfl, rfl, fun _ => rfl⟩ (progressGiven_frame p j s)

/-- The page in flight in stage CLOSED is counted, and the boundary decided (R61, R62). -/
theorem confirmPage_eq {p : PortNo} {j : JobNo} {s : State} (hc : s.printers[p].current = some j)
    (hport : s.jobs[j].port = p) :
    confirmPage p j (framed p s) =
      if s.jobs[j].cancelPending = true then choose p (endJob s.jobs[j].reason (atBoundary p j s) j)
      else if s.jobs[j].pagesDone + 1 = s.jobs[j].pageCount then choose p (endJob .completed (atBoundary p j s) j)
      else if s.printers[p].suspendPending = true ∧
          (urgentHead? (atBoundary p j s) (atBoundary p j s).printers[p]).isSome = true then
        choose p (suspendJob p j (atBoundary p j s))
      else if s.printers[p].state = .sending then openPage p (atBoundary p j s)
      else atBoundary p j s := by
  have hreport : ∀ t : State, t = updJob (updPrinter (framed p s) p dropPage) j (countPage (currentLength (framed p s) j)) →
      reportProgress j t = withRings t (progressGiven p j s) := fun t ht => by
    subst ht
    exact reportProgress_eq ⟨rfl, rfl, rfl, rfl, fun _ => rfl⟩ hport (put_get ..)
  have hrecord : (fun r : Printer => { r with suspendPending := false }) (dropPage s.printers[p]) =
      { emptied s.printers[p] with current := some j } := by
    rw [← hc]
    rfl
  have hbase : updPrinter (withRings (updJob (updPrinter (framed p s) p dropPage) j
      (countPage (currentLength (framed p s) j))) (progressGiven p j s)) p (fun r => { r with suspendPending := false }) =
      atBoundary p j s := by
    unfold atBoundary
    rw [← hrecord, ← put_twice rfl s.printers (dropPage s.printers[p]) fun r : Printer => { r with suspendPending := false }]
    rfl
  have hflag : (put s.printers p (dropPage s.printers[p]))[p].suspendPending = s.printers[p].suspendPending := by
    rw [Fin.getElem_fin, put_get]
    rfl
  have hjob : (atBoundary p j s).jobs[j] = countedJob s j := put_get ..
  have hprinter : (atBoundary p j s).printers[p] = { emptied s.printers[p] with current := some j } := put_get ..
  have hstate : (atBoundary p j s).printers[p].state = s.printers[p].state := by rw [hprinter]; rfl
  unfold confirmPage boundary
  dsimp only
  rw [hreport _ rfl, hbase, hjob, hstate]
  show (if s.jobs[j].cancelPending = true then choose p (endJob s.jobs[j].reason _ j)
    else if s.jobs[j].pagesDone + 1 = s.jobs[j].pageCount then _
    else if (put s.printers p (dropPage s.printers[p]))[p].suspendPending = true ∧ _ then _ else _) = _
  simp only [hflag]

/-- PAGE DONE confirms the page in flight in stage CLOSED, and no other (R61, R64). -/
theorem pageDone_eq {p : PortNo} {j : JobNo} {pg : PageInFlight} {s : State}
    (hworks : s.printers[p].state = .sending ∨ s.printers[p].state = .quiesced) (hc : s.printers[p].current = some j)
    (hpage : s.printers[p].page = some pg) (n : Nat) :
    pageDone p n (framed p s) =
      if pg.stage = .closed ∧ pg.page = n then confirmPage p j (framed p s) else framed p s := by
  have hworking : working s.printers[p] = true := by
    unfold working
    rcases hworks with h | h <;> rw [h] <;> rfl
  unfold pageDone
  dsimp only
  rw [show (framed p s).printers = s.printers from rfl, hc, hpage]
  dsimp only
  simp only [hworking, true_and]

/-! ### The end of a job, with its record and its port given -/

/-- A job's end in one piece: the tables changed, and the record given in a state alike (R51). -/
theorem endJob_of {reason : EndReason} {g u : State} {j : JobNo} {job : Job} {p : PortNo} (hjob : u.jobs[j] = job)
    (hport : job.port = p) (hg : RingsAlike g u) : endJob reason u j =
      withRings
        (withPool { u with
          printers := put u.printers p (leavePlace j u.printers[p])
          jobs := put u.jobs j (endedJob reason job)
          stations := (dropHoldings job.owner job.blocks.length u).stations } (freedPool job.blocks (poolOf u)))
        (giveStatusTo job.owner (.jobEnded j p job.serial job.pagesDone job.pageCount
          (if job.cancelPending then job.reason else reason)) g) := by
  subst hjob
  subst hport
  rw [endJob_eq, hg.giveStatusTo]
  rfl

/-- A current job that stands in no other place leaves nothing else behind (R51, R65). -/
theorem leavePlace_only {j : JobNo} {r : Printer} (hc : r.current = some j) (hq : j ∉ r.queue)
    (hs : r.suspended ≠ some j) : leavePlace j r = { r with current := none, suspendPending := false } := by
  have hfilter : r.queue.filter (· ≠ j) = r.queue :=
    List.filter_eq_self.mpr fun k hk => decide_eq_true fun h => hq (h ▸ hk)
  unfold leavePlace
  rw [if_pos hc, if_pos hc, if_neg hs, hfilter]

/-- The state in which a printer chooses after its job has ended at the boundary (R51, R62). -/
def endedBoundary (why : EndReason) (p : PortNo) (j : JobNo) (s : State) : State :=
  withRings
    (withPool { framed p s with
      printers := put s.printers p (emptied s.printers[p])
      jobs := put s.jobs j (endedJob why (countedJob s j))
      stations := (dropHoldings s.jobs[j].owner s.jobs[j].blocks.length s).stations }
      (freedPool s.jobs[j].blocks (poolOf s)))
    (giveStatusTo s.jobs[j].owner (.jobEnded j p s.jobs[j].serial (s.jobs[j].pagesDone + 1) s.jobs[j].pageCount
      (if s.jobs[j].cancelPending then s.jobs[j].reason else why)) (progressGiven p j s))

theorem endJob_atBoundary {p : PortNo} {j : JobNo} {s : State} (hport : s.jobs[j].port = p)
    (hq : j ∉ s.printers[p].queue) (hs : s.printers[p].suspended ≠ some j) (why : EndReason) :
    endJob why (atBoundary p j s) j = endedBoundary why p j s := by
  have hjob : (atBoundary p j s).jobs[j] = countedJob s j := put_get ..
  have hleft : leavePlace j { emptied s.printers[p] with current := some j } = emptied s.printers[p] :=
    leavePlace_only rfl hq hs
  have hprinters : put (atBoundary p j s).printers p (leavePlace j (atBoundary p j s).printers[p]) =
      put s.printers p (emptied s.printers[p]) :=
    (put_twice rfl ..).trans (congrArg _ hleft)
  have hjobs : put (atBoundary p j s).jobs j (endedJob why (countedJob s j)) =
      put s.jobs j (endedJob why (countedJob s j)) := put_put ..
  have hstations : (dropHoldings s.jobs[j].owner s.jobs[j].blocks.length (atBoundary p j s)).stations =
      (dropHoldings s.jobs[j].owner s.jobs[j].blocks.length s).stations :=
    dropHoldings_stations (s := s) (u := atBoundary p j s) rfl _ _
  rw [endJob_of hjob hport (atBoundary_alike p j s), hprinters, hjobs]
  exact congrArg (fun x => withRings (withPool { atBoundary p j s with
    printers := put s.printers p (emptied s.printers[p]), jobs := put s.jobs j (endedJob why (countedJob s j))
    stations := x } _) _) hstations

end Sys2Proof.Machine
end

section
/-! ## The branches of the boundary (R51, R62, R63, R66) -/

namespace Sys2Proof.Machine

open Sys2Proof.Safety
open Config

variable {p : PortNo} {j : JobNo} {s : State}

/-! ### The end of a job -/

/-- A pending reason stands whatever reason ends the job (R49, R51). -/
theorem endedBoundary_pending (h : s.jobs[j].cancelPending = true) (why other : EndReason) :
    endedBoundary why p j s = endedBoundary other p j s := by
  have hjob : endedJob why (countedJob s j) = endedJob other (countedJob s j) := by
    unfold endedJob
    rw [show (countedJob s j).cancelPending = s.jobs[j].cancelPending from rfl, if_pos h, if_pos h]
  unfold endedBoundary
  rw [hjob, if_pos h, if_pos h]

/-- The states in which the printer chooses after an end at the boundary, as the rules write them and as the model computes
them, are alike to the choice. -/
theorem endedBoundary_choice (why : EndReason) :
    ChoiceAlike p (endedBoundary why p j s) { s with
      mem := (endedBoundary why p j s).mem, ports := (framed p s).ports
      jobs := put s.jobs j (endedJob why (countedJob s j)), printers := put s.printers p (emptied s.printers[p]) } :=
  ⟨rfl, fun _ _ => rfl, rfl, rfl, rfl, rfl, rfl⟩

theorem pageDone_ends (h : JobsOk s) (hc : s.printers[p].current = some j) :
    let why := if s.jobs[j].cancelPending then s.jobs[j].reason else .completed
    let t := publish [] s (choose p (endedBoundary .completed p j s))
    t.jobs[j] = { s.jobs[j] with
      state := .free, pagesDone := s.jobs[j].pagesDone + 1, transients := 0, restart := t.jobs[j].restart
      reason := why } ∧
    (∀ b ∈ s.jobs[j].blocks, t.blocks[b] = .free) ∧ t.printers[p].current ≠ some j ∧
    t.printers[p].suspendPending = false ∧
    (let m := { s with
       mem := t.mem, ports := (framed p s).ports
       jobs := put s.jobs j { countedJob s j with state := .free, reason := why }
       printers := put s.printers p (emptied s.printers[p]) }
     Chose p m t ∧ t.jobs = chosenJobs p m ∧ Freed s.jobs[j] s t ∧
     Told (giveStatusTo s.jobs[j].owner (.jobEnded j p s.jobs[j].serial (s.jobs[j].pagesDone + 1)
       s.jobs[j].pageCount why) (progressGiven p j s)) t) ∧
    (∀ q : PortNo, q ≠ p → t.printers[q] = s.printers[q] ∧ t.ports[q] = s.ports[q]) ∧
    MemoryKept s t (fun a => ∃ st, s.jobs[j].owner = some st ∧ InRing st a) ∧
    t = { s with
      jobs := t.jobs, printers := t.printers, ports := t.ports, blocks := t.blocks, free := t.free
      stations := t.stations, mem := t.mem, delivery := t.delivery, notice := t.notice, portCount := t.portCount
      jobCount := t.jobCount, stationCount := t.stationCount, poolCount := t.poolCount } := by
  obtain ⟨js, ps, xs, hchoose, hchose, rfl, hother⟩ := choose_alike (endedBoundary_choice (p := p) (s := s) .completed) rfl
  obtain ⟨hq, hs⟩ := printing_elsewhere h (jobsOk_current h hc).1 p
  let m : State := { s with
    mem := (endedBoundary .completed p j s).mem, ports := (framed p s).ports
    jobs := put s.jobs j (endedJob .completed (countedJob s j)), printers := put s.printers p (emptied s.printers[p]) }
  have hprinter : m.printers[p] = emptied s.printers[p] := put_get ..
  have hnot : nextJob? m m.printers[p] ≠ some j := by
    rw [hprinter]
    exact not_chosen hq hs
  have hjob : (chosenJobs p m)[j] = endedJob .completed (countedJob s j) :=
    (chosenJobs_get p m j).trans ((if_neg hnot).trans (put_get ..))
  rw [hchoose]
  intro why t
  have hm : Chose p m t := hchose t rfl rfl
  have hfreed : Freed s.jobs[j] s t := freed_of_pool rfl rfl
  have hended : t.jobs[j] = endedJob .completed (countedJob s j) := hjob
  refine ⟨by rw [hended]; rfl, hfreed.1, ?_, ?_, ⟨hm, rfl, hfreed, rfl, rfl, rfl⟩, fun q hq => ?_, ?_, rfl⟩
  · rw [chose_current hm (by rw [hprinter]; rfl)]
    exact hnot
  · rw [chose_suspendPending hm, hprinter]
    rfl
  · obtain ⟨hps, hxs⟩ := hother q hq
    exact ⟨hps.trans (put_get_ne _ _ _ _ hq.symm), hxs.trans (put_get_ne _ _ _ _ hq.symm)⟩
  · exact memoryKept_trans (t := progressGiven p j s) (progressGiven_bytes p j s) (giveStatusTo_bytes _ _ _)
      (fun _ => id) fun _ => id

/-! ### A suspension (R66) -/

/-- The state in which a printer chooses after its job was suspended at the boundary (R66). -/
def suspendedBoundary (p : PortNo) (j : JobNo) (s : State) : State :=
  withRings { framed p s with
    jobs := put s.jobs j { countedJob s j with state := .suspended, suspensions := s.jobs[j].suspensions + 1 }
    printers := put s.printers p { emptied s.printers[p] with suspended := some j } } (progressGiven p j s)

theorem suspendJob_atBoundary : suspendJob p j (atBoundary p j s) = suspendedBoundary p j s := by
  unfold suspendJob updJob updPrinter atBoundary suspendedBoundary withRings
  simp only [Fin.getElem_fin, put_get, put_put]
  rfl

/-- An urgent queue head, in the two forms of the model (R63). -/
theorem urgentHead?_isSome (t : State) (r : Printer) :
    (urgentHead? t r).isSome = true ↔ ∃ h, r.queue.head? = some h ∧ rank t.jobs[h].cls < 2 := by
  unfold urgentHead?
  cases r.queue.head? with
  | none => exact ⟨nofun, fun ⟨_, h, _⟩ => nomatch h⟩
  | some k =>
    show (if rank t.jobs[k].cls < 2 then some k else none).isSome = true ↔ _
    rw [Option.isSome_ite]
    exact ⟨fun h => ⟨k, rfl, h⟩, fun ⟨_, hk, h⟩ => Option.some.inj hk ▸ h⟩

/-- Counting a page changes no class, so an urgent head stays one. -/
theorem urgentHead?_atBoundary : (urgentHead? (atBoundary p j s) (atBoundary p j s).printers[p]).isSome = true ↔
    ∃ h, s.printers[p].queue.head? = some h ∧ rank s.jobs[h].cls < 2 := by
  have hprinter : (atBoundary p j s).printers[p] = { emptied s.printers[p] with current := some j } := put_get ..
  have hqueue : (atBoundary p j s).printers[p].queue = s.printers[p].queue := by rw [hprinter]; rfl
  have hclass : ∀ k : JobNo, (atBoundary p j s).jobs[k].cls = s.jobs[k].cls := fun k => by
    show (put s.jobs j (countedJob s j))[k.val].cls = _
    rw [put_get_eq]
    split_ifs with hk
    · subst hk
      rfl
    · rfl
  rw [urgentHead?_isSome, hqueue]
  simp only [hclass]

theorem suspendedBoundary_choice : ChoiceAlike p (suspendedBoundary p j s) { s with
    mem := (suspendedBoundary p j s).mem, ports := (framed p s).ports
    jobs := put s.jobs j { countedJob s j with state := .suspended, suspensions := s.jobs[j].suspensions + 1 }
    printers := put s.printers p { emptied s.printers[p] with suspended := some j } } :=
  ⟨rfl, fun _ _ => rfl, rfl, rfl, rfl, rfl, rfl⟩

theorem pageDone_suspends :
    let t := publish [] s (choose p (suspendedBoundary p j s))
    (let m := { s with
       mem := t.mem, ports := (framed p s).ports
       jobs := put s.jobs j { countedJob s j with state := .suspended, suspensions := s.jobs[j].suspensions + 1 }
       printers := put s.printers p { emptied s.printers[p] with suspended := some j } }
     Chose p m t ∧ t.jobs = chosenJobs p m) ∧
    Told (progressGiven p j s) t ∧
    (∀ q : PortNo, q ≠ p → t.printers[q] = s.printers[q] ∧ t.ports[q] = s.ports[q]) ∧
    MemoryKept s t (fun a => ∃ st, s.jobs[j].owner = some st ∧ InRing st a) ∧
    t = { s with
      jobs := t.jobs, printers := t.printers, ports := t.ports, mem := t.mem, delivery := t.delivery
      notice := t.notice, portCount := t.portCount, jobCount := t.jobCount } := by
  obtain ⟨js, ps, xs, hchoose, hchose, rfl, hother⟩ := choose_alike (suspendedBoundary_choice (p := p) (j := j) (s := s)) rfl
  rw [hchoose]
  intro t
  refine ⟨⟨hchose t rfl rfl, rfl⟩, ⟨rfl, rfl, rfl⟩, fun q hq => ?_, progressGiven_bytes p j s,
    publish_portsJobs rfl rfl rfl⟩
  obtain ⟨hps, hxs⟩ := hother q hq
  exact ⟨hps.trans (put_get_ne _ _ _ _ hq.symm), hxs.trans (put_get_ne _ _ _ _ hq.symm)⟩

/-! ### The next page (R58, R62) -/

theorem pageDone_opens (hc : s.printers[p].current = some j) :
    let t := publish [] s (openPage p (atBoundary p j s))
    t.jobs = put s.jobs j (countedJob s j) ∧
    PageOpened p (countedJob s j) { s.printers[p] with suspendPending := false }
      { s with mem := t.mem, ports := (framed p s).ports } t ∧
    Told (progressGiven p j s) t ∧
    (∀ q : PortNo, q ≠ p → t.printers[q] = s.printers[q] ∧ t.ports[q] = s.ports[q]) ∧
    MemoryKept s t (fun a => ∃ st, s.jobs[j].owner = some st ∧ InRing st a) ∧
    t = { s with
      jobs := t.jobs, printers := t.printers, ports := t.ports, mem := t.mem, delivery := t.delivery
      notice := t.notice, portCount := t.portCount, jobCount := t.jobCount } := by
  have hprinter : (atBoundary p j s).printers[p] = { emptied s.printers[p] with current := some j } := put_get ..
  have hjob : (atBoundary p j s).jobs[j] = countedJob s j := put_get ..
  obtain ⟨hopened, r, x, hopen⟩ := openPage_opened (p := p) (j := j) (s := atBoundary p j s) (by rw [hprinter])
  rw [hprinter, hjob, hopen, ← hc] at hopened
  rw [hopen]
  intro t
  refine ⟨rfl, hopened, ⟨rfl, rfl, rfl⟩, fun q hq => ?_, progressGiven_bytes p j s, publish_portsJobs rfl rfl rfl⟩
  exact ⟨(put_get_ne _ _ _ _ hq.symm).trans (put_get_ne _ _ _ _ hq.symm),
    (put_get_ne _ _ _ _ hq.symm).trans (put_get_ne _ _ _ _ hq.symm)⟩

/-! ### The obligation -/

/-- The event, where it confirms the page in flight. -/
theorem exec_pageDone_confirms {n : Byte} {pg : PageInFlight} (hup : UpWith .printer p s)
    (hworks : s.printers[p].state = .sending ∨ s.printers[p].state = .quiesced) (hc : s.printers[p].current = some j)
    (hpage : s.printers[p].page = some pg) (hclosed : pg.stage = .closed) (hn : pg.page = n.toNat) {u : State}
    (hu : confirmPage p j (framed p s) = u) : exec (.pageDone p [n]) s = .next (publish [] s u) := by
  rw [exec_pageDone hup, pageDone_eq hworks hc hpage, if_pos ⟨hclosed, hn⟩, hu]

end Sys2Proof.Machine
end

section
/-! ## PAGE DONE (R61) -/

namespace Sys2Proof.Machine

open Sys2Proof.Safety
open Config

/-- Settles O51: PAGE DONE through the boundary's branches. -/
theorem pagesAreCounted : Obligations.PagesAreCounted := by
  intro p n j pg s h hup hworks hc hpage last counted progress urgent
  have hport : s.jobs[j].port = p := (jobsOk_current h hc).2
  obtain ⟨hq, hs⟩ := printing_elsewhere h (jobsOk_current h hc).1 p
  have hurgent : ¬ (s.printers[p].suspendPending = false ∨ ¬ urgent) ↔ s.printers[p].suspendPending = true ∧
      (urgentHead? (atBoundary p j s) (atBoundary p j s).printers[p]).isSome = true := by
    rw [urgentHead?_atBoundary, not_or, Bool.not_eq_false, not_not]
  have hconfirm := confirmPage_eq hc hport
  have heq := fun hclosed hn u => exec_pageDone_confirms (n := n) (u := u) hup hworks hc hpage hclosed hn
  refine ⟨fun hn => ?_, fun hclosed hn hend => ⟨_, heq hclosed hn _ ?_, pageDone_ends h hc⟩,
    fun hclosed hn hp hlast hflag hu => ⟨_, heq hclosed hn _ ?_, pageDone_suspends⟩,
    fun hclosed hn hp hlast hno hstate => ⟨_, heq hclosed hn (atBoundary p j s) ?_, ⟨rfl, rfl, rfl⟩,
      progressGiven_bytes p j s, publish_portsJobs rfl rfl rfl⟩,
    fun hclosed hn hp hlast hno hstate => ⟨_, heq hclosed hn _ ?_, pageDone_opens hc⟩⟩
  · rw [exec_pageDone hup, pageDone_eq hworks hc hpage, if_neg fun ⟨h1, h2⟩ => hn.elim (· h1) (· h2), publish_framed]
  · rw [hconfirm]
    by_cases hp : s.jobs[j].cancelPending = true
    · rw [if_pos hp, endJob_atBoundary hport hq hs, endedBoundary_pending hp _ .completed]
    · rw [if_neg hp, if_pos (hend.resolve_left hp), endJob_atBoundary hport hq hs]
  · rw [hconfirm, if_neg (by rw [hp]; exact Bool.false_ne_true), if_neg hlast,
      if_pos (hurgent.mp fun hno => hno.elim (by rw [hflag]; exact nofun) (· hu)), suspendJob_atBoundary]
  · rw [hconfirm, if_neg (by rw [hp]; exact Bool.false_ne_true), if_neg hlast,
      if_neg fun hh => hurgent.mpr hh hno, if_neg (by rw [hstate]; exact nofun)]
  · rw [hconfirm, if_neg (by rw [hp]; exact Bool.false_ne_true), if_neg hlast,
      if_neg fun hh => hurgent.mpr hh hno, if_pos hstate]

end Sys2Proof.Machine
end

section
/-! ## Faults hold the printer (R49, R59, R67–R70) -/

namespace Sys2Proof.Machine

open Sys2Proof.Safety
open Config

/-! ### A choice does not read the printer's state (R63) -/

section

variable {p : PortNo} {m t : State} {v : Vector Printer 8} {r : Printer}

theorem chosen_anyState (x : PrinterState) :
    nextJob? { m with printers := put v p { r with state := x } } (put v p { r with state := x })[p] =
      nextJob? { m with printers := put v p r } (put v p r)[p] ∧
    chosenPrinter p { m with printers := put v p { r with state := x } } =
      chosenPrinter p { m with printers := put v p r } := by
  have hx : (put v p { r with state := x })[p] = { r with state := x } := put_get ..
  have hr : (put v p r)[p] = r := put_get ..
  have hnext : nextJob? { m with printers := put v p { r with state := x } } { r with state := x } =
      nextJob? { m with printers := put v p r } r := rfl
  refine ⟨by rw [hx, hr]; exact hnext, ?_⟩
  unfold chosenPrinter
  dsimp only
  rw [hx, hr, hnext]

theorem chose_anyState (x : PrinterState) (h : Chose p { m with printers := put v p { r with state := x } } t) :
    Chose p { m with printers := put v p r } t := by
  obtain ⟨hnext, hchosen⟩ := chosen_anyState (p := p) (m := m) (v := v) (r := r) x
  unfold Chose at h ⊢
  dsimp only at h ⊢
  rw [hnext, hchosen] at h
  exact h

theorem chosenJobs_anyState (x : PrinterState) : chosenJobs p { m with printers := put v p { r with state := x } } =
    chosenJobs p { m with printers := put v p r } := by
  obtain ⟨hnext, -⟩ := chosen_anyState (p := p) (m := m) (v := v) (r := r) x
  unfold chosenJobs
  dsimp only
  rw [hnext]

end

/-! ### PRINTER FAULT given (R70) -/

theorem reportFault_frame (r : Record) (o : Option StationNo) (s : State) : DeliveryStep s (reportFault r o s) := by
  obtain ⟨rs, h⟩ := reportFault_given r o
  rw [h]
  exact given_frame rs s

theorem reportFault_bytes (r : Record) (o : Option StationNo) (s : State) :
    MemoryKept s (reportFault r o s) fun a => ∃ st, InRing st a := by
  obtain ⟨rs, h⟩ := reportFault_given r o
  rw [h]
  exact given_bytes rs s

theorem RingsAlike.reportFault {s t : State} (h : RingsAlike s t) (r : Record) (o : Option StationNo) :
    Machine.reportFault r o t = Machine.withRings t (Machine.reportFault r o s) := by
  obtain ⟨rs, hrs⟩ := reportFault_given r o
  rw [hrs, hrs]
  exact h.given rs

/-! ### A hard fault (R67) -/

/-- The send list of a page's port without the page's frames that are not yet begun (R59). -/
def keptFrames (serial : Half) (page : Nat) (frames : List OutFrame) : List OutFrame :=
  frames.filter fun f => match f with
    | .pageData serial' n _ _ => !(serial' = serial && n = page)
    | .pageClose serial' n => !(serial' = serial && n = page)
    | _ => true

theorem keptFrames_eq (serial : Half) (page : Nat) (frames : List OutFrame) :
    (frames.filter fun f => !isPageFrame serial page f) = keptFrames serial page frames := by
  refine List.filter_congr fun f _ => ?_
  cases f <;> rfl

/-- The record of a HELD printer whose page is dropped (R67, log 21). -/
def heldPrinter (cause : Cause) (r : Printer) : Printer :=
  { r with state := .held, hold := some cause, page := none, sent := 0, credits := 0, pageTimer := none }

/-- PRINTER FAULT given beside nothing else (R70). -/
def faultTold (p : PortNo) (j : JobNo) (page : Nat) (cause : Cause) (s : State) : State :=
  reportFault (.printerFault p j s.jobs[j].serial page cause) s.jobs[j].owner s

/-- A state with the port record replaced and the job's transient count set, as a fault finds it. -/
def faulting (p : PortNo) (j : JobNo) (port : Port) (transients : Nat) (s : State) : State :=
  { s with ports := put s.ports p port, jobs := put s.jobs j { s.jobs[j] with transients := transients } }

/-- The state after a hard fault, a cancel-pending job's end apart (R67, R70). -/
def heldState (p : PortNo) (j : JobNo) (page : Nat) (cause : Cause) (port : Port) (transients : Nat) (s : State) : State :=
  withRings { faulting p j port transients s with printers := put s.printers p (heldPrinter cause s.printers[p]) }
    (faultTold p j page cause s)

theorem faulting_same (p : PortNo) (j : JobNo) (port : Port) (s : State) :
    faulting p j port s.jobs[j].transients s = { s with ports := put s.ports p port } :=
  congrArg (fun x => { s with ports := put s.ports p port, jobs := x }) (put_self s.jobs j)

theorem heldState_same (p : PortNo) (j : JobNo) (page : Nat) (cause : Cause) (port : Port) (s : State) :
    heldState p j page cause port s.jobs[j].transients s =
      withRings { s with
        ports := put s.ports p port, printers := put s.printers p (heldPrinter cause s.printers[p]) }
        (faultTold p j page cause s) := by
  unfold heldState
  rw [faulting_same]

theorem hardFault_eq {p : PortNo} {j : JobNo} {page : Nat} {s : State} (hpage : page = s.jobs[j].pagesDone + 1)
    (cause : Cause) (port : Port) (transients : Nat) :
    hardFault p j cause (faulting p j port transients s) =
      let t := heldState p j page cause
        { port with sendList := keptFrames s.jobs[j].serial page port.sendList } transients s
      if s.jobs[j].cancelPending = true then leaveHeld p (endJob s.jobs[j].reason t j) else t := by
  subst hpage
  have hjob : (faulting p j port transients s).jobs[j] = { s.jobs[j] with transients := transients } := put_get ..
  have hports : put (put s.ports p port) p
      { (put s.ports p port)[p] with
        sendList := (put s.ports p port)[p].sendList.filter fun f =>
          !isPageFrame s.jobs[j].serial (s.jobs[j].pagesDone + 1) f } =
      put s.ports p { port with
        sendList := keptFrames s.jobs[j].serial (s.jobs[j].pagesDone + 1) port.sendList } := by
    rw [Fin.getElem_fin, put_get, put_put, keptFrames_eq]
  have hheld : ∀ u : State, u = updPrinter (withdraw p s.jobs[j].serial (s.jobs[j].pagesDone + 1)
        (faulting p j port transients s)) p (fun r => { dropPage r with state := .held, hold := some cause }) →
      reportFault (.printerFault p j s.jobs[j].serial (s.jobs[j].pagesDone + 1) cause) s.jobs[j].owner u =
        heldState p j (s.jobs[j].pagesDone + 1) cause
          { port with sendList := keptFrames s.jobs[j].serial (s.jobs[j].pagesDone + 1) port.sendList } transients s := by
    intro u hu
    have halike : RingsAlike s u := by
      subst hu
      exact ⟨rfl, rfl, rfl, rfl, fun _ => rfl⟩
    rw [halike.reportFault]
    subst hu
    exact congrArg (fun x => withRings { faulting p j port transients s with
      ports := x, printers := put s.printers p (heldPrinter cause s.printers[p]) } _) hports
  unfold hardFault
  dsimp only
  rw [hjob, hheld _ rfl]

/-! ### The end of a cancel-pending job at a fault (R49, R67) -/

/-- The state in which the printer, HELD no longer, chooses after its cancel-pending job ended (R49, R71). -/
def leftState (p : PortNo) (j : JobNo) (page : Nat) (cause : Cause) (port : Port) (transients : Nat) (s : State) : State :=
  withRings
    (withPool { s with
      ports := put s.ports p port
      jobs := put s.jobs j { s.jobs[j] with state := .free, transients := transients }
      printers := put s.printers p { emptied s.printers[p] with hold := none, state := .held }
      stations := (dropHoldings s.jobs[j].owner s.jobs[j].blocks.length s).stations }
      (freedPool s.jobs[j].blocks (poolOf s)))
    (giveStatusTo s.jobs[j].owner (.jobEnded j p s.jobs[j].serial s.jobs[j].pagesDone s.jobs[j].pageCount
      s.jobs[j].reason) (faultTold p j page cause s))

theorem heldState_alike (p : PortNo) (j : JobNo) (page : Nat) (cause : Cause) (port : Port) (transients : Nat)
    (s : State) : RingsAlike (faultTold p j page cause s) (heldState p j page cause port transients s) :=
  RingsAlike.withRings (s := s)
    (t := { faulting p j port transients s with printers := put s.printers p (heldPrinter cause s.printers[p]) })
    ⟨rfl, rfl, rfl, rfl, fun _ => rfl⟩ (reportFault_frame ..)

theorem leaveHeld_heldState {p : PortNo} {j : JobNo} {s : State} (h : JobsOk s) (hc : s.printers[p].current = some j)
    (hpending : s.jobs[j].cancelPending = true) (page : Nat) (cause : Cause) (port : Port) (transients : Nat) :
    leaveHeld p (endJob s.jobs[j].reason (heldState p j page cause port transients s) j) =
      choose p (leftState p j page cause port transients s) := by
  obtain ⟨hq, hs⟩ := printing_elsewhere h (jobsOk_current h hc).1 p
  have hport : s.jobs[j].port = p := (jobsOk_current h hc).2
  have hjob : (heldState p j page cause port transients s).jobs[j] = { s.jobs[j] with transients := transients } :=
    put_get ..
  have hleft : leavePlace j (heldPrinter cause s.printers[p]) =
      { emptied s.printers[p] with hold := some cause, state := .held } := leavePlace_only hc hq hs
  have hended : endedJob s.jobs[j].reason { s.jobs[j] with transients := transients } =
      { s.jobs[j] with state := .free, transients := transients } :=
    endedJob_reason { s.jobs[j] with transients := transients }
  have hstations := dropHoldings_stations (s := s) (u := heldState p j page cause port transients s) rfl
    s.jobs[j].owner s.jobs[j].blocks.length
  unfold leaveHeld
  rw [endJob_of hjob hport (heldState_alike ..)]
  dsimp only
  rw [hended, hstations, if_pos hpending]
  refine congrArg (choose p) ?_
  unfold leftState updPrinter heldState faulting withRings withPool
  dsimp only
  simp only [Fin.getElem_fin, put_get, put_put]
  simp only [Fin.getElem_fin] at hleft
  rw [hleft]
  rfl

end Sys2Proof.Machine
end

section
/-! ## PAGE FAULT and the page timer (R49, R67–R70) -/

namespace Sys2Proof.Machine

open Sys2Proof.Safety
open Config

variable {p : PortNo} {j : JobNo} {pg : PageInFlight} {s : State}

/-! ### The events before a fault takes its course -/

/-- The port record after a frame's SHUT. -/
def framedPort (p : PortNo) (s : State) : Port :=
  { s.ports[p] with silence := some { start := s.time, length := 20 }, rx := none }

theorem framed_faulting : framed p s = faulting p j (framedPort p s) s.jobs[j].transients s := by
  rw [faulting_same]
  rfl

theorem faultCause_headHot : faultCause 4 = .headHot := rfl

theorem faultCause_hard {code : Byte} (h : code ≠ 4) :
    faultCause code ≠ .headHot ∧
      faultCause code = if code = 1 then .paperOut else if code = 3 then .coverOpen else .jam := by
  have hne : ∀ {x : Byte}, code ≠ x → code.toNat ≠ x.toNat := fun hx e => hx (BitVec.eq_of_toNat_eq e)
  by_cases h1 : code = 1
  · subst h1
    exact ⟨nofun, rfl⟩
  · by_cases h3 : code = 3
    · subst h3
      exact ⟨nofun, rfl⟩
    · have hjam : faultCause code = .jam := by
        unfold faultCause
        split
        · exact absurd ‹_› (hne h1)
        · rfl
        · exact absurd ‹_› (hne h3)
        · exact absurd ‹_› (hne h)
        · rfl
      rw [hjam, if_neg h1, if_neg h3]
      exact ⟨nofun, rfl⟩

/-- What PAGE FAULT comes to at a working printer with a page in flight (R64, R67, R68). -/
theorem pageFault_eq (hworks : s.printers[p].state = .sending ∨ s.printers[p].state = .quiesced)
    (hc : s.printers[p].current = some j) (hpage : s.printers[p].page = some pg) (n : Nat) (cause : Cause) :
    pageFault p n cause (framed p s) =
      if pg.page = n then
        if cause = .headHot then
          if pg.stage = .awaitingReady then framed p s else transientFault p j pg (framed p s)
        else hardFault p j cause (framed p s)
      else framed p s := by
  have hworking : working s.printers[p] = true := by
    unfold working
    rcases hworks with h | h <;> rw [h] <;> rfl
  unfold pageFault
  dsimp only
  rw [show (framed p s).printers = s.printers from rfl, hc, hpage]
  dsimp only
  simp only [hworking, true_and]

/-- The third HEAD HOT on a page is a hard fault (R68). -/
theorem transientFault_third (h : 2 ≤ s.jobs[j].transients) : transientFault p j pg (framed p s) =
    hardFault p j .headHot (faulting p j (framedPort p s) (s.jobs[j].transients + 1) s) :=
  if_pos (show 3 ≤ s.jobs[j].transients + 1 by omega)

/-- A HEAD HOT below the third makes the page AWAITING READY (R68). -/
theorem transientFault_below (h : s.jobs[j].transients < 2) : transientFault p j pg (framed p s) =
    { faulting p j { framedPort p s with sendList := keptFrames s.jobs[j].serial pg.page s.ports[p].sendList }
        (s.jobs[j].transients + 1) s with
      printers := put s.printers p
        { s.printers[p] with page := some { pg with stage := .awaitingReady }, credits := 0, pageTimer := none } } := by
  have hports : put (put s.ports p (framedPort p s)) p
      { (put s.ports p (framedPort p s))[p] with
        sendList := (put s.ports p (framedPort p s))[p].sendList.filter fun f =>
          !isPageFrame s.jobs[j].serial pg.page f } =
      put s.ports p { framedPort p s with sendList := keptFrames s.jobs[j].serial pg.page s.ports[p].sendList } := by
    rw [Fin.getElem_fin, put_get, put_put, keptFrames_eq]
    rfl
  refine (if_neg (show ¬ 3 ≤ s.jobs[j].transients + 1 by omega)).trans ?_
  exact congrArg (fun x => { faulting p j (framedPort p s) (s.jobs[j].transients + 1) s with
    ports := x
    printers := put s.printers p
      { s.printers[p] with page := some { pg with stage := .awaitingReady }, credits := 0, pageTimer := none } }) hports

/-- The port record once PAGE ABANDON has been sent and the page's frames withdrawn (R59, R69, log 20). -/
def timedOutPort (p : PortNo) (serial : Half) (page : Nat) (s : State) : Port :=
  { s.ports[p] with
    sendList := keptFrames serial page s.ports[p].sendList ++ if UpWith .printer p s then [.pageAbandon page] else [] }

/-- The page timer's end is a hard fault with cause TIMEOUT, PAGE ABANDON being sent first (R69). -/
theorem pageTimerExpiry_eq (hc : s.printers[p].current = some j) (hpage : s.printers[p].page = some pg) :
    ∃ port : Port,
      { port with sendList := keptFrames s.jobs[j].serial pg.page port.sendList } =
        timedOutPort p s.jobs[j].serial pg.page s ∧
      pageTimerExpiry p s = if timerDue s s.printers[p].pageTimer = true then
        hardFault p j .timeout (faulting p j port s.jobs[j].transients s) else s := by
  refine ⟨{ s.ports[p] with
    sendList := s.ports[p].sendList ++ if UpWith .printer p s then [.pageAbandon pg.page] else [] }, ?_, ?_⟩
  · have hkept : keptFrames s.jobs[j].serial pg.page (if UpWith .printer p s then [.pageAbandon pg.page] else []) =
        if UpWith .printer p s then [.pageAbandon pg.page] else [] := by
      split_ifs <;> rfl
    have happend : ∀ a b, keptFrames s.jobs[j].serial pg.page (a ++ b) =
        keptFrames s.jobs[j].serial pg.page a ++ keptFrames s.jobs[j].serial pg.page b := fun _ _ => List.filter_append ..
    unfold timedOutPort
    dsimp only
    rw [happend, hkept]
  · unfold pageTimerExpiry
    dsimp only
    rw [hc, hpage]
    dsimp only
    rw [hand_page rfl, faulting_same]

/-! ### The end of a cancel-pending job -/

theorem fault_ends (page : Nat) (cause : Cause) (port : Port) (transients : Nat) :
    let t := publish [] s (choose p (leftState p j page cause port transients s))
    (let m := { s with
       mem := t.mem, ports := put s.ports p port
       jobs := put s.jobs j { s.jobs[j] with state := .free, transients := transients }
       printers := put s.printers p { emptied s.printers[p] with hold := none } }
     Chose p m t ∧ t.jobs = chosenJobs p m) ∧
    (∀ q : PortNo, q ≠ p → t.printers[q] = s.printers[q] ∧ t.ports[q] = s.ports[q]) ∧
    Freed s.jobs[j] s t ∧
    Told (giveStatusTo s.jobs[j].owner (.jobEnded j p s.jobs[j].serial s.jobs[j].pagesDone
      s.jobs[j].pageCount s.jobs[j].reason) (faultTold p j page cause s)) t ∧
    MemoryKept s t (fun a => ∃ st, InRing st a) ∧
    t = { s with
      jobs := t.jobs, printers := t.printers, ports := t.ports, blocks := t.blocks, free := t.free
      stations := t.stations, mem := t.mem, delivery := t.delivery, notice := t.notice, portCount := t.portCount
      jobCount := t.jobCount, stationCount := t.stationCount, poolCount := t.poolCount } := by
  let m : State := { s with
    mem := (leftState p j page cause port transients s).mem, ports := put s.ports p port
    jobs := put s.jobs j { s.jobs[j] with state := .free, transients := transients } }
  have halike : ChoiceAlike p (leftState p j page cause port transients s)
      { m with printers := put s.printers p { { emptied s.printers[p] with hold := none } with state := .held } } :=
    ⟨rfl, fun _ _ => rfl, rfl, rfl, rfl, rfl, rfl⟩
  obtain ⟨js, ps, xs, hchoose, hchose, hjs, hother⟩ := choose_alike halike rfl
  have hjobs : js = chosenJobs p { m with printers := put s.printers p { emptied s.printers[p] with hold := none } } :=
    hjs.trans (chosenJobs_anyState (m := m) (v := s.printers) (r := { emptied s.printers[p] with hold := none }) .held)
  subst hjobs
  rw [hchoose]
  intro t
  refine ⟨⟨chose_anyState (m := m) (v := s.printers) (r := { emptied s.printers[p] with hold := none }) .held
    (hchose t rfl rfl), rfl⟩, fun q hq => ?_, freed_of_pool rfl rfl, ⟨rfl, rfl, rfl⟩, ?_, rfl⟩
  · obtain ⟨hps, hxs⟩ := hother q hq
    exact ⟨hps.trans (put_get_ne _ _ _ _ hq.symm), hxs.trans (put_get_ne _ _ _ _ hq.symm)⟩
  · exact memoryKept_trans (t := faultTold p j page cause s) (reportFault_bytes _ _ s) (giveStatusTo_bytes _ _ _)
      (fun _ => id) fun a ⟨st, _, ha⟩ => ⟨st, ha⟩

/-! ### A job that is not cancel-pending -/

/-- The transient count of a job is not shown in its mirror entry. -/
theorem jobItems_transients (transients : Nat) (k : JobNo) :
    jobItems s.jobs[k] = jobItems (put s.jobs j { s.jobs[j] with transients := transients })[k.val] := by
  rw [put_get_eq]
  split_ifs with hk
  · subst hk
    rfl
  · rfl

theorem fault_holds (page : Nat) (cause : Cause) (port : Port) (transients : Nat) :
    let t := publish [] s (heldState p j page cause port transients s)
    Told (faultTold p j page cause s) t ∧ MemoryKept s t (fun a => ∃ st, InRing st a) ∧
    t = { s with
      jobs := put s.jobs j { s.jobs[j] with transients := transients }
      printers := put s.printers p (heldPrinter cause s.printers[p]), ports := put s.ports p port
      mem := t.mem, delivery := t.delivery, notice := t.notice, portCount := t.portCount } := by
  intro t
  refine ⟨⟨rfl, rfl, rfl⟩, reportFault_bytes _ _ s, ?_⟩
  show publish [] s _ = _
  rw [publish_eq, publish_jobCount (jobItems_transients (s := s) (j := j) transients),
    publish_stationCount (s := s) (t := heldState p j page cause port transients s) (stationItems_eq rfl rfl),
    publish_poolCount (s := s) (t := heldState p j page cause port transients s) (poolItems_eq rfl rfl)]
  rfl

theorem fault_holds_same (page : Nat) (cause : Cause) (port : Port) :
    let t := publish [] s (heldState p j page cause port s.jobs[j].transients s)
    Told (faultTold p j page cause s) t ∧ MemoryKept s t (fun a => ∃ st, InRing st a) ∧
    t = { s with
      printers := put s.printers p (heldPrinter cause s.printers[p]), ports := put s.ports p port
      mem := t.mem, delivery := t.delivery, notice := t.notice, portCount := t.portCount } := by
  rw [heldState_same]
  intro t
  exact ⟨⟨rfl, rfl, rfl⟩, reportFault_bytes _ _ s, publish_portsOnly [] rfl rfl rfl rfl⟩

/-- HEAD HOT below the third is not shown in any mirror entry. -/
theorem publish_awaiting (hpage : s.printers[p].page = some pg) (frames : List OutFrame) (transients : Nat) {t : State}
    (ht : t = { faulting p j { framedPort p s with sendList := frames } transients s with
      printers := put s.printers p
        { s.printers[p] with page := some { pg with stage := .awaitingReady }, credits := 0, pageTimer := none } }) :
    publish [] s t = t := by
  subst ht
  refine publish_same (fun q => ?_) (jobItems_transients (s := s) (j := j) transients) (fun _ => rfl) rfl
  have hport : portPart (put s.ports p { framedPort p s with sendList := frames })[q.val] = portPart s.ports[q.val] := by
    rw [put_get_eq]
    split_ifs with hq
    · subst hq
      rfl
    · rfl
  have hprinter : printerPart (put s.printers p
        { s.printers[p] with page := some { pg with stage := .awaitingReady }, credits := 0, pageTimer := none })[q.val]
        s.printerSet[q.val] = printerPart s.printers[q.val] s.printerSet[q.val] := by
    rw [put_get_eq]
    split_ifs with hq
    · subst hq
      unfold printerPart
      rw [show s.printers[p.val].page = some pg from hpage]
      rfl
    · rfl
  unfold portItems
  show padTo 63 (portPart s.ports[q.val] ++ printerPart s.printers[q.val] s.printerSet[q.val] ++ _ ++ _) =
    padTo 63 (portPart (put s.ports p _)[q.val] ++ printerPart (put s.printers p _)[q.val] s.printerSet[q.val] ++ _ ++ _)
  rw [hport, hprinter]
  rfl

/-! ### The course of a hard fault -/

theorem hardFault_pending (h : JobsOk s) (hc : s.printers[p].current = some j) (hn : pg.page = s.jobs[j].pagesDone + 1)
    (hp : s.jobs[j].cancelPending = true) (cause : Cause) (port : Port) (transients : Nat) :
    hardFault p j cause (faulting p j port transients s) = choose p (leftState p j pg.page cause
      { port with sendList := keptFrames s.jobs[j].serial pg.page port.sendList } transients s) := by
  rw [hardFault_eq hn]
  exact (if_pos hp).trans (leaveHeld_heldState h hc hp ..)

theorem hardFault_holds (hn : pg.page = s.jobs[j].pagesDone + 1) (hp : s.jobs[j].cancelPending = false) (cause : Cause)
    (port : Port) (transients : Nat) :
    hardFault p j cause (faulting p j port transients s) = heldState p j pg.page cause
      { port with sendList := keptFrames s.jobs[j].serial pg.page port.sendList } transients s := by
  rw [hardFault_eq hn]
  exact if_neg (by rw [hp]; exact Bool.false_ne_true)

/-- A PAGE FAULT that needs a person is a hard fault (R67). -/
theorem exec_pageFault_hard (hup : UpWith .printer p s)
    (hworks : s.printers[p].state = .sending ∨ s.printers[p].state = .quiesced) (hc : s.printers[p].current = some j)
    (hpage : s.printers[p].page = some pg) {n code : Byte} (hn : n.toNat = pg.page) (hcode : code ≠ 4) :
    exec (.pageFault p [n, code]) s = .next (publish [] s (hardFault p j
      (if code = 1 then .paperOut else if code = 3 then .coverOpen else .jam)
      (faulting p j (framedPort p s) s.jobs[j].transients s))) := by
  obtain ⟨hhot, hcause⟩ := faultCause_hard hcode
  rw [exec_pageFault hup, pageFault_eq hworks hc hpage, if_pos hn.symm, if_neg hhot, hcause,
    framed_faulting (p := p) (j := j)]

/-- HEAD HOT in stage DATA or CLOSED (R68). -/
theorem exec_pageFault_hot (hup : UpWith .printer p s)
    (hworks : s.printers[p].state = .sending ∨ s.printers[p].state = .quiesced) (hc : s.printers[p].current = some j)
    (hpage : s.printers[p].page = some pg) {n : Byte} (hn : n.toNat = pg.page) (hstage : pg.stage ≠ .awaitingReady) :
    exec (.pageFault p [n, 4]) s = .next (publish [] s (transientFault p j pg (framed p s))) := by
  rw [exec_pageFault hup, pageFault_eq hworks hc hpage, if_pos hn.symm, if_pos faultCause_headHot, if_neg hstage]

/-- A page timer that is due is a hard fault with cause TIMEOUT (R69). -/
theorem exec_pageTimerExpiry_due (hc : s.printers[p].current = some j) (hpage : s.printers[p].page = some pg)
    (hdue : timerDue s s.printers[p].pageTimer = true) :
    ∃ port : Port,
      { port with sendList := keptFrames s.jobs[j].serial pg.page port.sendList } =
        timedOutPort p s.jobs[j].serial pg.page s ∧
      exec (.pageTimerExpiry p) s =
        .next (publish [] s (hardFault p j .timeout (faulting p j port s.jobs[j].transients s))) := by
  obtain ⟨port, hport, heq⟩ := pageTimerExpiry_eq hc hpage
  refine ⟨port, hport, ?_⟩
  rw [if_pos hdue] at heq
  rw [← heq]
  rfl

end Sys2Proof.Machine
end

section
/-! ## Faults hold the printer (R67–R70) -/

namespace Sys2Proof.Machine

open Sys2Proof.Safety
open Config

/-- Settles O53: each event as a hard fault, as a HEAD HOT below the third, or as one without effect. -/
theorem faultsHoldThePrinter : Obligations.FaultsHoldThePrinter := by
  intro p j pg s hc hpage hn kept held told due timeoutPort
  have hframed : (framed p s).ports[p] = framedPort p s := framed_port p s
  refine ⟨fun h hp i cause port transients hi => ?_, fun n code hup hworks => ⟨fun hother => ?_, fun hpg hcode hp => ?_,
    fun hpg hcode hstage => ?_, fun hpg hcode hstage hbelow => ?_, fun hpg hcode hstage hthird hp => ?_⟩,
    fun timer htimer => ⟨fun hnot => ?_, fun hdue hp => ?_⟩⟩
  · rw [hframed] at hi
    rcases hi with ⟨rfl, ⟨timer, htimer, hdue⟩, rfl, rfl, rfl⟩ |
      ⟨n, code, rfl, hup, hworks, hpg, rfl, ⟨hcode, rfl, rfl⟩ | ⟨rfl, hstage, hthird, rfl, rfl⟩⟩
    · obtain ⟨port, hport, hexec⟩ := exec_pageTimerExpiry_due hc hpage (by rw [htimer]; exact decide_eq_true hdue)
      rw [hardFault_pending h hc hn hp, hport] at hexec
      exact ⟨_, hexec, fault_ends ..⟩
    · have hexec := exec_pageFault_hard hup hworks hc hpage hpg hcode
      rw [hardFault_pending h hc hn hp] at hexec
      exact ⟨_, hexec, fault_ends ..⟩
    · have hexec := exec_pageFault_hot hup hworks hc hpage hpg hstage
      rw [transientFault_third hthird, hardFault_pending h hc hn hp] at hexec
      exact ⟨_, hexec, fault_ends ..⟩
  · rw [exec_pageFault hup, pageFault_eq hworks hc hpage, if_neg (Ne.symm hother), publish_framed]
  · have hexec := exec_pageFault_hard hup hworks hc hpage hpg hcode
    rw [hardFault_holds hn hp] at hexec
    obtain ⟨htold, hkept, hframe⟩ := fault_holds_same (p := p) (j := j) (s := s) pg.page _ _
    rw [hframed]
    exact ⟨_, _, hexec, rfl, htold, hkept, hframe⟩
  · rw [exec_pageFault hup, pageFault_eq hworks hc hpage, if_pos hpg.symm, hcode, if_pos faultCause_headHot, if_pos hstage,
      publish_framed]
  · have hexec := exec_pageFault_hot hup hworks hc hpage hpg hstage
    rw [transientFault_below hbelow, publish_awaiting hpage _ _ rfl] at hexec
    rw [hframed, hcode]
    exact ⟨_, hexec, rfl⟩
  · have hexec := exec_pageFault_hot hup hworks hc hpage hpg hstage
    rw [transientFault_third hthird, hardFault_holds hn hp] at hexec
    rw [hframed, hcode]
    exact ⟨_, hexec, fault_holds ..⟩
  · obtain ⟨_, -, heq⟩ := pageTimerExpiry_eq hc hpage
    have hno : ¬ timerDue s s.printers[p].pageTimer = true := by
      rw [htimer]
      exact fun hd => absurd (of_decide_eq_true hd) (Nat.not_le.mpr hnot)
    rw [if_neg hno] at heq
    show Host.Outcome.next (publish [] s (pageTimerExpiry p s)) = _
    rw [heq, publish_self]
  · obtain ⟨port, hport, hexec⟩ := exec_pageTimerExpiry_due hc hpage (by rw [htimer]; exact decide_eq_true hdue)
    rw [hardFault_holds hn hp, hport] at hexec
    exact ⟨_, hexec, fault_holds_same ..⟩

end Sys2Proof.Machine
end

section
/-! ## CANCEL JOB (R46–R49) -/

namespace Sys2Proof.Machine

open Sys2Proof.Safety
open Config

/-! ### A request that gives a record and is then answered -/

theorem giveStatusTo_memory {s : State} (hm : MemoryOk s) (hr : RingsOk s) (o : Option StationNo) (r : Record) :
    MemoryOk (giveStatusTo o r s) := by
  cases o with
  | none => exact hm
  | some st => exact (giveStatus_ringsWritten hm hr st r).memory

/-- A request whose service gives one record: the record given, and then the answer (R162, R163, R170). -/
theorem served_told {k : RequestKind} {f : CardNo → State → Served} {c : CardNo} {s u : State} {a : Answer}
    {o : Option StationNo} {r : Record} (hm : MemoryOk s) (hr : RingsOk s) (hs : Serving k c s)
    (hf : f c s = { state := u, answer := a }) (hmem : u.mem = (giveStatusTo o r s).mem)
    (hdelivery : u.delivery = (giveStatusTo o r s).delivery) (hnotice : u.notice = (giveStatusTo o r s).notice) :
    serve k f s = .next (publish [] s (answerServed c a [] u)) ∧
    AnswerStands c a (publish [] s (answerServed c a [] u)) ∧
    ToldThenAnswered c (giveStatusTo o r s) (publish [] s (answerServed c a [] u)) ∧
    MemoryKept s (publish [] s (answerServed c a [] u))
      (fun b => AnswerField c b ∨ ∃ st, o = some st ∧ InRing st b) := by
  have hwf : memoryWf u.mem = true := hmem ▸ giveStatusTo_memory hm hr o r
  obtain ⟨t, ht, hstands, hkept, rfl⟩ := served_from hwf hs hf
  have htold : MemoryKept (giveStatusTo o r s) (publish [] s (answerServed c a [] u)) (AnswerField c) :=
    fun b hb => (hkept b hb).trans (congrArg (readMem · b) hmem)
  exact ⟨ht, hstands, ⟨hdelivery, congrArg (· ||| stationBit (cardStation c)) hnotice, htold⟩,
    memoryKept_trans (giveStatusTo_bytes o r s) htold (fun _ => Or.inr) fun _ => Or.inl⟩

/-! ### The checks (R46) -/

section

variable {c : CardNo} {s : State} {j : JobNo}

/-- The checks of a CANCEL JOB of a numbered job, as the table says them. -/
theorem cancelChecks_table (hj : cardNum s c 8 = j.val) :
    List.Forall₂ (fun x y => (x.1 = true ↔ y.1) ∧ (x.1 = false → y.2 x.2))
      (cancelChecks s (cardStation c) (some j) (cardHalf s c 9))
      [check (∃ j : JobNo, cardNum s c 8 = j.val ∧ s.jobs[j].state ≠ .free ∧ s.jobs[j].serial = cardHalf s c 9)
         { outcome := .tooLate },
       check (∃ j : JobNo, cardNum s c 8 = j.val ∧ (s.jobs[j].owner = some (cardStation c) ∨ cardStation c = 0))
         { outcome := .notPermitted }] := by
  have named : ∀ {q : JobNo → Prop}, (∃ k : JobNo, cardNum s c 8 = k.val ∧ q k) ↔ q j := fun {q} =>
    ⟨fun ⟨k, hk, h⟩ => Fin.ext (hj.symm.trans hk) ▸ h, fun h => ⟨j, hj, h⟩⟩
  refine .cons ⟨?_, fun _ => rfl⟩ (.cons ⟨?_, fun _ => rfl⟩ .nil)
  · show (decide _ && decide _) = true ↔ ∃ k : JobNo, _
    rw [Bool.and_eq_true, decide_eq_true_iff, decide_eq_true_iff]
    exact (named (q := fun k => s.jobs[k].state ≠ .free ∧ s.jobs[k].serial = cardHalf s c 9)).symm
  · show (decide _ || decide _) = true ↔ ∃ k : JobNo, _
    rw [Bool.or_eq_true, decide_eq_true_iff, decide_eq_true_iff]
    exact (named (q := fun k => s.jobs[k].owner = some (cardStation c) ∨ cardStation c = 0)).symm

/-- A CANCEL JOB that passes its checks is accepted (R46). -/
theorem serveCancel_accepted (hj : cardNum s c 8 = j.val) (hserial : cardHalf s c 9 = s.jobs[j].serial)
    (howner : s.jobs[j].owner = some (cardStation c) ∨ cardStation c = 0) (hlive : s.jobs[j].state ≠ .free) :
    serveCancel c s = acceptCancel j s := by
  have hpass : firstFailing (cancelChecks s (cardStation c) (some j) (cardHalf s c 9)) = none := by
    rw [firstFailing_none_iff]
    intro x hx
    simp only [cancelChecks, List.mem_cons, List.not_mem_nil, or_false] at hx
    rcases hx with rfl | rfl
    · exact Bool.and_eq_true_iff.mpr ⟨decide_eq_true hlive, decide_eq_true hserial.symm⟩
    · simpa using howner
  unfold serveCancel
  dsimp only
  rw [index?_eq_some j hj, checked_pass hpass]

theorem cancelRefusals (hm : MemoryOk s) (hs : Serving .cancelJob c s) :
    FirstFailureAnswers .cancelJob c s
      [check (cardNum s c 8 ≤ 31) { outcome := .badArgument },
       check (∃ j : JobNo, cardNum s c 8 = j.val ∧ s.jobs[j].state ≠ .free ∧ s.jobs[j].serial = cardHalf s c 9)
         { outcome := .tooLate },
       check (∃ j : JobNo, cardNum s c 8 = j.val ∧ (s.jobs[j].owner = some (cardStation c) ∨ cardStation c = 0))
         { outcome := .notPermitted }] := by
  refine ⟨fun hn => ?_, fun hle => ?_⟩
  · have hnone : index? 32 (cardNum s c 8) = none := index?_eq_none (Nat.not_le.mp hn)
    obtain ⟨t, ht, ha⟩ := refused_answer (k := .cancelJob) (f := serveCancel) (a := { outcome := .badArgument }) hm hs (by
      unfold serveCancel
      dsimp only
      rw [hnone]
      rfl)
    exact ⟨_, t, rfl, ht, ha⟩
  · have hj : cardNum s c 8 = (⟨cardNum s c 8, Nat.lt_succ_of_le hle⟩ : JobNo).val := rfl
    refine checked_firstFailureAnswers (f := serveCancel) (accept := acceptCancel ⟨cardNum s c 8, Nat.lt_succ_of_le hle⟩ s)
      hm hs rfl ?_ (cancelChecks_table hj)
    unfold serveCancel
    dsimp only
    rw [index?_eq_some _ hj]

end

/-! ### A job that ends at once (R47, R48) -/

section

variable {c : CardNo} {s : State} {j : JobNo}

theorem endJob_told (reason : EndReason) (s : State) (j : JobNo) :
    let g := giveStatusTo s.jobs[j].owner (endedRecord reason s j) s
    (endJob reason s j).mem = g.mem ∧ (endJob reason s j).delivery = g.delivery ∧ (endJob reason s j).notice = g.notice := by
  rw [endJob_eq]
  exact ⟨rfl, rfl, rfl⟩

/-- A job that is not current leaves the queue or the suspended slot (R47, R51). -/
theorem leavePlace_waiting (h : JobsOk s) (hstate : s.jobs[j].state = .waiting ∨ s.jobs[j].state = .suspended) :
    leavePlace j s.printers[s.jobs[j].port] =
      { s.printers[s.jobs[j].port] with
        queue := s.printers[s.jobs[j].port].queue.filter (· ≠ j)
        suspended := if s.jobs[j].state = .suspended then none else s.printers[s.jobs[j].port].suspended } := by
  have hcurrent : s.printers[s.jobs[j].port].current ≠ some j := fun hc => by
    rcases hstate with hw | hw <;> exact absurd (hw.symm.trans (jobsOk_current h hc).1) nofun
  have hsuspended : s.printers[s.jobs[j].port].suspended = some j ↔ s.jobs[j].state = .suspended :=
    ⟨fun hs => (jobsOk_suspended h hs).1, fun hs => by
      have hstands := ((jobsOk_iff s).mp h).1 j _ rfl
      rw [hs] at hstands
      exact hstands⟩
  unfold leavePlace
  simp only [hsuspended, if_neg hcurrent]

theorem cancel_ends (hm : MemoryOk s) (hr : RingsOk s) (h : JobsOk s) (hs : Serving .cancelJob c s)
    (hstate : s.jobs[j].state = .waiting ∨ s.jobs[j].state = .suspended) (hserve : serveCancel c s = acceptCancel j s) :
    let why := if s.jobs[j].cancelPending then s.jobs[j].reason else .cancelled
    let p := s.jobs[j].port
    ∃ t, exec .cancelJob s = .next t ∧ AnswerStands c { outcome := .ok } t ∧
      t.jobs = put s.jobs j { s.jobs[j] with state := .free, reason := why } ∧
      t.printers = put s.printers p
        { s.printers[p] with
          queue := s.printers[p].queue.filter (· ≠ j)
          suspended := if s.jobs[j].state = .suspended then none else s.printers[p].suspended } ∧
      Freed s.jobs[j] s t ∧
      ToldThenAnswered c (giveStatusTo s.jobs[j].owner
        (.jobEnded j p s.jobs[j].serial s.jobs[j].pagesDone s.jobs[j].pageCount why) s) t ∧
      MemoryKept s t (fun a => AnswerField c a ∨ ∃ st, s.jobs[j].owner = some st ∧ InRing st a) ∧
      t = { s with mem := t.mem, cards := put s.cards c .answered, serving := none, notice := t.notice, stations := t.stations,
                   blocks := t.blocks, free := t.free, jobs := t.jobs, printers := t.printers, delivery := t.delivery,
                   portCount := t.portCount, jobCount := t.jobCount, stationCount := t.stationCount,
                   poolCount := t.poolCount } := by
  intro why p
  have hnot : s.jobs[j].state ≠ .printing := fun hp => by
    rcases hstate with hw | hw <;> exact absurd (hw.symm.trans hp) nofun
  have hf : serveCancel c s = { state := endJob .cancelled s j, answer := { outcome := .ok } } := by
    rw [hserve]
    exact if_neg hnot
  obtain ⟨hmem, hdelivery, hnotice⟩ := endJob_told .cancelled s j
  obtain ⟨ht, ha, htold, hkept⟩ := served_told hm hr hs hf hmem hdelivery hnotice
  rw [endJob_eq] at ht ha htold hkept
  exact ⟨_, ht, ha, rfl, congrArg (put s.printers p) (leavePlace_waiting h hstate), freed_of_pool rfl rfl, htold, hkept,
    rfl⟩

/-- The state after a PRINTING job has ended at once, before its printer chooses (R48, R71). -/
def endedAtOnce (s : State) (j : JobNo) : State :=
  withRings
    (withPool { s with
      printers := put s.printers s.jobs[j].port
        { s.printers[s.jobs[j].port] with
          current := none, suspendPending := false
          hold := if s.printers[s.jobs[j].port].state = .held then none else s.printers[s.jobs[j].port].hold }
      jobs := put s.jobs j (endedJob .cancelled s.jobs[j])
      stations := (dropHoldings s.jobs[j].owner s.jobs[j].blocks.length s).stations }
      (freedPool s.jobs[j].blocks (poolOf s)))
    (giveStatusTo s.jobs[j].owner (endedRecord .cancelled s j) s)

theorem endAtOnce_eq (h : JobsOk s) (hstate : s.jobs[j].state = .printing)
    (hat : s.printers[s.jobs[j].port].state = .held ∨ s.printers[s.jobs[j].port].state = .detached ∨
      s.printers[s.jobs[j].port].state = .quiesced) :
    endAtOnce .cancelled s.jobs[j].port j s =
      if s.printers[s.jobs[j].port].state = .detached then endedAtOnce s j
      else choose s.jobs[j].port (endedAtOnce s j) := by
  obtain ⟨hq, hs⟩ := printing_elsewhere h hstate s.jobs[j].port
  have hleft := leavePlace_only (jobsOk_printing h hstate) hq hs
  have hend : endJob .cancelled s j = withRings
      (withPool { s with
        printers := put s.printers s.jobs[j].port
          { s.printers[s.jobs[j].port] with current := none, suspendPending := false }
        jobs := put s.jobs j (endedJob .cancelled s.jobs[j])
        stations := (dropHoldings s.jobs[j].owner s.jobs[j].blocks.length s).stations }
        (freedPool s.jobs[j].blocks (poolOf s)))
      (giveStatusTo s.jobs[j].owner (endedRecord .cancelled s j) s) := by
    rw [endJob_eq]
    unfold endedState
    rw [hleft]
  have hkept : s.printers[s.jobs[j].port].state ≠ .held → endJob .cancelled s j = endedAtOnce s j := fun hne => by
    rw [hend]
    unfold endedAtOnce
    rw [if_neg hne]
  unfold endAtOnce
  rcases hat with hheld | hdetached | hquiesced
  · have hne : s.printers[s.jobs[j].port].state ≠ .detached := by
      rw [hheld]
      exact nofun
    rw [if_neg hne, hheld, hend]
    refine congrArg (choose s.jobs[j].port) ?_
    unfold endedAtOnce
    rw [if_pos hheld]
    unfold updPrinter withRings withPool
    dsimp only
    simp only [Fin.getElem_fin, put_get, put_put]
  · rw [if_pos hdetached, hdetached]
    exact hkept (by rw [hdetached]; exact nofun)
  · have hne : s.printers[s.jobs[j].port].state ≠ .detached := by
      rw [hquiesced]
      exact nofun
    rw [if_neg hne, hquiesced]
    exact congrArg (choose s.jobs[j].port) (hkept (by rw [hquiesced]; exact nofun))

/-- A printer whose job ended at once chooses, or stays DETACHED, on the state that also carries the answer (R48). -/
theorem endedAtOnce_after {M : Memory} (hdata : dataByte M = dataByte (endedAtOnce s j).mem) :
    let p := s.jobs[j].port
    let m := { s with
      mem := M
      jobs := put s.jobs j (endedJob .cancelled s.jobs[j])
      printers := put s.printers p
        { s.printers[p] with
          current := none, suspendPending := false
          hold := if s.printers[p].state = .held then none else s.printers[p].hold } }
    ∃ js ps xs,
      (if s.printers[p].state = .detached then endedAtOnce s j else choose p (endedAtOnce s j)) =
        { endedAtOnce s j with jobs := js, printers := ps, ports := xs } ∧
      (s.printers[p].state ≠ .detached →
        (∀ t : State, t.printers = ps → t.ports = xs → Chose p m t) ∧ js = chosenJobs p m) ∧
      (s.printers[p].state = .detached → ps = m.printers ∧ js = m.jobs ∧ xs = s.ports) ∧
      ∀ q : PortNo, q ≠ p → ps[q] = s.printers[q] ∧ xs[q] = s.ports[q] := by
  intro p m
  have hother : ∀ q : PortNo, q ≠ p → (endedAtOnce s j).printers[q] = s.printers[q] := fun q hq =>
    put_get_ne _ _ _ _ hq.symm
  by_cases hd : s.printers[p].state = .detached
  · rw [if_pos hd]
    exact ⟨_, _, _, rfl, fun hne => absurd hd hne, fun _ => ⟨rfl, rfl, rfl⟩, fun q hq => ⟨hother q hq, rfl⟩⟩
  · rw [if_neg hd]
    have halike : ChoiceAlike p (endedAtOnce s j) m := ⟨rfl, fun _ _ => rfl, hdata, rfl, rfl, rfl, rfl⟩
    obtain ⟨js, ps, xs, hchoose, hchose, hjs, hkept⟩ := choose_alike halike rfl
    exact ⟨js, ps, xs, hchoose, fun _ => ⟨hchose, hjs⟩, fun h => absurd h hd,
      fun q hq => ⟨(hkept q hq).1.trans (hother q hq), (hkept q hq).2⟩⟩

theorem cancel_ends_at_once (hm : MemoryOk s) (hr : RingsOk s) (h : JobsOk s) (hs : Serving .cancelJob c s)
    (hstate : s.jobs[j].state = .printing)
    (hat : s.printers[s.jobs[j].port].state = .held ∨ s.printers[s.jobs[j].port].state = .detached ∨
      s.printers[s.jobs[j].port].state = .quiesced ∧ s.printers[s.jobs[j].port].page = none)
    (hserve : serveCancel c s = acceptCancel j s) :
    let why := if s.jobs[j].cancelPending then s.jobs[j].reason else .cancelled
    let p := s.jobs[j].port
    ∃ t, exec .cancelJob s = .next t ∧ AnswerStands c { outcome := .ok } t ∧
      let m := { s with
        mem := t.mem
        jobs := put s.jobs j { s.jobs[j] with state := .free, reason := why }
        printers := put s.printers p
          { s.printers[p] with
            current := none, suspendPending := false
            hold := if s.printers[p].state = .held then none else s.printers[p].hold } }
      (s.printers[p].state ≠ .detached → Chose p m t ∧ t.jobs = chosenJobs p m) ∧
      (s.printers[p].state = .detached → t.printers = m.printers ∧ t.jobs = m.jobs ∧ t.ports = s.ports) ∧
      (∀ q : PortNo, q ≠ p → t.printers[q] = s.printers[q] ∧ t.ports[q] = s.ports[q]) ∧
      Freed s.jobs[j] s t ∧
      ToldThenAnswered c (giveStatusTo s.jobs[j].owner
        (.jobEnded j p s.jobs[j].serial s.jobs[j].pagesDone s.jobs[j].pageCount why) s) t ∧
      MemoryKept s t (fun a => AnswerField c a ∨ ∃ st, s.jobs[j].owner = some st ∧ InRing st a) ∧
      t = { s with mem := t.mem, cards := put s.cards c .answered, serving := none, notice := t.notice, stations := t.stations,
                   blocks := t.blocks, free := t.free, jobs := t.jobs, printers := t.printers, ports := t.ports,
                   delivery := t.delivery, portCount := t.portCount, jobCount := t.jobCount,
                   stationCount := t.stationCount, poolCount := t.poolCount } := by
  intro why p
  have hstops : runsOn s.printers[s.jobs[j].port] = false := by
    unfold runsOn
    rcases hat with ha | ha | ⟨ha, hpage⟩
    · rw [ha]; rfl
    · rw [ha]; rfl
    · rw [ha, hpage]; rfl
  have hf : serveCancel c s = { state := endAtOnce .cancelled s.jobs[j].port j s, answer := { outcome := .ok } } := by
    rw [hserve]
    exact (if_pos hstate).trans (if_neg (by rw [hstops]; exact Bool.false_ne_true))
  rw [endAtOnce_eq h hstate (hat.imp_right fun hh => hh.imp_right And.left)] at hf
  have hwf : memoryWf (endedAtOnce s j).mem = true := giveStatusTo_memory hm hr _ _
  have hkept := (answerServed_only (s := endedAtOnce s j) hwf c { outcome := .ok }).2.1
  obtain ⟨js, ps, xs, heq, hchose, hdetached, hother⟩ := endedAtOnce_after
    (M := (answerServed c { outcome := .ok } [] (endedAtOnce s j)).mem)
    (dataByte_of_kept fun a ha => hkept a fun hin => ha ⟨c, hin⟩)
  rw [heq] at hf
  obtain ⟨ht, ha, htold, hbytes⟩ := served_told hm hr hs hf (o := s.jobs[j].owner) (r := endedRecord .cancelled s j) rfl rfl rfl
  exact ⟨_, ht, ha, fun hd => ⟨(hchose hd).1 _ rfl rfl, (hchose hd).2⟩, hdetached, hother, freed_of_pool rfl rfl, htold,
    hbytes, rfl⟩

/-! ### A job that runs on (R48) -/

theorem cancel_runs_on (hstate : s.jobs[j].state = .printing)
    (hruns : s.printers[s.jobs[j].port].state = .sending ∨
      s.printers[s.jobs[j].port].state = .quiesced ∧ s.printers[s.jobs[j].port].page ≠ none)
    (hserve : serveCancel c s = acceptCancel j s) :
    serveCancel c s =
      { state := if s.jobs[j].cancelPending = true then s else markPending .cancelled j s
        answer := { outcome := .ok, value := 1 } } := by
  have hon : runsOn s.printers[s.jobs[j].port] = true := by
    unfold runsOn
    rcases hruns with ha | ⟨ha, hpage⟩
    · rw [ha]; rfl
    · rw [ha, Option.isSome_iff_ne_none.mpr hpage]; rfl
  rw [hserve]
  exact (if_pos hstate).trans (if_pos hon)

end

/-- Settles O25: the job by its state and its printer's, and the checks by the first that fails. -/
theorem cancelEndsOrMarksAJob : Obligations.CancelEndsOrMarksAJob := by
  refine ⟨fun c s j hm hr h hs hj hserial howner => ?_, fun c s hm hs => cancelRefusals hm hs⟩
  have hserve : s.jobs[j].state ≠ .free → serveCancel c s = acceptCancel j s :=
    serveCancel_accepted hj hserial howner
  refine ⟨fun hstate => cancel_ends hm hr h hs hstate (hserve ?_),
    fun hstate hat => cancel_ends_at_once hm hr h hs hstate hat (hserve ?_),
    fun hstate hpending hruns => ?_, fun hstate hpending hruns => ?_⟩
  · rcases hstate with hw | hw <;> (rw [hw]; exact nofun)
  · rw [hstate]
    exact nofun
  · have hf := cancel_runs_on hstate hruns (hserve (by rw [hstate]; exact nofun))
    rw [if_pos hpending] at hf
    exact refused_answer (f := serveCancel) hm hs hf
  · have hf := cancel_runs_on hstate hruns (hserve (by rw [hstate]; exact nofun))
    rw [if_neg (by rw [hpending]; exact Bool.false_ne_true)] at hf
    obtain ⟨t, ht, ha, hk, rfl⟩ := served_answer (f := serveCancel) hm hs hf rfl
    refine ⟨_, ht, ha, rfl, hk, ?_⟩
    rw [publish_eq, publish_portCount (s := s) (t := answerServed c _ [] (markPending .cancelled j s)) fun _ => rfl,
      publish_stationCount (s := s) (t := answerServed c _ [] (markPending .cancelled j s)) fun _ => rfl,
      publish_poolCount (s := s) (t := answerServed c _ [] (markPending .cancelled j s)) rfl]
    rfl

end Sys2Proof.Machine
end

section
/-! ## SUBMIT refused (R38, R39) -/

namespace Sys2Proof.Machine

open Sys2Proof.Safety
open Config

/-! ### Tables whose later checks lean on the earlier ones -/

/-- A list of checks says what a table says, row by row, each row where the rows before it pass. -/
def RowsAgree : List (Bool × Answer) → List (Prop × (Answer → Prop)) → Prop
  | [], [] => True
  | (pass, a) :: tests, (holds, gives) :: table =>
    (pass = true ↔ holds) ∧ (pass = false → gives a) ∧ (holds → RowsAgree tests table)
  | _, _ => False

/-- A request whose checks say what the statement's table says answers by the first check that fails. -/
theorem checked_rowsAgree {i : Instr} {k : RequestKind} {f : CardNo → State → Served} {c : CardNo} {s : State}
    (hm : MemoryOk s) (hs : Serving k c s) (hi : exec i s = serve k f s) {tests : List (Bool × Answer)} {accept : Served}
    (hf : f c s = checked s tests accept) {table : List (Prop × (Answer → Prop))} (h : RowsAgree tests table) :
    FirstFailureAnswers i c s table := by
  suffices key : (∀ a, firstFailing tests = some a → f c s = refuse s a) → FirstFailureAnswers i c s table from
    key fun a ha => by rw [hf, checked_fail ha]
  clear hf
  induction tests generalizing table with
  | nil =>
    cases table with
    | nil => exact fun _ => trivial
    | cons _ _ => exact h.elim
  | cons test tests ih =>
    obtain ⟨pass, a⟩ := test
    cases table with
    | nil => exact h.elim
    | cons row table =>
      obtain ⟨holds, gives⟩ := row
      obtain ⟨hiff, hgives, hrest⟩ := h
      intro hf
      cases pass with
      | true => exact ⟨fun hn => absurd (hiff.mp rfl) hn, fun hy => ih (hrest hy) fun a ha => hf a ha⟩
      | false =>
        refine ⟨fun _ => ⟨a, answerServed c a [] s, hgives rfl, ?_, answerServed_only hm c a⟩,
          fun hy => absurd (hiff.mpr hy) Bool.false_ne_true⟩
        rw [hi]
        exact serve_refused hs (hf a rfl)

/-! ### The rows -/

variable {s : State} {st : StationNo}

/-- A port byte names a port with a property exactly when some port of that number has it. -/
theorem port?_any (n : Nat) (test : PortNo → Bool) :
    ((port? n).map test).getD false = true ↔ ∃ p : PortNo, n = p.val ∧ test p = true := by
  by_cases h : n < 8
  · have hp : port? n = some ⟨n, h⟩ := index?_eq_some ⟨n, h⟩ rfl
    rw [hp]
    exact ⟨fun ht => ⟨⟨n, h⟩, rfl, ht⟩, fun ⟨q, hq, ht⟩ => by
      have hqn : q = ⟨n, h⟩ := Fin.ext hq.symm
      exact hqn ▸ ht⟩
  · have hp : port? n = none := index?_eq_none (Nat.not_lt.mp h)
    rw [hp]
    exact ⟨nofun, fun ⟨q, hq, _⟩ => absurd (hq ▸ q.isLt) h⟩

theorem printerReady_any (n : Nat) : printerReady s (port? n) = true ↔
    ∃ p : PortNo, n = p.val ∧ attached s.printers[p] = true := by
  rw [← port?_any n fun p => attached s.printers[p]]
  unfold printerReady
  cases port? n <;> rfl

theorem queueRoom_any (n : Nat) : queueRoom s (port? n) = true ↔
    ∃ p : PortNo, n = p.val ∧ s.printers[p].queue.length < 12 := by
  have hroom : queueRoom s (port? n) = ((port? n).map fun p => decide (s.printers[p].queue.length < 12)).getD false := by
    unfold queueRoom
    cases port? n <;> rfl
  rw [hroom, port?_any]
  simp only [decide_eq_true_iff]

theorem class?_isSome (n : Nat) : (class? n).isSome = true ↔ n ≤ 2 := by
  match n with
  | 0 | 1 | 2 => exact ⟨fun _ => by decide, fun _ => rfl⟩
  | n + 3 => exact ⟨nofun, fun h => absurd h (by omega)⟩

theorem class?_priority (n : Nat) : class? n = some .priority ↔ n = 0 := by
  match n with
  | 0 => exact ⟨fun _ => rfl, fun _ => rfl⟩
  | 1 | 2 => exact ⟨nofun, nofun⟩
  | n + 3 => exact ⟨nofun, nofun⟩

theorem lowest?_isSome {α : Type} {n : Nat} (v : Vector α n) (test : α → Bool) :
    (lowest? v test).isSome = true ↔ ∃ i : Fin n, test v[i] = true := by
  unfold lowest?
  rw [List.find?_isSome]
  exact ⟨fun ⟨i, _, h⟩ => ⟨i, h⟩, fun ⟨i, h⟩ => ⟨i, List.mem_finRange i, h⟩⟩

/-- The first bad entry, as the table says it. -/
theorem firstBadEntry_row (entries : List Nat) :
    ((firstBadEntry s st 0 [] entries).isNone = true ↔ ∀ i, ¬ BadEntry s st entries i) ∧
    ((firstBadEntry s st 0 [] entries).isNone = false → ∃ i, BadEntry s st entries i ∧
      (∀ k < i, ¬ BadEntry s st entries k) ∧
      (⟨.badArgument, (firstBadEntry s st 0 [] entries).getD 0, 0⟩ : Answer) = { outcome := .badArgument, detail := i }) := by
  have hfirst := firstBadEntry_first s st entries
  cases hbad : firstBadEntry s st 0 [] entries with
  | none =>
    rw [hbad] at hfirst
    exact ⟨⟨fun _ => hfirst, fun _ => rfl⟩, nofun⟩
  | some i =>
    rw [hbad] at hfirst
    exact ⟨⟨nofun, fun h => absurd hfirst.1 (h i)⟩, fun _ => ⟨i, hfirst.1, hfirst.2, rfl⟩⟩

/-- Entries none of which fails are the numbers of the blocks they name. -/
theorem listedBlocks_entries {entries : List Nat} (h : ∀ i, ¬ BadEntry s st entries i) :
    (listedBlocks s st entries).map Fin.val = entries := by
  have hnamed : ∀ e ∈ entries, (ownReserved? s st e).map Fin.val = some e := fun e he => by
    obtain ⟨i, hi⟩ := List.mem_iff_getElem?.mp he
    cases hown : ownReserved? s st e with
    | none => exact absurd ⟨e, hi, .inl ((ownReserved?_eq_none_iff s st e).mp hown)⟩ (h i)
    | some b =>
      unfold ownReserved? at hown
      split at hown
      · next x hx =>
        split at hown
        · cases hown
          exact congrArg some (val_of_index? hx)
        · cases hown
      · cases hown
  unfold listedBlocks
  rw [List.map_filterMap]
  exact (List.filterMap_congr hnamed).trans List.filterMap_some

/-- The page walk, as the table says it, where the block list has passed (R39). -/
theorem pageWalk_row {entries : List Nat} (h : ∀ i, ¬ BadEntry s st entries i) (total pages : Nat) :
    let walk := pageWalk s.mem (listedBlocks s st entries) total pages pages 0 0
    (walk.isNone = true ↔ ∀ (bs : List BlockNo) d, bs.map Fin.val = entries → ¬ WalkFails s.mem bs total pages d) ∧
    (walk.isNone = false → ∃ (bs : List BlockNo) (d : Nat), bs.map Fin.val = entries ∧
      WalkFails s.mem bs total pages d ∧ (⟨.format, walk.getD 0, 0⟩ : Answer) = { outcome := .format, detail := d }) := by
  intro walk
  have hlisted := listedBlocks_entries h
  have hfails := pageWalk_eq_some_iff s.mem (listedBlocks s st entries) total pages
  cases hwalk : walk with
  | none =>
    refine ⟨⟨fun _ bs d hbs hf => ?_, fun _ => rfl⟩, nofun⟩
    have hsame : bs = listedBlocks s st entries :=
      List.map_injective_iff.mpr Fin.val_injective (hbs.trans hlisted.symm)
    exact nomatch hwalk.symm.trans ((hfails d).mpr (hsame ▸ hf))
  | some d =>
    have hd := (hfails d).mp hwalk
    exact ⟨⟨nofun, fun hno => absurd hd (hno _ d hlisted)⟩, fun _ => ⟨_, d, hlisted, hd, rfl⟩⟩

/-! ### The table -/

theorem submit_refusals (c : CardNo) (s : State) (hm : MemoryOk s) (hs : Serving .submit c s) :
    let st := cardStation c
    let entries := cardList s c 15 (cardNum s c 11)
    FirstFailureAnswers .submit c s
      [check (∃ p : PortNo, cardNum s c 8 = p.val ∧ attached s.printers[p] = true) { outcome := .noDevice },
       check (∃ p : PortNo, cardNum s c 8 = p.val ∧ permitted s st p = true) { outcome := .notPermitted },
       check (cardNum s c 9 ≤ 2) { outcome := .badArgument, detail := 0xFC },
       check (cardNum s c 9 ≠ 0 ∨ st = 0) { outcome := .notPermitted, detail := 1 },
       check (1 ≤ cardNum s c 11 ∧ cardNum s c 11 ≤ 32) { outcome := .badArgument, detail := 0xFF },
       (∀ i, ¬ BadEntry s st entries i, fun a => ∃ i, BadEntry s st entries i ∧ (∀ k < i, ¬ BadEntry s st entries k) ∧
         a = { outcome := .badArgument, detail := i }),
       check ((cardNum s c 11 - 1) * 256 < cardHalfNum s c 12 ∧ cardHalfNum s c 12 ≤ cardNum s c 11 * 256)
         { outcome := .badArgument, detail := 0xFE },
       check (1 ≤ cardNum s c 14 ∧ cardNum s c 14 ≤ 64) { outcome := .badArgument, detail := 0xFD },
       (∀ (bs : List BlockNo) d, bs.map Fin.val = entries →
          ¬ WalkFails s.mem bs (cardHalfNum s c 12) (cardNum s c 14) d,
        fun a => ∃ (bs : List BlockNo) (d : Nat), bs.map Fin.val = entries ∧
          WalkFails s.mem bs (cardHalfNum s c 12) (cardNum s c 14) d ∧ a = { outcome := .format, detail := d }),
       check (∃ j : JobNo, s.jobs[j].state = .free) { outcome := .queueFull },
       check (∃ p : PortNo, cardNum s c 8 = p.val ∧ s.printers[p].queue.length < 12)
         { outcome := .queueFull, detail := 1 }] := by
  intro st entries
  have band : ∀ {a b : Prop} [Decidable a] [Decidable b], (decide a && decide b) = true ↔ a ∧ b := by
    intros
    rw [Bool.and_eq_true, decide_eq_true_iff, decide_eq_true_iff]
  have hclass : (decide (class? (cardNum s c 9) ≠ some .priority) || decide (st = 0)) = true ↔
      cardNum s c 9 ≠ 0 ∨ st = 0 := by
    rw [Bool.or_eq_true, decide_eq_true_iff, decide_eq_true_iff, ne_eq, class?_priority]
  have hfree : (freeJob? s).isSome = true ↔ ∃ j : JobNo, s.jobs[j].state = .free := by
    unfold freeJob?
    rw [lowest?_isSome]
    simp only [decide_eq_true_iff]
  refine checked_rowsAgree (f := serveSubmit) (tests := submitChecks s st (submitArgs s c)) hm hs rfl rfl
    ⟨printerReady_any _, fun _ => rfl, fun _ => ⟨port?_any _ _, fun _ => rfl, fun _ =>
      ⟨class?_isSome _, fun _ => rfl, fun _ => ⟨hclass, fun _ => rfl, fun _ => ⟨band, fun _ => rfl, fun _ => ?_⟩⟩⟩⟩⟩
  obtain ⟨hbad, hnamed⟩ := firstBadEntry_row (s := s) (st := st) entries
  refine ⟨hbad, hnamed, fun hentries => ⟨band, fun _ => rfl, fun _ => ⟨band, fun _ => rfl, fun _ => ?_⟩⟩⟩
  obtain ⟨hwalk, hdetail⟩ := pageWalk_row hentries (cardHalfNum s c 12) (cardNum s c 14)
  exact ⟨hwalk, hdetail, fun _ => ⟨hfree, fun _ => rfl, fun _ => ⟨queueRoom_any _, fun _ => rfl, fun _ => trivial⟩⟩⟩

end Sys2Proof.Machine
end

section
/-! ## SUBMIT accepted (R34, R38–R42, R63, R65) -/

namespace Sys2Proof.Machine

open Sys2Proof.Safety
open Config

/-! ### The place in the queue (R42) -/

/-- A job that joins a queue stands behind those of its own or a lower rank, and before the first of a higher rank. -/
theorem joinQueue_split (jobs : Vector Job 32) (j : JobNo) (q : List JobNo) :
    ∃ l r, q = l ++ r ∧ joinQueue jobs j q = l ++ j :: r ∧ (∀ i ∈ l, rank jobs[i].cls ≤ rank jobs[j].cls) ∧
      ∀ i, r.head? = some i → rank jobs[j].cls < rank jobs[i].cls := by
  induction q with
  | nil => exact ⟨[], [], rfl, rfl, nofun, nofun⟩
  | cons k q ih =>
    by_cases hk : rank jobs[k].cls ≤ rank jobs[j].cls
    · obtain ⟨l, r, hq, hjoin, hl, hr⟩ := ih
      refine ⟨k :: l, r, congrArg (k :: ·) hq, (if_pos hk).trans (congrArg (k :: ·) hjoin), fun i hi => ?_, hr⟩
      rcases List.mem_cons.mp hi with rfl | hi
      · exact hk
      · exact hl i hi
    · refine ⟨[], k :: q, rfl, if_neg hk, nofun, fun i hi => ?_⟩
      obtain rfl := Option.some.inj hi
      exact Nat.not_le.mp hk

/-! ### What a choice makes of the chosen job's printer -/

/-- A printer that chooses a job has it as its current job, out of the queue (R63). -/
theorem chose_some {p : PortNo} {s t : State} {j : JobNo} (h : Chose p s t) (hj : nextJob? s s.printers[p] = some j) :
    t.printers[p].current = some j ∧ t.printers[p].queue = s.printers[p].queue.filter (· ≠ j) := by
  unfold Chose at h
  rw [hj] at h
  cases hm : s.printMode with
  | quiet =>
    rw [hm] at h
    rw [h.1, chosenPrinter_some hj]
    exact ⟨rfl, rfl⟩
  | running =>
    rw [hm] at h
    obtain ⟨hprinter, -⟩ := h
    rw [hprinter, chosenPrinter_some hj]
    exact ⟨rfl, rfl⟩

/-! ### The request accepted -/

/-- The arguments of an accepted SUBMIT pass every check (R38, R39). -/
structure SubmitPasses (c : CardNo) (s : State) (p : PortNo) (cls : JobClass) (j : JobNo) (bs : List BlockNo) : Prop where
  port : cardNum s c 8 = p.val
  ready : attached s.printers[p] = true
  permit : permitted s (cardStation c) p = true
  named : class? (cardNum s c 9) = some cls
  staff : cls = .priority → cardStation c = 0
  count : cardNum s c 11 = bs.length
  least : 1 ≤ bs.length
  most : bs.length ≤ 32
  list : cardList s c 15 bs.length = bs.map Fin.val
  nodup : bs.Nodup
  reserved : ∀ b ∈ bs, s.blocks[b] = .reserved (cardStation c)
  above : (bs.length - 1) * 256 < cardHalfNum s c 12
  within : cardHalfNum s c 12 ≤ bs.length * 256
  page : 1 ≤ cardNum s c 14
  pages : cardNum s c 14 ≤ 64
  walk : pageWalk s.mem bs (cardHalfNum s c 12) (cardNum s c 14) (cardNum s c 14) 0 0 = none
  free : s.jobs[j].state = .free
  lowest : ∀ i < j, s.jobs[i].state ≠ .free
  room : s.printers[p].queue.length < 12

section

variable {c : CardNo} {s : State} {p : PortNo} {cls : JobClass} {j : JobNo} {bs : List BlockNo}

theorem SubmitPasses.freeJob (h : SubmitPasses c s p cls j bs) : freeJob? s = some j := by
  unfold freeJob? Sys2Proof.Machine.lowest?
  rw [List.find?_eq_some_iff_getElem]
  refine ⟨decide_eq_true h.free, j.val, by rw [List.length_finRange]; exact j.isLt, List.getElem_finRange _, fun i hi => ?_⟩
  rw [List.getElem_finRange]
  have hlow := h.lowest ⟨i, hi.trans j.isLt⟩ hi
  simpa using hlow

theorem SubmitPasses.entries (h : SubmitPasses c s p cls j bs) :
    (submitArgs s c).entries = bs.map Fin.val := by
  show cardList s c 15 (cardNum s c 11) = _
  rw [h.count, h.list]

theorem SubmitPasses.listed (h : SubmitPasses c s p cls j bs) :
    listedBlocks s (cardStation c) (submitArgs s c).entries = bs := by
  rw [h.entries, listedBlocks_map h.reserved]

theorem SubmitPasses.noBadEntry (h : SubmitPasses c s p cls j bs) :
    firstBadEntry s (cardStation c) 0 [] (submitArgs s c).entries = none := by
  have hfirst := firstBadEntry_first s (cardStation c) (submitArgs s c).entries
  rw [h.entries] at hfirst ⊢
  cases hbad : firstBadEntry s (cardStation c) 0 [] (bs.map Fin.val) with
  | none => rfl
  | some i =>
    rw [hbad] at hfirst
    obtain ⟨⟨e, he, hbad⟩, -⟩ := hfirst
    have hi : i < bs.length := by simpa using (List.getElem?_eq_some_iff.mp he).1
    exact absurd ⟨e, he, hbad⟩
      (not_badEntry (List.take_of_length_le (by rw [List.length_map])) h.nodup h.reserved hi)

theorem SubmitPasses.checks (h : SubmitPasses c s p cls j bs) :
    firstFailing (submitChecks s (cardStation c) (submitArgs s c)) = none := by
  have hport : port? (submitArgs s c).port = some p := index?_eq_some p h.port
  have hcls : class? (submitArgs s c).cls = some cls := h.named
  have hcount : (submitArgs s c).count = bs.length := h.count
  have hwalk : pageWalk s.mem (listedBlocks s (cardStation c) (submitArgs s c).entries) (submitArgs s c).length
      (submitArgs s c).pages (submitArgs s c).pages 0 0 = none := by
    rw [h.listed]
    exact h.walk
  have hstaff : (decide (some cls ≠ some JobClass.priority) || decide (cardStation c = 0)) = true := by
    rw [Bool.or_eq_true, decide_eq_true_iff, decide_eq_true_iff]
    by_cases hp : cls = .priority
    · exact .inr (h.staff hp)
    · exact .inl fun e => hp (Option.some.inj e)
  have band : ∀ {a b : Prop} [Decidable a] [Decidable b], a → b → (decide a && decide b) = true := by
    intro a b _ _ ha hb
    rw [decide_eq_true ha, decide_eq_true hb]
    rfl
  unfold submitChecks
  dsimp only
  rw [hport, hcls, hcount, hwalk, h.noBadEntry, h.freeJob, hstaff,
    band (a := 1 ≤ bs.length) (b := bs.length ≤ 32) h.least h.most,
    band (a := (bs.length - 1) * blockBytes < (submitArgs s c).length)
      (b := (submitArgs s c).length ≤ bs.length * blockBytes) h.above h.within,
    band (a := 1 ≤ (submitArgs s c).pages) (b := (submitArgs s c).pages ≤ 64) h.page h.pages,
    show printerReady s (some p) = true from h.ready,
    show (Option.map (permitted s (cardStation c)) (some p)).getD false = true from h.permit,
    show queueRoom s (some p) = true from decide_eq_true h.room]
  rfl

/-- The record of the accepted job (R31, R40, log 9). -/
def madeJob (c : CardNo) (s : State) (p : PortNo) (cls : JobClass) (j : JobNo) (bs : List BlockNo) : Job :=
  { state := .waiting, owner := some (cardStation c), port := p, cls := cls,
    notices := (cardByte s c 10).getLsbD 0, blocks := bs, length := cardHalfNum s c 12,
    pageCount := cardNum s c 14, pagesDone := 0, restart := 0, suspensions := 0, transients := 0,
    accepted := s.acceptance + 1, serial := s.acceptance + 1, cancelPending := false,
    reason := s.jobs[j].reason }

/-- The state after the job has joined the queue, before the printer answers (R40, R42). -/
def queuedState (c : CardNo) (s : State) (p : PortNo) (cls : JobClass) (j : JobNo) (bs : List BlockNo)
    (q : List JobNo) : State :=
  { s with
    acceptance := s.acceptance + 1
    jobs := put s.jobs j (madeJob c s p cls j bs)
    blocks := (commitBlocks j bs s).blocks
    printers := put s.printers p { s.printers[p] with queue := q } }

theorem SubmitPasses.accepted (h : SubmitPasses c s p cls j bs) (hs : Serving .submit c s) :
    exec .submit s = .next (publish [] s (answerServed c { outcome := .ok, value := j.val }
      (halfBytes (s.acceptance + 1)) (afterJoin p j (queuedState c s p cls j bs
        (joinQueue (put s.jobs j (madeJob c s p cls j bs)) j s.printers[p].queue))))) := by
  have hserve : serveSubmit c s = acceptSubmit (cardStation c) p cls (submitArgs s c) j s := by
    have hport : port? (submitArgs s c).port = some p := index?_eq_some p h.port
    have hcls : class? (submitArgs s c).cls = some cls := h.named
    unfold serveSubmit
    dsimp only
    rw [checked_pass h.checks, hport, hcls, h.freeJob]
  have hstate : (acceptSubmit (cardStation c) p cls (submitArgs s c) j s).state = afterJoin p j (queuedState c s p cls j bs
      (joinQueue (put s.jobs j (madeJob c s p cls j bs)) j s.printers[p].queue)) := by
    rw [acceptSubmit_state, submitted_eq, h.listed]
    rfl
  show serve .submit serveSubmit s = _
  rw [serve_serving hs, hserve, hstate]
  rfl

end

/-! ### The printer's answer (R41, R63, R65) -/

section

variable {c : CardNo} {s : State} {p : PortNo} {cls : JobClass} {j : JobNo} {bs : List BlockNo} {q : List JobNo}

/-- The condition of R65 at the join, as the rules say it. -/
theorem suspendDue_iff : suspendDue (queuedState c s p cls j bs q) p j = true ↔
    ∃ cur, s.printers[p].current = some cur ∧ rank cls < 2 ∧
      (put s.jobs j (madeJob c s p cls j bs))[cur].cls = .long ∧
      (put s.jobs j (madeJob c s p cls j bs))[cur].suspensions < 4 ∧ s.printerSet[p].suspendAllowed = true ∧
      s.printers[p].suspended = none := by
  have hprinter : (queuedState c s p cls j bs q).printers[p] = { s.printers[p] with queue := q } := put_get ..
  have hjob : (queuedState c s p cls j bs q).jobs[j] = madeJob c s p cls j bs := put_get ..
  unfold suspendDue
  dsimp only
  rw [hprinter, hjob]
  dsimp only
  cases s.printers[p].current with
  | none => exact ⟨nofun, fun ⟨_, h, _⟩ => nomatch h⟩
  | some cur =>
    simp only [Bool.and_eq_true, decide_eq_true_iff, Option.isNone_iff_eq_none, and_assoc]
    exact ⟨fun h => ⟨cur, rfl, h⟩, fun ⟨x, hx, h⟩ => Option.some.inj hx ▸ h⟩

/-- A printer that is not IDLE keeps its jobs in place; its suspend-pending flag is set when due (R41, R65). -/
theorem afterJoin_waits (hstate : s.printers[p].state ≠ .idle) :
    afterJoin p j (queuedState c s p cls j bs q) =
      { queuedState c s p cls j bs q with
        printers := put s.printers p
          { s.printers[p] with
            queue := q
            suspendPending := s.printers[p].suspendPending || suspendDue (queuedState c s p cls j bs q) p j } } := by
  have hprinter : (queuedState c s p cls j bs q).printers[p] = { s.printers[p] with queue := q } := put_get ..
  unfold afterJoin
  rw [hprinter, if_neg hstate]
  cases suspendDue (queuedState c s p cls j bs q) p j with
  | false =>
    rw [if_neg Bool.false_ne_true, Bool.or_false]
    rfl
  | true =>
    rw [if_pos rfl, Bool.or_true]
    exact congrArg (fun v => { queuedState c s p cls j bs q with printers := v }) (put_twice rfl s.printers
      { s.printers[p] with queue := q } fun r : Printer => { r with suspendPending := true })

/-- An IDLE printer chooses (R41). -/
theorem afterJoin_chooses (hstate : s.printers[p].state = .idle) :
    afterJoin p j (queuedState c s p cls j bs q) = choose p (queuedState c s p cls j bs q) := by
  have hprinter : (queuedState c s p cls j bs q).printers[p] = { s.printers[p] with queue := q } := put_get ..
  unfold afterJoin
  rw [hprinter]
  exact if_pos hstate

/-! ### The answer (R40, R163) -/

/-- What an accepted SUBMIT leaves in memory: the answer, and the serial behind it. -/
theorem submit_answered {u : State} (hm : memoryWf u.mem = true) (c : CardNo) (a : Answer) (serial : Half) :
    AnswerStands c a (answerServed c a (halfBytes serial) u) ∧
    cardHalf (answerServed c a (halfBytes serial) u) c 8 = serial ∧
    MemoryKept u (answerServed c a (halfBytes serial) u)
      (fun b => AnswerField c b ∨ b = cardAddress c + 8 ∨ b = cardAddress c + 9) := by
  have hread := fun b => readMem_answerCard hm c a (halfBytes serial) b
  refine ⟨answerServed_stands hm c a _, ?_, fun b hb => ?_⟩
  · have hlow := answered_argument hm c a (args := halfBytes serial) (i := 0) (by decide : 0 < 2)
    have hhigh := answered_argument hm c a (args := halfBytes serial) (i := 1) (by decide : 1 < 2)
    have hhalf : cardHalf (answerServed c a (halfBytes serial) u) c 8 =
        halfOf (cardByte (answerServed c a (halfBytes serial) u) c (8 + 0))
          (cardByte (answerServed c a (halfBytes serial) u) c (8 + 1)) := rfl
    rw [hhalf, hlow, hhigh]
    exact halfOf_lo_hi serial
  · obtain ⟨hfield, hrest⟩ := not_or.mp hb
    obtain ⟨h8, h9⟩ := not_or.mp hrest
    rw [answerServed_mem, hread, if_neg (show ¬ (cardAddress c + 4 ≤ b ∧ b < cardAddress c + 8) from hfield)]
    exact if_neg (by show ¬ (cardAddress c + 8 ≤ b ∧ b < cardAddress c + 8 + 2); omega)

end

end Sys2Proof.Machine
end

section
/-! ## SUBMIT (R34, R38–R42, R26) -/

namespace Sys2Proof.Machine

open Sys2Proof.Safety
open Config

section

variable {c : CardNo} {s : State} {p : PortNo} {cls : JobClass} {j : JobNo} {bs : List BlockNo} {q : List JobNo}

/-- The state in which an IDLE printer chooses, as the rules write it. -/
def choosingState (c : CardNo) (s : State) (p : PortNo) (cls : JobClass) (j : JobNo) (bs : List BlockNo)
    (q : List JobNo) : State :=
  { s with
    jobs := put s.jobs j (madeJob c s p cls j bs), printers := put s.printers p { s.printers[p] with queue := q } }

/-- The printer's answer to the join in one piece (R41). -/
theorem afterJoin_form : ∃ js ps xs,
    afterJoin p j (queuedState c s p cls j bs q) =
      { queuedState c s p cls j bs q with jobs := js, printers := ps, ports := xs } ∧
    (s.printers[p].state ≠ .idle → js = put s.jobs j (madeJob c s p cls j bs) ∧ xs = s.ports ∧
      ps = put s.printers p
        { s.printers[p] with
          queue := q
          suspendPending := s.printers[p].suspendPending || suspendDue (queuedState c s p cls j bs q) p j }) ∧
    (s.printers[p].state = .idle →
      (∀ t : State, t.printers = ps → t.ports = xs → Chose p (choosingState c s p cls j bs q) t) ∧
      js = chosenJobs p (choosingState c s p cls j bs q) ∧
      ∀ x : PortNo, x ≠ p → ps[x] = s.printers[x] ∧ xs[x] = s.ports[x]) := by
  by_cases hstate : s.printers[p].state = .idle
  · have halike : ChoiceAlike p (queuedState c s p cls j bs q) (choosingState c s p cls j bs q) :=
      ⟨rfl, fun _ _ => rfl, rfl, rfl, rfl, rfl, rfl⟩
    obtain ⟨js, ps, xs, hchoose, hchose, hjs, hother⟩ := choose_alike halike rfl
    exact ⟨js, ps, xs, (afterJoin_chooses hstate).trans hchoose, fun h => absurd hstate h, fun _ => ⟨hchose, hjs,
      fun x hx => ⟨(hother x hx).1.trans (put_get_ne _ _ _ _ hx.symm), (hother x hx).2⟩⟩⟩
  · exact ⟨_, _, _, afterJoin_waits hstate, fun _ => ⟨rfl, rfl, rfl⟩, fun h => absurd h hstate⟩

/-- At an IDLE printer with nothing in its queue and its suspended slot, the job is chosen at once (R41, R63). -/
theorem submitted_chosen {t : State} (hchose : Chose p (choosingState c s p cls j bs [j]) t)
    (hjobs : t.jobs = chosenJobs p (choosingState c s p cls j bs [j])) (hsuspended : s.printers[p].suspended = none) :
    t.printers[p].current = some j ∧ t.printers[p].queue = [] ∧
      t.jobs = put s.jobs j { madeJob c s p cls j bs with state := .printing } := by
  have hprinter : (choosingState c s p cls j bs [j]).printers[p] = { s.printers[p] with queue := [j] } := put_get ..
  have hnext : nextJob? (choosingState c s p cls j bs [j]) (choosingState c s p cls j bs [j]).printers[p] = some j := by
    rw [hprinter]
    unfold nextJob?
    dsimp only
    rw [hsuspended]
  obtain ⟨hcurrent, hqueue⟩ := chose_some hchose hnext
  refine ⟨hcurrent, ?_, ?_⟩
  · rw [hqueue, hprinter]
    exact List.filter_eq_nil_iff.mpr fun k hk => by simpa using hk
  · rw [hjobs]
    unfold chosenJobs
    rw [hnext]
    exact put_twice rfl s.jobs (madeJob c s p cls j bs) fun r : Job => { r with state := .printing }

theorem submit_accepted (h : SubmitPasses c s p cls j bs) (hm : MemoryOk s) (hs : Serving .submit c s) :
    let jobs := put s.jobs j (madeJob c s p cls j bs)
    ∃ t l r, exec .submit s = .next t ∧ AnswerStands c { outcome := .ok, value := j.val } t ∧
      t.acceptance = s.acceptance + 1 ∧ cardHalf t c 8 = s.acceptance + 1 ∧
      (∀ b ∈ bs, t.blocks[b] = .committed j) ∧ (∀ b ∉ bs, t.blocks[b] = s.blocks[b]) ∧
      s.printers[p].queue = l ++ r ∧ (∀ i ∈ l, rank jobs[i].cls ≤ rank cls) ∧
      (∀ i, r.head? = some i → rank cls < rank jobs[i].cls) ∧
      (s.printers[p].state ≠ .idle →
        t.jobs = jobs ∧ t.ports = s.ports ∧
        t.printers = put s.printers p
          { s.printers[p] with queue := l ++ j :: r, suspendPending := t.printers[p].suspendPending } ∧
        (t.printers[p].suspendPending = true ↔ s.printers[p].suspendPending = true ∨
          ∃ cur, s.printers[p].current = some cur ∧ rank cls < 2 ∧ t.jobs[cur].cls = .long ∧
            t.jobs[cur].suspensions < 4 ∧ s.printerSet[p].suspendAllowed = true ∧ s.printers[p].suspended = none)) ∧
      (s.printers[p].state = .idle →
        let m := { s with jobs := jobs, printers := put s.printers p { s.printers[p] with queue := l ++ j :: r } }
        Chose p m t ∧ t.jobs = chosenJobs p m ∧
        (∀ q : PortNo, q ≠ p → t.printers[q] = s.printers[q] ∧ t.ports[q] = s.ports[q]) ∧
        (s.printers[p].queue = [] → s.printers[p].suspended = none →
          t.printers[p].current = some j ∧ t.printers[p].queue = [] ∧
          t.jobs = put s.jobs j { madeJob c s p cls j bs with state := .printing })) ∧
      MemoryKept s t (fun a => AnswerField c a ∨ a = cardAddress c + 8 ∨ a = cardAddress c + 9) ∧
      t = { s with mem := t.mem, cards := put s.cards c .answered, serving := none, notice := s.notice ||| stationBit (cardStation c), acceptance := t.acceptance,
                   jobs := t.jobs, blocks := t.blocks, printers := t.printers, ports := t.ports,
                   portCount := t.portCount, jobCount := t.jobCount, stationCount := t.stationCount,
                   poolCount := t.poolCount } := by
  intro jobs
  have hexec := h.accepted hs
  obtain ⟨l, r, hq, hjoin, hl, hr⟩ := joinQueue_split jobs j s.printers[p].queue
  have hrank : rank jobs[j].cls = rank cls :=
    congrArg (fun x : Job => rank x.cls) (put_get s.jobs j (madeJob c s p cls j bs))
  simp only [hrank] at hl hr
  rw [hjoin] at hexec
  obtain ⟨js, ps, xs, hform, hwaits, hchooses⟩ := afterJoin_form (c := c) (s := s) (p := p) (cls := cls) (j := j)
    (bs := bs) (q := l ++ j :: r)
  rw [hform] at hexec
  have hdue := suspendDue_iff (c := c) (s := s) (p := p) (cls := cls) (j := j) (bs := bs) (q := l ++ j :: r)
  have hwf : memoryWf s.mem = true := hm
  obtain ⟨hstands, hserial, hkept⟩ := submit_answered
    (u := { queuedState c s p cls j bs (l ++ j :: r) with jobs := js, printers := ps, ports := xs }) hwf c
    { outcome := .ok, value := j.val } (s.acceptance + 1)
  refine ⟨_, l, r, hexec, hstands, rfl, hserial, fun b hb => (commitBlocks_get j bs s b).trans (if_pos hb),
    fun b hb => (commitBlocks_get j bs s b).trans (if_neg hb), hq, hl, hr, fun hstate => ?_, fun hstate => ?_, hkept, rfl⟩
  · obtain ⟨rfl, rfl, rfl⟩ := hwaits hstate
    have hflag : (put s.printers p { s.printers[p] with
        queue := l ++ j :: r
        suspendPending := s.printers[p].suspendPending ||
          suspendDue (queuedState c s p cls j bs (l ++ j :: r)) p j })[p].suspendPending =
        (s.printers[p].suspendPending || suspendDue (queuedState c s p cls j bs (l ++ j :: r)) p j) :=
      congrArg Printer.suspendPending (put_get s.printers p _)
    refine ⟨rfl, rfl, ?_, ?_⟩
    · show put s.printers p _ = put s.printers p { s.printers[p] with
        queue := l ++ j :: r, suspendPending := (put s.printers p _)[p].suspendPending }
      rw [hflag]
    · show (put s.printers p _)[p].suspendPending = true ↔ _
      rw [hflag, Bool.or_eq_true, hdue]
      exact .rfl
  · obtain ⟨hchose, rfl, hother⟩ := hchooses hstate
    refine ⟨hchose _ rfl rfl, rfl, hother, fun hempty hsuspended => ?_⟩
    obtain ⟨rfl, rfl⟩ := List.append_eq_nil_iff.mp (hq.symm.trans hempty)
    exact submitted_chosen (hchose _ rfl rfl) rfl hsuspended

end

/-- Settles O24: the request accepted, and the checks by the first that fails. -/
theorem submitQueuesAJob : Obligations.SubmitQueuesAJob :=
  ⟨fun _ _ _ _ _ _ hm hs hport hready hpermit hcls hstaff hcount h1 h32 hlist hnodup hres habove hwithin hpage hpages hwalk
      hfree hlow hroom =>
    submit_accepted ⟨hport, hready, hpermit, hcls, hstaff, hcount, h1, h32, hlist, hnodup, hres, habove, hwithin, hpage,
      hpages, hwalk, hfree, hlow, hroom⟩ hm hs,
   submit_refusals⟩

end Sys2Proof.Machine
end

section
/-! ## NOTICE, NOTICE MASK and the interrupt line (R151, R174, R175) -/

namespace Sys2Proof.Machine

open Sys2Proof.Safety
open Config

/-! ### The words that byte writes hand over -/

theorem halfOf_zero_high (v : Byte) : halfOf v (hiByte 0) = v.setWidth 16 := by
  unfold halfOf hiByte
  simp

theorem halfOf_zero_low (v : Byte) : halfOf (loByte 0) v = v.setWidth 16 <<< 8 := by
  unfold halfOf loByte
  simp

theorem halfOf_kept_high (m : Half) (v : Byte) : halfOf v (hiByte m) = (m &&& 0xFF00) ||| v.setWidth 16 := by
  unfold halfOf hiByte
  ext i hi
  interval_cases i <;> simp

theorem halfOf_kept_low (m : Half) (v : Byte) : halfOf (loByte m) v = (m &&& 0x00FF) ||| (v.setWidth 16 <<< 8) := by
  unfold halfOf loByte
  ext i hi
  interval_cases i <;> simp

/-! ### Writes to the registers (R151, R174, R175) -/

/-- A host write to a register goes to its word. -/
theorem hostWrite_register {w : HostWrite} (h : 0xFFF8 ≤ w.address) (s : State) :
    hostWrite w s = writeRegister ((w.address - 0xFFF8) / 2) w s := by
  unfold hostWrite areaBase poolBase unmappedBase registerBase
  dsimp only
  rw [if_neg (by omega), if_neg (by omega), if_neg (by omega), if_neg (by omega)]

theorem exec_noticeWrite {w : HostWrite} (h : w.address = 0xFFFC ∨ w.address = 0xFFFD) (s : State) :
    exec (.noticeWrite w) s = .next { s with notice := s.notice &&& ~~~ writtenWord 0 w } := by
  show Host.Outcome.next (hostWrite w s) = _
  rw [hostWrite_register (by omega), show (w.address - 0xFFF8) / 2 = 2 by omega]
  rfl

theorem exec_noticeMaskWrite {w : HostWrite} (h : w.address = 0xFFFE ∨ w.address = 0xFFFF) (s : State) :
    exec (.noticeMaskWrite w) s = .next { s with noticeMask := writtenWord s.noticeMask w } := by
  show Host.Outcome.next (hostWrite w s) = _
  rw [hostWrite_register (by omega), show (w.address - 0xFFF8) / 2 = 3 by omega]
  rfl

/-- The interrupt line is asserted exactly while some bit is set in both registers (R175). -/
theorem interrupt_iff (s : State) : s.interrupt = true ↔
    ∃ st : StationNo, s.notice.getLsbD st.val = true ∧ s.noticeMask.getLsbD st.val = true := by
  unfold State.interrupt
  rw [decide_eq_true_iff]
  constructor
  · intro hne
    by_contra hno
    refine hne (BitVec.eq_of_getLsbD_eq fun i hi => ?_)
    change _ = (0#16).getLsbD i
    rw [BitVec.getLsbD_and, BitVec.getLsbD_zero, Bool.and_eq_false_iff, ← Bool.not_eq_true, ← Bool.not_eq_true]
    exact not_and_or.mp fun hboth => hno ⟨⟨i, hi⟩, hboth⟩
  · rintro ⟨st, hn, hm⟩ hzero
    have hbit := congrArg (·.getLsbD st.val) hzero
    change (s.notice &&& s.noticeMask).getLsbD st.val = (0#16).getLsbD st.val at hbit
    rw [BitVec.getLsbD_and, hn, hm, BitVec.getLsbD_zero] at hbit
    exact nomatch hbit

/-! ### The registers as the host reads them (R176, R185) -/

theorem partStatus_toNat (s : State) : (partStatus s).toNat =
    (match s.part with | .stopped => 0 | .running => 1 | .quiet => 2) +
    (match s.wake with | .none => 0 | .request => 16 | .touch z => 32 + 256 * z.val) := by
  have htouch : ∀ x : Fin 3, ∀ z : ZoneNo,
      (BitVec.ofNat 16 x.val ||| ((2#8).setWidth 16 <<< 4) ||| ((byteOf z.val).setWidth 16 <<< 8)).toNat =
        x.val + (32 + 256 * z.val) := by decide
  unfold partStatus
  cases s.wake with
  | none => cases s.part <;> rfl
  | request => cases s.part <;> rfl
  | touch z =>
    cases s.part with
    | stopped => exact htouch 0 z
    | running => exact htouch 1 z
    | quiet => exact htouch 2 z

theorem registers_read (s : State) :
    s.readWord 0xFFF8 = (if s.part = .stopped then 0 else 1) ∧
    (s.readWord 0xFFFA).toNat =
      (match s.part with | .stopped => 0 | .running => 1 | .quiet => 2) +
      (match s.wake with | .none => 0 | .request => 16 | .touch z => 32 + 256 * z.val) ∧
    s.readWord 0xFFFC = s.notice ∧ s.readWord 0xFFFE = s.noticeMask :=
  ⟨halfOf_lo_hi (partControl s), (congrArg BitVec.toNat (halfOf_lo_hi (partStatus s))).trans (partStatus_toNat s),
    halfOf_lo_hi s.notice, halfOf_lo_hi s.noticeMask⟩

/-! ### Words, the unmapped range and the pool (R151) -/

theorem readWord_toNat (a : Nat) (s : State) :
    (s.readWord a).toNat = (s.readByte (a / 2 * 2)).toNat + 256 * (s.readByte (a / 2 * 2 + 1)).toNat := by
  unfold State.readWord
  rw [halfOf_toNat, Nat.add_comm]

theorem readByte_pool {a : Nat} (h : 0x9000 ≤ a) (h' : a < 0xF000) (s : State) : s.readByte a = readMem s.mem a := by
  unfold State.readByte areaBase poolBase unmappedBase
  rw [if_neg (by omega), if_neg (by omega), if_pos h']

theorem readByte_unmapped {a : Nat} (h : 0xF000 ≤ a) (h' : a < 0xFFF8) (s : State) : s.readByte a = 0 := by
  unfold State.readByte areaBase poolBase unmappedBase registerBase
  rw [if_neg (by omega), if_neg (by omega), if_neg (by omega), if_pos h']

theorem readByte_common {a : Nat} (h : a < 0x1000) (s : State) : s.readByte a = commonByte s a := if_pos h

/-- Two bytes that read as a word's read as the word (R182). -/
theorem hostHalf_of {s : State} {a : Nat} {x : Half} (hlow : s.readByte a = loByte x) (hhigh : s.readByte (a + 1) = hiByte x) :
    hostHalf s a = x := by
  unfold hostHalf
  rw [hlow, hhigh, halfOf_lo_hi]

/-! ### Station areas (R153–R155) -/

theorem readByte_area (st : StationNo) {k : Nat} (hk : k < 0x800) (s : State) :
    s.readByte (0x1000 + 0x800 * st.val + k) =
      if k < 0x40 then headerByte s st k
      else if k = 0x40 ∨ k = 0xA0 then cardCode s.cards[cardOf st k]
      else readMem s.mem (0x1000 + 0x800 * st.val + k) := by
  have hst := st.isLt
  have hat : stationAt? (0x1000 + 0x800 * st.val + k) = some st := by
    unfold stationAt? areaBase areaSize
    exact index?_eq_some st (by omega)
  have hoff : areaOffset (0x1000 + 0x800 * st.val + k) = k := by
    unfold areaOffset areaBase areaSize
    omega
  have hfrom : 0x1000 ≤ 0x1000 + 0x800 * st.val + k := by omega
  have hto : 0x1000 + 0x800 * st.val + k < 0x9000 := by omega
  generalize 0x1000 + 0x800 * st.val + k = a at *
  unfold State.readByte areaBase poolBase
  rw [if_neg (Nat.not_lt.mpr hfrom), if_pos hto, hat]
  unfold areaByte cardOffset cardSize
  simp only [hoff, Nat.reduceAdd]

theorem readByte_ring (st : StationNo) (k : Nat) (s : State) (h : 0x100 ≤ k) (h' : k < 0x800) :
    s.readByte (0x1000 + 0x800 * st.val + k) = readMem s.mem (0x1000 + 0x800 * st.val + k) := by
  rw [readByte_area st h', if_neg (by omega), if_neg (by omega)]

/-- The card codes, in the statement's form (R155). -/
theorem cardCode_eq (x : CardState) :
    cardCode x = match x with | .empty => 0 | .posted => 1 | .taken => 2 | .answered => 3 := by
  cases x <;> rfl

theorem readByte_card (c : CardNo) (s : State) :
    let a := 0x1040 + 0x800 * (c.val / 2) + 0x60 * (c.val % 2)
    s.readByte a = (match s.cards[c] with | .empty => 0 | .posted => 1 | .taken => 2 | .answered => 3) ∧
    ∀ k, 1 ≤ k → k < 96 → s.readByte (a + k) = readMem s.mem (a + k) := by
  intro a
  have hc := c.isLt
  have harea := fun k (hk : k < 96) => readByte_area (⟨c.val / 2, by omega⟩ : StationNo)
    (k := 0x40 + 0x60 * (c.val % 2) + k) (by omega) s
  have haddress : ∀ k, 0x1000 + 0x800 * (c.val / 2) + (0x40 + 0x60 * (c.val % 2) + k) = a + k := fun k => by
    show _ = 0x1040 + 0x800 * (c.val / 2) + 0x60 * (c.val % 2) + k
    omega
  simp only [haddress] at harea
  refine ⟨?_, fun k h1 hk => ?_⟩
  · have hcard : cardOf ⟨c.val / 2, by omega⟩ (0x40 + 0x60 * (c.val % 2) + 0) = c := by
      refine Fin.ext ?_
      unfold cardOf cardOffset cardSize
      split <;> dsimp only <;> omega
    have hzero := harea 0 (by decide)
    rw [if_neg (by omega), if_pos (by omega)] at hzero
    exact hzero.trans ((congrArg (fun x : CardNo => cardCode s.cards[x]) hcard).trans (cardCode_eq _))
  · rw [harea k hk, if_neg (by omega), if_neg (by omega)]

end Sys2Proof.Machine
end

section
/-! ## The mirrors as the host reads them (R183–R185) -/

namespace Sys2Proof.Machine

open Sys2Proof.Safety
open Config

/-! ### Bytes of lists -/

/-- A list cut or filled reads as the list within its length. -/
theorem padTo_getD {n k : Nat} (bs : List Byte) (h : k < n) : (padTo n bs).getD k 0 = bs.getD k 0 := by
  unfold padTo
  by_cases hk : k < bs.length
  · have htake : k < (bs.take n).length := by rw [List.length_take]; omega
    rw [List.getD_append _ _ _ _ htake, List.getD_eq_getElem _ _ htake, List.getElem_take, List.getD_eq_getElem _ _ hk]
  · have htake : (bs.take n).length ≤ k := by rw [List.length_take]; omega
    rw [List.getD_append_right _ _ _ _ htake, List.getD_eq_default _ _ (Nat.not_lt.mp hk)]
    rw [List.getD_eq_getElem?_getD, List.getElem?_replicate]
    split <;> rfl

/-- A byte of an entry behind its change count. -/
theorem entryByte_padTo {n k : Nat} (count : Byte) (bs : List Byte) (h : k < n) :
    entryByte count (padTo n bs) (k + 1) = bs.getD k 0 := padTo_getD bs h

/-- A list mapped to bytes reads 00H beyond its end. -/
theorem getD_map_byte {α : Type} (l : List α) (f : α → Byte) (k : Nat) :
    (l.map f).getD k 0 = (l[k]?.map f).getD 0 := by
  rw [List.getD_eq_getElem?_getD, List.getElem?_map]

theorem flagByte_toNat (b : Bool) : (flagByte b).toNat = if b then 1 else 0 := by cases b <;> rfl

/-- A table's entries as a list, by their indices. -/
theorem vector_toList {α : Type} {n : Nat} (v : Vector α n) : v.toList = (List.finRange n).map fun i : Fin n => v[i] := by
  refine List.ext_getElem (by simp) fun i h1 h2 => ?_
  simp

/-! ### Identification, pool mirror and the rest of the common page (R183) -/

theorem common_end {a : Nat} (h : 5 ≤ a ∧ a < 0x10 ∨ 0x572 ≤ a ∧ a < 0x1000) (s : State) : s.readByte a = 0 := by
  rw [readByte_common (by omega)]
  unfold commonByte
  rcases h with ⟨h5, h10⟩ | ⟨hend, _⟩
  · rw [if_pos h10]
    exact List.getD_eq_default _ _ h5
  · rw [if_neg (by omega), if_neg (by omega), if_neg (by omega), if_neg (by omega), if_neg (by omega)]

theorem pool_read {k : Nat} (h : k < 0x62) (s : State) :
    s.readByte (0x510 + k) = entryByte s.poolCount (poolItems s) k := by
  rw [readByte_common (by omega)]
  unfold commonByte
  rw [if_neg (by omega), if_neg (by omega), if_neg (by omega), if_neg (by omega), if_pos (by omega), Nat.add_sub_cancel_left]

theorem poolBlock_read (b : BlockNo) (s : State) : s.readByte (0x512 + b.val) = blockCode s.blocks[b] := by
  have hb := b.isLt
  rw [show 0x512 + b.val = 0x510 + (b.val + 2) by omega, pool_read (by omega)]
  show (s.blocks.toList.map blockCode).getD b.val 0 = _
  rw [getD_map_byte, Vector.getElem?_toList, Vector.getElem?_eq_getElem hb]
  rfl

/-! ### Job entries (R184) -/

section

variable (j : JobNo) (s : State)

theorem job_read {k : Nat} (h : k < 0x10) :
    s.readByte (0x210 + 0x10 * j.val + k) = entryByte s.jobCount[j] (jobItems s.jobs[j]) k := by
  have hj := j.isLt
  have hat : index? 32 ((0x210 + 0x10 * j.val + k - 0x210) / 0x10) = some j := index?_eq_some j (by omega)
  have hoff : (0x210 + 0x10 * j.val + k - 0x210) % 0x10 = k := by omega
  rw [readByte_common (by omega)]
  unfold commonByte
  rw [if_neg (by omega), if_neg (by omega), if_pos (by omega), hat]
  dsimp only
  rw [hoff]

theorem jobFlags_toNat (notices pending : Bool) : (flagByte notices ||| (flagByte pending <<< 1)).toNat =
    (if notices then 1 else 0) + (if pending then 2 else 0) := by
  cases notices <;> cases pending <;> rfl

theorem jobs_read :
    let a := 0x210 + 0x10 * j.val
    let job := s.jobs[j]
    s.readByte a = s.jobCount[j] ∧ s.readByte (a + 1) = jobCode job.state ∧ s.readByte (a + 2) = numberByte job.owner ∧
    s.readByte (a + 3) = byteOf job.port.val ∧ s.readByte (a + 4) = classCode job.cls ∧
    (s.readByte (a + 5)).toNat = (if job.notices then 1 else 0) + (if job.cancelPending then 2 else 0) ∧
    s.readByte (a + 6) = byteOf job.pagesDone ∧ s.readByte (a + 7) = byteOf job.pageCount ∧
    s.readByte (a + 8) = byteOf job.suspensions ∧ hostHalf s (a + 9) = job.serial ∧
    s.readByte (a + 11) = reasonCode job.reason ∧ ∀ k, 12 ≤ k → k < 16 → s.readByte (a + k) = 0 := by
  intro a job
  have item : ∀ i, i < 15 → s.readByte (a + (i + 1)) = List.getD ([jobCode job.state, numberByte job.owner,
      byteOf job.port.val, classCode job.cls, flagByte job.notices ||| (flagByte job.cancelPending <<< 1),
      byteOf job.pagesDone, byteOf job.pageCount, byteOf job.suspensions] ++ halfBytes job.serial ++
      [reasonCode job.reason]) i 0 := fun i hi =>
    (job_read j s (Nat.succ_lt_succ hi)).trans (entryByte_padTo _ _ hi)
  refine ⟨job_read j s (k := 0) (by decide), item 0 (by decide), item 1 (by decide), item 2 (by decide),
    item 3 (by decide), ?_, item 5 (by decide), item 6 (by decide), item 7 (by decide),
    hostHalf_of (item 8 (by decide)) (item 9 (by decide)), item 10 (by decide), fun k h12 h16 => ?_⟩
  · rw [item 4 (by decide)]
    exact jobFlags_toNat ..
  · obtain ⟨i, rfl⟩ : ∃ i, k = i + 1 := ⟨k - 1, by omega⟩
    rw [item i (by omega)]
    exact List.getD_eq_default _ _ (show 11 ≤ i by omega)

end

/-! ### Station entries and headers (R2, R184) -/

section

variable (st : StationNo) (s : State)

theorem station_read {k : Nat} (h : k < 0x10) :
    s.readByte (0x410 + 0x10 * st.val + k) = entryByte s.stationCount[st] (stationItems s st) k := by
  have hst := st.isLt
  have hat : index? 16 ((0x410 + 0x10 * st.val + k - 0x410) / 0x10) = some st := index?_eq_some st (by omega)
  have hoff : (0x410 + 0x10 * st.val + k - 0x410) % 0x10 = k := by omega
  rw [readByte_common (by omega)]
  unfold commonByte
  rw [if_neg (by omega), if_neg (by omega), if_neg (by omega), if_pos (by omega), hat]
  dsimp only
  rw [hoff]

theorem reservedCount_eq : reservedCount s st = (List.finRange 96).countP fun b => s.blocks[b] = .reserved st := by
  unfold reservedCount
  rw [vector_toList, List.countP_map]
  rfl

theorem header_read {k : Nat} (h : k < 0x40) : s.readByte (0x1000 + 0x800 * st.val + k) = headerByte s st k := by
  rw [readByte_area st (by omega), if_pos h]

theorem stations_read :
    let a := 0x410 + 0x10 * st.val
    let h := 0x1000 + 0x800 * st.val
    let r := s.stations[st]
    let d := s.delivery[st]
    s.readByte a = s.stationCount[st] ∧ s.readByte (a + 1) = serviceCode r.service ∧ s.readByte (a + 2) = r.permits ∧
    s.readByte (a + 3) = byteOf r.quota ∧ s.readByte (a + 4) = byteOf r.holdings ∧
    s.readByte (a + 5) = byteOf ((List.finRange 96).countP fun b => s.blocks[b] = .reserved st) ∧
    (∀ k, 6 ≤ k → k < 16 → s.readByte (a + k) = 0) ∧
    hostHalf s h = halfOfNat d.t ∧ hostHalf s (h + 2) = halfOfNat d.w ∧
    (s.readByte (h + 4)).toNat = (if d.gap then 1 else 0) ∧ s.readByte (h + 5) = 0 ∧ hostHalf s (h + 6) = d.seq ∧
    (∀ k < 6, s.readByte (h + 8 + k) = s.readByte (a + k)) ∧
    ∀ k, 14 ≤ k → k < 0x40 → s.readByte (h + k) = 0 := by
  intro a h r d
  have item : ∀ i, i < 15 → s.readByte (a + (i + 1)) = List.getD [serviceCode r.service, r.permits, byteOf r.quota,
      byteOf r.holdings, byteOf (reservedCount s st)] i 0 := fun i hi =>
    (station_read st s (Nat.succ_lt_succ hi)).trans (entryByte_padTo _ _ hi)
  have head : ∀ k, k < 0x40 → s.readByte (h + k) = headerByte s st k := fun k => header_read st s
  have count : s.readByte a = s.stationCount[st] := station_read st s (k := 0) (by decide)
  refine ⟨count, item 0 (by decide), item 1 (by decide), item 2 (by decide), item 3 (by decide), ?_, fun k h6 h16 => ?_,
    hostHalf_of (head 0 (by decide)) (head 1 (by decide)), hostHalf_of (head 2 (by decide)) (head 3 (by decide)), ?_,
    head 5 (by decide), hostHalf_of (head 6 (by decide)) (head 7 (by decide)), fun k hk => ?_, fun k h14 hk => ?_⟩
  · rw [← reservedCount_eq]
    exact item 4 (by decide)
  · obtain ⟨i, rfl⟩ : ∃ i, k = i + 1 := ⟨k - 1, by omega⟩
    rw [item i (by omega)]
    exact List.getD_eq_default _ _ (show 5 ≤ i by omega)
  · rw [head 4 (by decide)]
    exact flagByte_toNat d.gap
  · match k, hk with
    | 0, _ => exact (head 8 (by decide)).trans count.symm
    | 1, _ => exact (head 9 (by decide)).trans (item 0 (by decide)).symm
    | 2, _ => exact (head 10 (by decide)).trans (item 1 (by decide)).symm
    | 3, _ => exact (head 11 (by decide)).trans (item 2 (by decide)).symm
    | 4, _ => exact (head 12 (by decide)).trans (item 3 (by decide)).symm
    | 5, _ => exact (head 13 (by decide)).trans (item 4 (by decide)).symm
  · rw [head k hk]
    exact List.getD_eq_default _ _ (show 14 ≤ k by omega)

end

end Sys2Proof.Machine
end

section
/-! ## The port mirror as the host reads it (R33, R56, R86, R111, R139, R184) -/

namespace Sys2Proof.Machine

open Sys2Proof.Safety
open Config

/-! ### The parts of an entry -/

/-- The bytes before and behind a run of padded bytes. -/
theorem getD_padded (l bs r : List Byte) (n k : Nat) :
    (k < n → (l ++ (padTo n bs ++ r)).getD (l.length + k) 0 = bs.getD k 0) ∧
    (l ++ (padTo n bs ++ r)).getD (l.length + (n + k)) 0 = r.getD k 0 := by
  have hlength : (padTo n bs).length = n := padTo_length n bs
  refine ⟨fun h => ?_, ?_⟩
  · rw [List.getD_append_right _ _ _ _ (Nat.le_add_right ..), Nat.add_sub_cancel_left,
      List.getD_append _ _ _ _ (hlength.symm ▸ h), padTo_getD bs h]
  · rw [List.getD_append_right _ _ _ _ (Nat.le_add_right ..), Nat.add_sub_cancel_left,
      List.getD_append_right _ _ _ _ (by omega), hlength, Nat.add_sub_cancel_left]

theorem portPart_length (r : Port) : (portPart r).length = 10 := by
  unfold portPart
  cases r.profile <;> rfl

/-- The printer part around the queue (R56). -/
theorem printerPart_eq (r : Printer) (c : PrinterSettings) : printerPart r c =
    [printerCode r.state, numberByte r.current, numberByte r.suspended, byteOf r.queue.length] ++
    (padTo 12 (r.queue.map fun j => byteOf j.val) ++
    [flagByte r.suspendPending, byteOf ((r.page.map PageInFlight.page).getD 0), (r.hold.map causeCode).getD 0,
     flagByte r.paperLow, byteOf c.pageTimeout, byteOf c.reconnectWindow, flagByte c.suspendAllowed]) :=
  List.append_assoc ..

theorem printerPart_length (r : Printer) (c : PrinterSettings) : (printerPart r c).length = 23 := by
  rw [printerPart_eq, List.length_append, List.length_append, padTo_length]
  rfl

/-- The scanner part before the claim queue (R86). -/
def scannerHead (r : Scanner) : List Byte :=
  [scannerCode r.state, numberByte ((claimOf r.state).map Claim.holder)] ++
  halfBytes (((claimOf r.state).map Claim.serial).getD 0) ++
  halfBytes (halfOfNat (((claimOf r.state).map Claim.hold).getD 0)) ++
  [byteOf (((claimOf r.state).map Claim.count).getD 0), byteOf r.queue.length]

/-- The scanner part behind the claim queue (R86). -/
def scannerTail (r : Scanner) (c : ScannerSettings) : List Byte :=
  halfBytes r.grants ++ [(r.lastEnd.map fun e => claimEndCode e.1).getD 0] ++
  halfBytes ((r.lastEnd.map Prod.snd).getD 0) ++ halfBytes (halfOfNat c.defaultHold) ++
  halfBytes (halfOfNat c.maximumHold) ++ [numberByte c.defaultStation, byteOf c.repeatWindow]

theorem scannerPart_eq (r : Scanner) (c : ScannerSettings) : scannerPart r c =
    scannerHead r ++ (padTo 4 (r.queue.map fun w => byteOf w.station.val) ++ scannerTail r c) := by
  unfold scannerPart scannerHead scannerTail
  simp only [List.append_assoc]

theorem scannerPart_length (r : Scanner) (c : ScannerSettings) : (scannerPart r c).length = 23 := by
  rw [scannerPart_eq, List.length_append, List.length_append, padTo_length]
  rfl

/-! ### The bytes of an entry by part -/

section

variable (p : PortNo) (s : State)

theorem port_read {k : Nat} (h : k < 0x40) :
    s.readByte (0x10 + 0x40 * p.val + k) = entryByte s.portCount[p] (portItems s p) k := by
  have hp := p.isLt
  have hat : index? 8 ((0x10 + 0x40 * p.val + k - 0x10) / 0x40) = some p := index?_eq_some p (by omega)
  have hoff : (0x10 + 0x40 * p.val + k - 0x10) % 0x40 = k := by omega
  rw [readByte_common (by omega)]
  unfold commonByte
  rw [if_neg (by omega), if_pos (by omega), hat]
  dsimp only
  rw [hoff]

/-- A byte of an entry behind its change count. -/
theorem portItems_read {i : Nat} (h : i < 63) : s.readByte (0x10 + 0x40 * p.val + (i + 1)) =
    (portPart s.ports[p] ++ (printerPart s.printers[p] s.printerSet[p] ++
      (scannerPart s.scanners[p] s.scannerSet[p] ++ panelPart s p))).getD i 0 := by
  rw [port_read p s (Nat.succ_lt_succ h)]
  unfold portItems
  rw [entryByte_padTo _ _ h, List.append_assoc, List.append_assoc]

theorem portPart_read {i : Nat} (h : i < 10) :
    s.readByte (0x10 + 0x40 * p.val + (1 + i)) = (portPart s.ports[p]).getD i 0 := by
  rw [Nat.add_comm 1 i, portItems_read p s (by omega), List.getD_append _ _ _ _ (by rwa [portPart_length])]

theorem printerPart_read {i : Nat} (h : i < 23) :
    s.readByte (0x10 + 0x40 * p.val + (11 + i)) = (printerPart s.printers[p] s.printerSet[p]).getD i 0 := by
  have hport := portPart_length s.ports[p]
  rw [show 11 + i = 10 + i + 1 by omega, portItems_read p s (by omega), List.getD_append_right _ _ _ _ (by omega), hport,
    Nat.add_sub_cancel_left, List.getD_append _ _ _ _ (by rwa [printerPart_length])]

theorem scannerPart_read {i : Nat} (h : i < 23) :
    s.readByte (0x10 + 0x40 * p.val + (34 + i)) = (scannerPart s.scanners[p] s.scannerSet[p]).getD i 0 := by
  have hport := portPart_length s.ports[p]
  have hprinter := printerPart_length s.printers[p] s.printerSet[p]
  rw [show 34 + i = 33 + i + 1 by omega, portItems_read p s (by omega), List.getD_append_right _ _ _ _ (by omega), hport,
    List.getD_append_right _ _ _ _ (by omega), hprinter, show 33 + i - 10 - 23 = i by omega,
    List.getD_append _ _ _ _ (by rwa [scannerPart_length])]

/-- The panel part, and the last byte of the entry behind it. -/
theorem panelPart_read {i : Nat} (h : i < 7) :
    s.readByte (0x10 + 0x40 * p.val + (57 + i)) = (panelPart s p).getD i 0 := by
  have hport := portPart_length s.ports[p]
  have hprinter := printerPart_length s.printers[p] s.printerSet[p]
  have hscanner := scannerPart_length s.scanners[p] s.scannerSet[p]
  rw [show 57 + i = 56 + i + 1 by omega, portItems_read p s (by omega), List.getD_append_right _ _ _ _ (by omega), hport,
    List.getD_append_right _ _ _ _ (by omega), hprinter, List.getD_append_right _ _ _ _ (by omega), hscanner,
    show 56 + i - 10 - 23 - 23 = i by omega]

theorem printerQueue_read {k : Nat} (h : k < 12) : s.readByte (0x10 + 0x40 * p.val + (11 + (4 + k))) =
    match s.printers[p].queue[k]? with | some j => byteOf j.val | none => 0 := by
  rw [printerPart_read p s (by omega), printerPart_eq]
  refine ((getD_padded _ _ _ 12 k).1 h).trans ((getD_map_byte ..).trans ?_)
  cases s.printers[p].queue[k]? <;> rfl

/-- The printer part behind the queue (R56). -/
theorem printerRest_read {k : Nat} (h : k < 7) : s.readByte (0x10 + 0x40 * p.val + (11 + (4 + (12 + k)))) =
    List.getD [flagByte s.printers[p].suspendPending, byteOf ((s.printers[p].page.map PageInFlight.page).getD 0),
      (s.printers[p].hold.map causeCode).getD 0, flagByte s.printers[p].paperLow, byteOf s.printerSet[p].pageTimeout,
      byteOf s.printerSet[p].reconnectWindow, flagByte s.printerSet[p].suspendAllowed] k 0 := by
  rw [printerPart_read p s (by omega), printerPart_eq]
  exact (getD_padded _ _ _ 12 k).2

theorem scannerHead_read {k : Nat} (h : k < 8) :
    s.readByte (0x10 + 0x40 * p.val + (34 + k)) = (scannerHead s.scanners[p]).getD k 0 := by
  rw [scannerPart_read p s (by omega), scannerPart_eq]
  exact List.getD_append _ _ _ _ h

theorem scannerQueue_read {k : Nat} (h : k < 4) : s.readByte (0x10 + 0x40 * p.val + (34 + (8 + k))) =
    match s.scanners[p].queue[k]? with | some w => byteOf w.station.val | none => 0 := by
  rw [scannerPart_read p s (by omega), scannerPart_eq]
  refine ((getD_padded _ _ _ 4 k).1 h).trans ((getD_map_byte ..).trans ?_)
  cases s.scanners[p].queue[k]? <;> rfl

theorem scannerTail_read {k : Nat} (h : k < 11) : s.readByte (0x10 + 0x40 * p.val + (34 + (8 + (4 + k)))) =
    (scannerTail s.scanners[p] s.scannerSet[p]).getD k 0 := by
  rw [scannerPart_read p s (by omega), scannerPart_eq]
  exact (getD_padded _ _ _ 4 k).2

end

/-! ### Zones and contacts (R111) -/

/-- A zone is ACTIVE on a port. -/
def zoneAt (s : State) (p : PortNo) (z : ZoneNo) : Bool := s.zones[z].any fun zone => zone.port = p

theorem zoneSet_bit (s : State) (p : PortNo) (z : ZoneNo) : (zoneSet s p).getLsbD z.val = zoneAt s p z := by
  have hbit : ∀ x : ZoneNo, (1#16 <<< x.val).getLsbD z.val = decide (x = z) := by
    revert z
    decide
  have hstep : ∀ (acc : Half) (x : ZoneNo), (match s.zones[x] with
      | some zn => if zn.port = p then acc ||| (1#16 <<< x.val) else acc
      | none => acc).getLsbD z.val = (acc.getLsbD z.val || (decide (x = z) && zoneAt s p x)) := fun acc x => by
    unfold zoneAt
    cases s.zones[x] with
    | none => simp
    | some zn =>
      by_cases hp : zn.port = p
      · simp only [hp, if_true, BitVec.getLsbD_or, hbit, Option.any_some, decide_true, Bool.and_true]
      · simp only [hp, if_false, Option.any_some, decide_false, Bool.and_false, Bool.or_false]
  have hfold : ∀ (l : List ZoneNo) (acc : Half), (l.foldl (fun acc x => match s.zones[x] with
      | some zn => if zn.port = p then acc ||| (1#16 <<< x.val) else acc
      | none => acc) acc).getLsbD z.val = (acc.getLsbD z.val || (decide (z ∈ l) && zoneAt s p z)) := fun l => by
    induction l with
    | nil => simp
    | cons x l ih =>
      intro acc
      rw [List.foldl_cons, ih, hstep]
      by_cases hx : x = z
      · subst hx
        cases zoneAt s p x <;> simp
      · have hz : z ≠ x := Ne.symm hx
        simp [hx, hz]
  refine (hfold (List.finRange 16) 0).trans ?_
  rw [decide_eq_true (List.mem_finRange z), Bool.true_and, show (0 : Half).getLsbD z.val = false from BitVec.getLsbD_zero,
    Bool.false_or]

theorem contactCount_eq (s : State) (p : PortNo) (test : Contact.Condition → Bool) : contactCount s p test =
    (List.finRange 32).countP fun n => s.contacts[n].any fun c => c.port = p && test c.cond := by
  unfold contactCount
  rw [vector_toList, List.countP_map]
  refine List.countP_congr fun n _ => ?_
  show (match s.contacts[n] with | some r => decide (r.port = p) && test r.cond | none => false) = true ↔ _
  cases s.contacts[n] <;> exact .rfl

end Sys2Proof.Machine
end

section
/-! ## The port mirror, field by field, and the obligation (R139, R151, R174, R175, R183–R185) -/

namespace Sys2Proof.Machine

open Sys2Proof.Safety
open Config

section

variable (p : PortNo) (s : State)

/-- The port part (R139). -/
theorem portPart_fields :
    let a := 0x10 + 0x40 * p.val
    let port := s.ports[p]
    s.readByte (a + 1) = linkCode port.link ∧
    (port.profile = none → ∀ k < 5, s.readByte (a + 2 + k) = 0) ∧
    (∀ d, port.profile = some d → s.readByte (a + 2) = kindCode d.kind ∧
      s.readByte (a + 3) = d.paces.setWidth 8 ∧ hostHalf s (a + 4) = d.model ∧ s.readByte (a + 6) = d.further) ∧
    s.readByte (a + 7) = byteOf (port.resolved.getD 0) ∧ s.readByte (a + 8) = port.advertised.setWidth 8 ∧
    (s.readByte (a + 9)).toNat = (if port.lost then 1 else 0) ∧ s.readByte (a + 10) = byteOf port.babbleCount := by
  intro a port
  have item : ∀ i, i < 10 → s.readByte (a + (1 + i)) = (portPart port).getD i 0 := fun _ => portPart_read p s
  have rest : ∀ k, k < 4 → s.readByte (a + (1 + (6 + k))) =
      List.getD [byteOf (port.resolved.getD 0), port.advertised.setWidth 8, flagByte port.lost, byteOf port.babbleCount]
        k 0 := fun k hk => by
    rw [item (6 + k) (by omega)]
    unfold portPart
    cases port.profile <;> exact (List.getD_append_right _ _ _ _ (Nat.le_add_right 6 k)).trans
      (congrArg (List.getD _ · 0) (Nat.add_sub_cancel_left 6 k))
  refine ⟨item 0 (by decide), fun hnone k hk => ?_, fun d hd => ?_, rest 0 (by decide), rest 1 (by decide), ?_,
    rest 3 (by decide)⟩
  · have hpart : portPart port = [linkCode port.link, 0, 0, 0, 0, 0, byteOf (port.resolved.getD 0),
        port.advertised.setWidth 8, flagByte port.lost, byteOf port.babbleCount] := by
      unfold portPart
      rw [hnone]
      rfl
    rw [Nat.add_assoc, show 2 + k = 1 + (1 + k) by omega, item (1 + k) (by omega), hpart]
    match k, hk with
    | 0, _ | 1, _ | 2, _ | 3, _ | 4, _ => rfl
  · have hpart : portPart port = [linkCode port.link, kindCode d.kind, d.paces.setWidth 8, loByte d.model,
        hiByte d.model, d.further, byteOf (port.resolved.getD 0), port.advertised.setWidth 8, flagByte port.lost,
        byteOf port.babbleCount] := by
      unfold portPart
      rw [hd]
      rfl
    rw [hpart] at item
    exact ⟨item 1 (by decide), item 2 (by decide), hostHalf_of (item 3 (by decide)) (item 4 (by decide)),
      item 5 (by decide)⟩
  · rw [show a + 9 = a + (1 + (6 + 2)) from rfl, rest 2 (by decide)]
    exact flagByte_toNat port.lost

/-- The printer part (R56). -/
theorem printerPart_fields :
    let a := 0x10 + 0x40 * p.val
    let r := s.printers[p]
    s.readByte (a + 11) = printerCode r.state ∧ s.readByte (a + 12) = numberByte r.current ∧
    s.readByte (a + 13) = numberByte r.suspended ∧ s.readByte (a + 14) = byteOf r.queue.length ∧
    (∀ k < 12, s.readByte (a + 15 + k) = match r.queue[k]? with | some j => byteOf j.val | none => 0) ∧
    (s.readByte (a + 27)).toNat = (if r.suspendPending then 1 else 0) ∧
    s.readByte (a + 28) = (match r.page with | some pg => byteOf pg.page | none => 0) ∧
    s.readByte (a + 29) = (match r.hold with | some cause => causeCode cause | none => 0) ∧
    (s.readByte (a + 30)).toNat = (if r.paperLow then 1 else 0) ∧
    s.readByte (a + 31) = byteOf s.printerSet[p].pageTimeout ∧
    s.readByte (a + 32) = byteOf s.printerSet[p].reconnectWindow ∧
    (s.readByte (a + 33)).toNat = (if s.printerSet[p].suspendAllowed then 1 else 0) := by
  intro a r
  have item : ∀ i, i < 23 → s.readByte (a + (11 + i)) = (printerPart r s.printerSet[p]).getD i 0 :=
    fun _ => printerPart_read p s
  have rest := fun k hk => printerRest_read p s (k := k) hk
  refine ⟨item 0 (by decide), item 1 (by decide), item 2 (by decide), item 3 (by decide), fun k hk => ?_,
    (congrArg BitVec.toNat (rest 0 (by decide))).trans (flagByte_toNat _), (rest 1 (by decide)).trans ?_,
    (rest 2 (by decide)).trans ?_, (congrArg BitVec.toNat (rest 3 (by decide))).trans (flagByte_toNat _),
    rest 4 (by decide), rest 5 (by decide), (congrArg BitVec.toNat (rest 6 (by decide))).trans (flagByte_toNat _)⟩
  · rw [Nat.add_assoc, show 15 + k = 11 + (4 + k) by omega]
    exact printerQueue_read p s hk
  · show byteOf ((r.page.map PageInFlight.page).getD 0) = _
    cases r.page <;> rfl
  · show (r.hold.map causeCode).getD 0 = _
    cases r.hold <;> rfl

/-- The scanner part (R86). -/
theorem scannerPart_fields :
    let a := 0x10 + 0x40 * p.val
    let v := s.scanners[p]
    s.readByte (a + 34) = scannerCode v.state ∧
    (∀ claim, v.state = .held claim → s.readByte (a + 35) = byteOf claim.holder.val ∧
      hostHalf s (a + 36) = claim.serial ∧ hostHalf s (a + 38) = halfOfNat claim.hold ∧
      s.readByte (a + 40) = byteOf claim.count) ∧
    ((∀ claim, v.state ≠ .held claim) → s.readByte (a + 35) = 0xFF ∧ ∀ k < 5, s.readByte (a + 36 + k) = 0) ∧
    s.readByte (a + 41) = byteOf v.queue.length ∧
    (∀ k < 4, s.readByte (a + 42 + k) = match v.queue[k]? with | some w => byteOf w.station.val | none => 0) ∧
    hostHalf s (a + 46) = v.grants ∧
    (∀ why serial, v.lastEnd = some (why, serial) →
      s.readByte (a + 48) = claimEndCode why ∧ hostHalf s (a + 49) = serial) ∧
    (v.lastEnd = none → ∀ k < 3, s.readByte (a + 48 + k) = 0) ∧
    hostHalf s (a + 51) = halfOfNat s.scannerSet[p].defaultHold ∧
    hostHalf s (a + 53) = halfOfNat s.scannerSet[p].maximumHold ∧
    s.readByte (a + 55) = numberByte s.scannerSet[p].defaultStation ∧
    s.readByte (a + 56) = byteOf s.scannerSet[p].repeatWindow := by
  intro a v
  have head : ∀ k, k < 8 → s.readByte (a + (34 + k)) = (scannerHead v).getD k 0 := fun _ => scannerHead_read p s
  have tail : ∀ k, k < 11 → s.readByte (a + (34 + (8 + (4 + k)))) = (scannerTail v s.scannerSet[p]).getD k 0 :=
    fun _ => scannerTail_read p s
  refine ⟨head 0 (by decide), fun claim hclaim => ?_, fun hno => ?_, head 7 (by decide), fun k hk => ?_,
    hostHalf_of (tail 0 (by decide)) (tail 1 (by decide)), fun why serial hend => ?_, fun hend k hk => ?_,
    hostHalf_of (tail 5 (by decide)) (tail 6 (by decide)), hostHalf_of (tail 7 (by decide)) (tail 8 (by decide)),
    tail 9 (by decide), tail 10 (by decide)⟩
  · have hhead : scannerHead v = [scannerCode v.state, byteOf claim.holder.val, loByte claim.serial, hiByte claim.serial,
        loByte (halfOfNat claim.hold), hiByte (halfOfNat claim.hold), byteOf claim.count, byteOf v.queue.length] := by
      unfold scannerHead
      rw [hclaim]
      rfl
    rw [hhead] at head
    exact ⟨head 1 (by decide), hostHalf_of (head 2 (by decide)) (head 3 (by decide)),
      hostHalf_of (head 4 (by decide)) (head 5 (by decide)), head 6 (by decide)⟩
  · have hnone : claimOf v.state = none := by
      cases hstate : v.state with
      | held claim => exact absurd hstate (hno claim)
      | free | absent => rfl
    have hhead : scannerHead v = [scannerCode v.state, 0xFF, 0, 0, 0, 0, 0, byteOf v.queue.length] := by
      unfold scannerHead
      rw [hnone]
      rfl
    rw [hhead] at head
    refine ⟨head 1 (by decide), fun k hk => ?_⟩
    match k, hk with
    | 0, _ => exact head 2 (by decide)
    | 1, _ => exact head 3 (by decide)
    | 2, _ => exact head 4 (by decide)
    | 3, _ => exact head 5 (by decide)
    | 4, _ => exact head 6 (by decide)
  · rw [Nat.add_assoc, show 42 + k = 34 + (8 + k) by omega]
    exact scannerQueue_read p s hk
  · have htail : ∀ k, k < 5 → s.readByte (a + (34 + (8 + (4 + k)))) =
        List.getD [loByte v.grants, hiByte v.grants, claimEndCode why, loByte serial, hiByte serial] k 0 := fun k hk => by
      rw [tail k (by omega)]
      unfold scannerTail
      rw [hend]
      match k, hk with
      | 0, _ | 1, _ | 2, _ | 3, _ | 4, _ => rfl
    exact ⟨htail 2 (by decide), hostHalf_of (htail 3 (by decide)) (htail 4 (by decide))⟩
  · rw [Nat.add_assoc, show 48 + k = 34 + (8 + (4 + (2 + k))) by omega, tail (2 + k) (by omega)]
    unfold scannerTail
    rw [hend]
    match k, hk with
    | 0, _ | 1, _ | 2, _ => rfl

/-- The panel part, and the byte behind it (R111). -/
theorem panelPart_fields :
    let a := 0x10 + 0x40 * p.val
    let inCondition := fun (test : Contact.Condition → Bool) => byteOf ((List.finRange 32).countP fun n =>
      s.contacts[n].any fun c => c.port = p && test c.cond)
    (∀ z : ZoneNo, (hostHalf s (a + 57)).getLsbD z.val = s.zones[z].any fun zone => zone.port = p) ∧
    s.readByte (a + 59) = inCondition isLive ∧ s.readByte (a + 60) = inCondition isClosing ∧
    s.readByte (a + 61) = inCondition isSuppressed ∧ s.readByte (a + 62) = inCondition isIgnored ∧
    s.readByte (a + 63) = 0 := by
  intro a inCondition
  have item : ∀ i, i < 7 → s.readByte (a + (57 + i)) = (panelPart s p).getD i 0 := fun _ => panelPart_read p s
  have hcount : ∀ test, byteOf (contactCount s p test) = inCondition test := fun test =>
    congrArg byteOf (contactCount_eq s p test)
  have hzones : hostHalf s (a + 57) = zoneSet s p := hostHalf_of (item 0 (by decide)) (item 1 (by decide))
  refine ⟨fun z => ?_, (item 2 (by decide)).trans (hcount _), (item 3 (by decide)).trans (hcount _),
    (item 4 (by decide)).trans (hcount _), (item 5 (by decide)).trans (hcount _), item 6 (by decide)⟩
  rw [hzones]
  exact zoneSet_bit s p z

end

/-! ### The obligation -/

theorem common_read (s : State) : s.readWord 0x0000 = 0x1B4C ∧ s.readWord 0x0002 = 0x0816 ∧ s.readByte 0x0004 = 0x03 ∧
    (∀ a, 5 ≤ a ∧ a < 0x10 ∨ 0x572 ≤ a ∧ a < 0x1000 → s.readByte a = 0) ∧
    s.readWord 0xFFF8 = (if s.part = .stopped then 0 else 1) ∧
    (s.readWord 0xFFFA).toNat =
      (match s.part with | .stopped => 0 | .running => 1 | .quiet => 2) +
      (match s.wake with | .none => 0 | .request => 16 | .touch z => 32 + 256 * z.val) ∧
    s.readWord 0xFFFC = s.notice ∧ s.readWord 0xFFFE = s.noticeMask ∧
    s.readByte 0x510 = s.poolCount ∧ s.readByte 0x511 = byteOf s.free.length ∧
    ∀ b : BlockNo, s.readByte (0x512 + b.val) = blockCode s.blocks[b] := by
  obtain ⟨hcontrol, hstatus, hnotice, hmask⟩ := registers_read s
  exact ⟨halfOf_lo_hi vendorCode, halfOf_lo_hi Config.partCode, rfl, fun _ h => common_end h s, hcontrol, hstatus, hnotice,
    hmask, pool_read (k := 0) (by decide) s, pool_read (k := 1) (by decide) s, fun b => poolBlock_read b s⟩

/-- Settles O16: the writes by the words they hand over, and the reads region by region and field by field. -/
theorem noticeRegistersAndInterrupt : Obligations.NoticeRegistersAndInterrupt := by
  refine ⟨fun a v s ha => ?_, fun v s => ⟨?_, ?_⟩, fun a v s ha => ?_, fun v s => ⟨?_, ?_⟩, interrupt_iff, common_read,
    readByte_card, readByte_ring, fun a s h h' => readByte_pool h h' s, fun a s h h' => readByte_unmapped h h' s,
    readWord_toNat, jobs_read, stations_read, fun p s => ?_⟩
  · refine exec_noticeWrite (w := .word a v) (.inl ?_) s
    rcases ha with rfl | rfl <;> rfl
  · rw [exec_noticeWrite (w := .byte 0xFFFC v) (.inl rfl) s, ← halfOf_zero_high]
    rfl
  · rw [exec_noticeWrite (w := .byte 0xFFFD v) (.inr rfl) s, ← halfOf_zero_low]
    rfl
  · refine exec_noticeMaskWrite (w := .word a v) (.inl ?_) s
    rcases ha with rfl | rfl <;> rfl
  · rw [exec_noticeMaskWrite (w := .byte 0xFFFE v) (.inl rfl) s, ← halfOf_kept_high]
    rfl
  · rw [exec_noticeMaskWrite (w := .byte 0xFFFF v) (.inr rfl) s, ← halfOf_kept_low]
    rfl
  · obtain ⟨hlink, habsent, hprofile, hresolved, hadvertised, hlost, hbabble⟩ := portPart_fields p s
    obtain ⟨hstate, hcurrent, hsuspended, hlength, hqueue, hpending, hpage, hhold, hpaper, htimeout, hwindow, hallowed⟩ :=
      printerPart_fields p s
    obtain ⟨hscanner, hclaim, hno, hwaits, hqueued, hgrants, hend, hnoend, hdefault, hmaximum, hstation, hrepeat⟩ :=
      scannerPart_fields p s
    exact ⟨port_read p s (k := 0) (by decide), hlink, habsent, hprofile, hresolved, hadvertised, hlost, hbabble, hstate,
      hcurrent, hsuspended, hlength, hqueue, hpending, hpage, hhold, hpaper, htimeout, hwindow, hallowed, hscanner, hclaim,
      hno, hwaits, hqueued, hgrants, hend, hnoend, hdefault, hmaximum, hstation, hrepeat, panelPart_fields p s⟩

end Sys2Proof.Machine
end

section
/-! ## Frames of devices, taken or ignored (R60, R64, R133, R147) -/

namespace Sys2Proof.Machine

open Sys2Proof.Safety
open Config

section

variable {p : PortNo} {s : State} {payload : List Byte} {i : Instr} {kind : Byte}

/-! ### A frame command by its kind -/

/-- The command of a good frame is the frame received whole (R133, log 13). -/
theorem exec_frameCommand (hi : (i, kind) ∈ frameCommands p payload) (s : State) :
    exec i s = eventMarked (frameReceived p kind payload) s := by
  simp only [frameCommands, List.mem_cons, List.not_mem_nil, or_false, Prod.mk.injEq] at hi
  rcases hi with ⟨rfl, rfl⟩ | ⟨rfl, rfl⟩ | ⟨rfl, rfl⟩ | ⟨rfl, rfl⟩ | ⟨rfl, rfl⟩ | ⟨rfl, rfl⟩ | ⟨rfl, rfl⟩ | ⟨rfl, rfl⟩ |
    ⟨rfl, rfl⟩ <;> rfl

theorem frameReceived_linked (h : linked s.ports[p] = true) (hlength : payload.length ≤ 96) :
    frameReceived p kind payload s = takeFrame p kind payload (framed p s) := by
  unfold frameReceived
  rw [if_pos ⟨h, hlength⟩, setRx_restartSilence h]

theorem frameReceived_unlinked (h : linked s.ports[p] = false) : frameReceived p kind payload s = unmarked s :=
  if_neg fun ⟨hlinked, _⟩ => absurd (h.symm.trans hlinked) Bool.false_ne_true

/-- A frame of a printer's kind goes to the Print Scheduler (R147). -/
theorem takeFrame_printer {low high : Nat} (hkind : deviceFrame? kind = some (.printer, low, high)) :
    takeFrame p kind payload s = unmarked (printerFrame p kind payload s) := by
  have hne : ∀ {k : Byte}, deviceFrame? k = none ∨ deviceFrame? k = some (.scanner, 1, 96) ∨
      deviceFrame? k = some (.panel, 1, 61) → kind ≠ k := by
    rintro k hk rfl
    rw [hkind] at hk
    rcases hk with hk | hk | hk <;> cases hk
  unfold takeFrame
  rw [if_neg (hne (.inl rfl)), if_neg (hne (.inl rfl)), if_neg (hne (.inr (.inl rfl))), if_neg (hne (.inr (.inr rfl)))]

/-- A printer's frame on an UP port with a printer (R133, R147). -/
theorem exec_printerFrame {low high : Nat} (h : UpWith .printer p s) (hi : (i, kind) ∈ frameCommands p payload)
    (hkind : deviceFrame? kind = some (.printer, low, high)) (hlength : payload.length ≤ 96) :
    exec i s = .next (publish [] s (printerFrame p kind payload (framed p s))) := by
  have hlinked : linked s.ports[p] = true := by
    unfold linked
    rw [h.1]
    rfl
  rw [exec_frameCommand hi]
  unfold eventMarked
  rw [frameReceived_linked hlinked hlength, takeFrame_printer hkind]
  rfl

theorem exec_credit (h : UpWith .printer p s) (n : Byte) :
    exec (.credit p [n]) s = .next (publish [] s (credit p n.toNat (framed p s))) := by
  rw [exec_printerFrame h (kind := kindCredit) (payload := [n]) (by simp [frameCommands, kindCredit]) rfl
    (Nat.le_of_ble_eq_true rfl)]
  unfold printerFrame
  rw [if_pos (framed_upKind h)]
  rfl

theorem exec_ready (h : UpWith .printer p s) : exec (.ready p []) s = .next (publish [] s (ready p (framed p s))) := by
  rw [exec_printerFrame h (kind := kindReady) (payload := []) (by simp [frameCommands, kindReady]) rfl
    (Nat.le_of_ble_eq_true rfl)]
  unfold printerFrame
  rw [if_pos (framed_upKind h)]
  rfl

theorem exec_paper (h : UpWith .printer p s) (code : Byte) :
    exec (.paper p [code]) s = .next (publish [] s (paper p (decide (code ≠ 0)) (framed p s))) := by
  rw [exec_printerFrame h (kind := kindPaper) (payload := [code]) (by simp [frameCommands, kindPaper]) rfl
    (Nat.le_of_ble_eq_true rfl)]
  unfold printerFrame
  rw [if_pos (framed_upKind h)]
  rfl

/-! ### Frames that are ignored (R147) -/

/-- A printer's frame whose payload length does not fit its kind is ignored (R147, R189). -/
theorem printerFrame_misfit {low high : Nat} (hkind : deviceFrame? kind = some (.printer, low, high))
    (h : payload.length < low ∨ high < payload.length) : printerFrame p kind payload s = s := by
  have hne : ∀ k : Byte, deviceFrame? k = some (.printer, payload.length, payload.length) → kind ≠ k := by
    rintro k hk rfl
    cases hk.symm.trans hkind
    omega
  unfold printerFrame
  split
  · match payload, hne with
    | [], hne => exact if_neg (hne kindReady rfl)
    | [_], hne =>
      exact (if_neg (hne kindPageDone rfl)).trans
        ((if_neg (hne kindCredit rfl)).trans (if_neg (hne kindPaper rfl)))
    | [_, _], hne => exact if_neg (hne kindPageFault rfl)
    | _ :: _ :: _ :: _, _ => rfl
  · rfl

/-- A TOUCH frame longer than ten entries is ignored (R112). -/
theorem touch_long (hfits : touchFits payload = true) (h : 61 < payload.length) : touch p payload s = unmarked s := by
  unfold touch
  split
  · next count rest limit hpanel =>
    have hrest : rest.length = 6 * count.toNat := of_decide_eq_true hfits
    rw [List.length_cons] at h
    exact if_pos (.inr (by omega))
  · rfl

/-- A frame of a device that is not there, or of a length that does not fit its kind, is ignored (R147, R189). -/
theorem takeFrame_ignored {sender : DeviceKind} {low high : Nat} (hkind : deviceFrame? kind = some (sender, low, high))
    (hlength : payload.length ≤ 96)
    (h : upKind s.ports[p] ≠ some sender ∨ payload.length < low ∨ high < payload.length) :
    takeFrame p kind payload s = unmarked s := by
  cases sender with
  | printer =>
    rw [takeFrame_printer hkind]
    refine congrArg unmarked (h.elim (fun hup => ?_) (printerFrame_misfit hkind))
    exact if_neg hup
  | scanner =>
    obtain ⟨rfl, rfl, rfl⟩ : kind = kindScan ∧ low = 1 ∧ high = 96 := by
      unfold deviceFrame? at hkind
      split_ifs at hkind with _ _ _ hscan <;> cases hkind
      exact ⟨hscan, rfl, rfl⟩
    show unmarked (scanFrame p payload s) = unmarked s
    unfold scanFrame
    split
    · next hup =>
      obtain rfl : payload = [] := List.eq_nil_of_length_eq_zero (by have := h.resolve_left (not_not.mpr hup.1); omega)
      rfl
    · rfl
  | panel =>
    obtain ⟨rfl, rfl, rfl⟩ : kind = kindTouch ∧ low = 1 ∧ high = 61 := by
      unfold deviceFrame? at hkind
      split_ifs at hkind with _ _ _ _ htouch <;> cases hkind
      exact ⟨htouch, rfl, rfl⟩
    show touchFrame p payload s = unmarked s
    unfold touchFrame
    split
    · next hup =>
      obtain ⟨hpanel, hfits, -⟩ := hup
      rcases h.resolve_left (not_not.mpr hpanel) with hshort | hlong
      · obtain rfl : payload = [] := List.eq_nil_of_length_eq_zero (by omega)
        exact absurd hfits Bool.false_ne_true
      · exact touch_long hfits hlong
    · rfl

/-- A frame ignored on a linked port restarts the silence timer and leaves no other trace (R133, R144, R147). -/
theorem exec_ignored {sender : DeviceKind} {low high : Nat} (hi : (i, kind) ∈ frameCommands p payload)
    (hkind : deviceFrame? kind = some (sender, low, high)) (hlength : payload.length ≤ 96)
    (hlinked : linked s.ports[p] = true)
    (h : upKind s.ports[p] ≠ some sender ∨ payload.length < low ∨ high < payload.length) :
    exec i s = .next (framed p s) := by
  have hup : upKind (framed p s).ports[p] = upKind s.ports[p] := by rw [framed_port]; rfl
  rw [exec_frameCommand hi]
  unfold eventMarked
  rw [frameReceived_linked hlinked hlength, takeFrame_ignored hkind hlength (by rwa [hup])]
  exact congrArg Host.Outcome.next (publish_framed p s)

/-- No frame is received on a port that is not INTRODUCING or UP (R135). -/
theorem exec_unlinked (hi : (i, kind) ∈ frameCommands p payload) (h : linked s.ports[p] = false) : exec i s = .next s := by
  rw [exec_frameCommand hi]
  unfold eventMarked
  rw [frameReceived_unlinked h]
  exact congrArg Host.Outcome.next (publish_self s)

/-! ### A printer that does not work on a page (R64) -/

theorem working_of (h : s.printers[p].state = .sending ∨ s.printers[p].state = .quiesced) :
    working s.printers[p] = true := by
  unfold working
  rcases h with h | h <;> rw [h] <;> rfl

/-- Frames about a page find a printer that is neither SENDING nor QUIESCED, or has no page in flight: they are ignored
(R64). -/
theorem pageFrames_ignored
    (h : s.printers[p].state ≠ .sending ∧ s.printers[p].state ≠ .quiesced ∨ s.printers[p].page = none) :
    (∀ n, pageDone p n s = s) ∧ (∀ n cause, pageFault p n cause s = s) ∧ ready p s = s ∧ ∀ n, credit p n s = s := by
  have hstop : ∀ {pg : PageInFlight}, s.printers[p].page = some pg → working s.printers[p] ≠ true := by
    intro pg hpage hworks
    obtain ⟨hsending, hquiesced⟩ := h.resolve_right (by rw [hpage]; exact nofun)
    exact (Bool.or_eq_true_iff.mp hworks).elim (hsending ∘ of_decide_eq_true) (hquiesced ∘ of_decide_eq_true)
  have hcredit : ∀ n, credit p n s = s := fun n => if_neg fun ⟨hw, hsome⟩ => by
    obtain ⟨pg, hpage⟩ := Option.isSome_iff_exists.mp hsome
    exact hstop hpage hw
  refine ⟨fun n => ?_, fun n cause => ?_, ?_, hcredit⟩
  all_goals
    simp only [pageDone, pageFault, ready]
    split
    · next hpage => exact if_neg fun hw => hstop hpage hw.1
    · rfl

end

/-! ### What the mirrors do not show (R184) -/

/-- An event that leaves what the mirrors show of ports and printers as it was publishes nothing. -/
theorem publish_hidden {s t : State} (hport : ∀ q : PortNo, portPart t.ports[q] = portPart s.ports[q])
    (hprinter : ∀ q : PortNo, printerPart t.printers[q] s.printerSet[q] = printerPart s.printers[q] s.printerSet[q])
    (ht : t = { s with ports := t.ports, printers := t.printers }) : publish [] s t = t := by
  refine publish_same (fun q => ?_) (fun j => by rw [ht]) (fun st => by rw [ht]; rfl) (by rw [ht]; rfl)
  have hshow : portItems t q = padTo 63 (portPart t.ports[q] ++ printerPart t.printers[q] s.printerSet[q] ++
      scannerPart s.scanners[q] s.scannerSet[q] ++ panelPart s q) := by
    rw [ht]
    rfl
  rw [hshow, hport, hprinter]
  rfl

/-- An event that leaves what the mirrors show of jobs as it is, and the Station Table and the pool, publishes port entries
alone. -/
theorem publish_portsAlone {s t : State} (hj : ∀ j : JobNo, jobItems s.jobs[j] = jobItems t.jobs[j])
    (hs : t.stations = s.stations) (hb : t.blocks = s.blocks) (hf : t.free = s.free) :
    publish [] s t = { t with portCount := (publish [] s t).portCount } := by
  rw [publish_eq, publish_jobCount hj, publish_stationCount (stationItems_eq hs hb), publish_poolCount (poolItems_eq hf hb)]

/-- What is shown of each entry stays when one is replaced by one that shows alike. -/
theorem put_shown {α : Type} {n : Nat} {shown : Fin n → α → List Byte} {v : Vector α n} {p : Fin n} {x : α}
    (h : shown p x = shown p v[p]) (q : Fin n) : shown q (put v p x)[q] = shown q v[q] := by
  rw [Fin.getElem_fin, put_get_eq]
  split_ifs with hq
  · subst hq
    exact h
  · rfl

end Sys2Proof.Machine
end

section
/-! ## CREDIT (R59, R60) -/

namespace Sys2Proof.Machine

open Sys2Proof.Safety
open Config

section

variable {p : PortNo} {s : State}

/-! ### A page that needs no data -/

theorem sendData_idle (h : ∀ k, s.printers[p].page ≠ some { page := k, stage := .data }) : sendData p s = s := by
  unfold sendData
  dsimp only
  split
  · next hpage => exact absurd hpage (h _)
  · rfl

theorem sendDataTimes_idle (h : ∀ k, s.printers[p].page ≠ some { page := k, stage := .data }) (n : Nat) :
    sendDataTimes p n s = s := by
  induction n with
  | zero => rfl
  | succ n ih =>
    unfold sendDataTimes
    rw [sendData_idle h, ih]

theorem closePage_idle (h : ∀ k, s.printers[p].page ≠ some { page := k, stage := .data }) : closePage p s = s := by
  unfold closePage
  dsimp only
  split
  · next hpage => exact absurd hpage (h _)
  · rfl

/-- A page that is not in stage DATA is not fed (R59, R60). -/
theorem feedPage_idle (h : ∀ k, s.printers[p].page ≠ some { page := k, stage := .data }) : feedPage p s = s := by
  unfold feedPage
  rw [sendDataTimes_idle h, closePage_idle h]

/-! ### A page that is fed -/

/-- A printer record after a CREDIT (R59). -/
def credited (n : Nat) (r : Printer) : Printer := { r with credits := min (r.credits + n) r.window }

/-- CREDIT at a working printer with a page in flight (R59). -/
theorem exec_credit_feeds (hup : UpWith .printer p s)
    (hworks : s.printers[p].state = .sending ∨ s.printers[p].state = .quiesced) (hpage : s.printers[p].page ≠ none)
    (n : Byte) : exec (.credit p [n]) s =
      .next (publish [] s (feedPage p (feeding p (credited n.toNat s.printers[p]) [] (framed p s)))) := by
  rw [exec_credit hup, ← feeding_start]
  exact congrArg (fun t => Host.Outcome.next (publish [] s t))
    (if_pos ⟨working_of hworks, Option.isSome_iff_ne_none.mpr hpage⟩)

/-- Frames handed for the port of a printer after its own frame (R133, R136). -/
theorem feeding_framed (h : UpWith .printer p s) (r : Printer) (l : List OutFrame) :
    feeding p r l (framed p s) =
      { framed p s with
        printers := put s.printers p r
        ports := put s.ports p { (framed p s).ports[p] with sendList := s.ports[p].sendList ++ l } } := by
  have hup : UpWith .printer p (framed p s) := by
    unfold UpWith
    rw [framed_port]
    exact h
  unfold feeding
  rw [if_pos hup]
  refine congrArg (fun v => { framed p s with printers := put s.printers p r, ports := v }) ?_
  rw [framed_port]
  exact put_put ..

/-- A page fed after the printer's own frame is not shown in any mirror entry: its number and the port's link items stand. -/
theorem publish_fed {r : Printer} (hr : ∀ c, printerPart r c = printerPart s.printers[p] c) (l : List OutFrame) :
    publish [] s (feeding p r l (framed p s)) = feeding p r l (framed p s) := by
  refine publish_hidden (fun q => ?_) (put_shown (shown := fun q x => printerPart x s.printerSet[q]) (hr _)) rfl
  have hport : portPart (feeding p r l (framed p s)).ports[q] = portPart (framed p s).ports[q] := by
    refine put_shown (shown := fun _ => portPart) (v := (framed p s).ports) (p := p) ?_ q
    rfl
  rw [hport, framed_portPart]

end

/-- Settles O52: CREDIT without a page in flight, with one that needs no data, and the page fed as credits go. -/
theorem creditFeedsThePage : Obligations.CreditFeedsThePage := by
  intro p n s hup hworks credits
  refine ⟨fun hnone => ?_, fun pg hpage hstage => ?_, ?_⟩
  · obtain ⟨-, -, -, hcredit⟩ := pageFrames_ignored (s := framed p s) (.inr hnone)
    rw [exec_credit hup, hcredit, publish_framed]
  · have hidle : ∀ k, (feeding p (credited n.toNat s.printers[p]) [] (framed p s)).printers[p].page ≠
        some { page := k, stage := .data } := fun k hk => by
      rw [feeding_printer] at hk
      exact hstage (congrArg PageInFlight.stage (Option.some.inj (hpage.symm.trans hk)))
    rw [exec_credit_feeds hup hworks (by rw [hpage]; exact nofun), feedPage_idle hidle,
      publish_fed (r := credited n.toNat s.printers[p]) fun _ => rfl, ← feeding_start]
    rfl
  · intro j k hc hpage hleft total frames data sent
    rw [exec_credit_feeds hup hworks (by rw [hpage]; exact nofun),
      feedPage_feeding (r := credited n.toNat s.printers[p]) (total := total) (k := frames) [] (framed p s) hc hpage rfl
        (Nat.le_of_lt hleft) rfl]
    dsimp only
    rw [publish_fed, feeding_framed hup, List.nil_append, ← List.append_assoc]
    · rfl
    · intro c
      unfold printerPart
      rw [hpage]
      rfl

end Sys2Proof.Machine
end

section
/-! ## READY, PAPER and frames ignored (R58, R64, R68, R77, R147) -/

namespace Sys2Proof.Machine

open Sys2Proof.Safety
open Config

section

variable {p : PortNo} {s : State}

/-- READY at a working printer with a page in flight (R68). -/
theorem ready_eq {pg : PageInFlight} (hworks : s.printers[p].state = .sending ∨ s.printers[p].state = .quiesced)
    (hpage : s.printers[p].page = some pg) :
    ready p s = if pg.stage = .awaitingReady then openPage p s else s := by
  unfold ready
  dsimp only
  rw [hpage]
  dsimp only
  simp only [working_of hworks, true_and]

/-- PAPER at a printer that is served, with a changed report (R77). -/
theorem paper_changed {low : Bool} (hattached : attached s.printers[p] = true) (hlow : s.printers[p].paperLow ≠ low) :
    paper p low (framed p s) =
      withRings { framed p s with printers := put s.printers p { s.printers[p] with paperLow := low } }
        (giveStatus 0 (.printerNote p low) s) := by
  have halike : RingsAlike s (updPrinter (framed p s) p fun r => { r with paperLow := low }) :=
    ⟨rfl, rfl, rfl, rfl, fun _ => rfl⟩
  exact (if_pos ⟨hattached, hlow⟩).trans (halike.giveStatus 0 _)

theorem paper_ignored {low : Bool} (h : attached s.printers[p] = false ∨ s.printers[p].paperLow = low) :
    paper p low s = s :=
  if_neg fun ⟨hattached, hlow⟩ => h.elim (fun hno => absurd (hno.symm.trans hattached) Bool.false_ne_true) hlow

/-- A page opened again after the printer's own frame: nothing else but its port's mirror entry has changed (R58, R68). -/
theorem ready_opens {j : JobNo} (hc : s.printers[p].current = some j) :
    let t := publish [] s (openPage p (framed p s))
    PageOpened p s.jobs[j] s.printers[p] (framed p s) t ∧
    t = { s with
      ports := put s.ports p t.ports[p], printers := put s.printers p t.printers[p], portCount := t.portCount } := by
  obtain ⟨hopened, r, x, hopen⟩ := openPage_opened (p := p) (j := j) (s := framed p s) hc
  have hstate : openPage p (framed p s) = { s with ports := put s.ports p x, printers := put s.printers p r } :=
    hopen.trans (congrArg (fun v => { s with ports := v, printers := put s.printers p r }) (put_put ..))
  rw [hstate] at hopened ⊢
  refine ⟨hopened, ?_⟩
  dsimp only [publish_ports, publish_printers]
  rw [Fin.getElem_fin, put_get, Fin.getElem_fin, put_get]
  exact publish_portsOnly [] rfl rfl rfl rfl

end

/-- Settles O54: the frames that are ignored, by the printer's state and by the link's, then READY and PAPER. -/
theorem readyAndPaper : Obligations.ReadyAndPaper := by
  refine ⟨fun p n code i s hup hidle hi => ?_, fun p payload i kind sender low high s hi hkind hlength =>
    ⟨fun hlink => ?_, fun hlink => ?_, fun d hlink hd hmisfit => ?_⟩, fun p s hup =>
    ⟨fun j pg hc hpage hworks => ⟨fun hstage => ?_, fun hstage => ?_⟩, fun code =>
    ⟨fun hattached hlow => ?_, fun hignored => ?_⟩⟩⟩
  · obtain ⟨hdone, hfault, hready, hcredit⟩ := pageFrames_ignored (s := framed p s) hidle
    simp only [List.mem_cons, List.not_mem_nil, or_false] at hi
    rcases hi with rfl | rfl | rfl | rfl
    · rw [exec_pageDone hup, hdone, publish_framed]
    · rw [exec_pageFault hup, hfault, publish_framed]
    · rw [exec_ready hup, hready, publish_framed]
    · rw [exec_credit hup, hcredit, publish_framed]
  · refine exec_ignored hi hkind hlength (by unfold linked; rw [hlink]; rfl) (.inl ?_)
    unfold upKind
    rw [hlink]
    exact nofun
  · refine exec_unlinked hi ?_
    unfold linked
    rcases hlink with h | h | h <;> rw [h] <;> rfl
  · refine exec_ignored hi hkind hlength (by unfold linked; rw [hlink]; rfl) (hmisfit.imp_left fun hne => ?_)
    unfold upKind
    rw [if_pos hlink, hd]
    exact fun h => hne (Option.some.inj h)
  · rw [exec_ready hup, ready_eq (s := framed p s) hworks hpage, if_neg hstage, publish_framed]
  · refine ⟨_, ?_, ready_opens hc⟩
    rw [exec_ready hup, ready_eq (s := framed p s) hworks hpage, if_pos hstage]
  · refine ⟨_, exec_paper hup code, ?_⟩
    rw [paper_changed hattached hlow]
    exact ⟨⟨rfl, rfl, rfl⟩, giveStatus_bytes 0 _ s, publish_portsOnly [] rfl rfl rfl rfl⟩
  · rw [exec_paper hup, paper_ignored (s := framed p s) hignored, publish_framed]

end Sys2Proof.Machine
end

section
/-! ## A page resumed, and CLEAR PRINTER (R58, R59, R72, R75) -/

namespace Sys2Proof.Machine

open Sys2Proof.Safety
open Config

section

variable {p : PortNo} {j : JobNo} {s : State}

/-! ### The page sent again (R72, R75) -/

/-- What the opening of a page comes to is told by the printer's record and its port alone. -/
theorem pageOpened_of_same {job : Job} {r : Printer} {t u : State} (h : PageOpened p job r s t)
    (hp : u.printers[p] = t.printers[p]) (hq : u.ports[p] = t.ports[p]) : PageOpened p job r s u := by
  unfold PageOpened at h ⊢
  rw [hp, hq]
  exact h

/-- A state with a job's transient count 0. -/
def withoutTransients (j : JobNo) (s : State) : State :=
  { s with jobs := put s.jobs j { s.jobs[j] with transients := 0 } }

theorem clearTransients_current (h : s.printers[p].current = some j) : clearTransients p s = withoutTransients j s := by
  unfold clearTransients
  rw [h]
  rfl

theorem clearTransients_none (h : s.printers[p].current = none) : clearTransients p s = s := by
  unfold clearTransients
  rw [h]

theorem resumePage_quiet (hm : s.printMode = .quiet) :
    resumePage p s = updPrinter s p fun r => { r with state := .quiesced } := by
  unfold resumePage
  rw [hm]

theorem resumePage_running (hm : s.printMode = .running) :
    resumePage p s = openPage p (updPrinter s p fun r => { r with state := .sending }) := by
  unfold resumePage
  rw [hm]

/-- A printer becomes SENDING and opens its current job's page: nothing outside its record and its port's send list changes
(R58). -/
theorem openPage_sending (h : s.printers[p].current = some j) :
    ∃ r x, openPage p (updPrinter s p fun r => { r with state := .sending }) =
        { s with printers := put s.printers p r, ports := put s.ports p x } ∧
      ∀ t : State, t.printers = put s.printers p r → t.ports = put s.ports p x →
        PageOpened p s.jobs[j] { s.printers[p] with state := .sending } s t := by
  let v : State := updPrinter s p fun r => { r with state := .sending }
  have hprinter : v.printers[p] = { s.printers[p] with state := .sending } := put_get ..
  obtain ⟨hopened, r, x, hopen⟩ := openPage_opened (p := p) (j := j) (s := v) (by rw [hprinter]; exact h)
  rw [hprinter, hopen] at hopened
  have hput : put v.printers p r = put s.printers p r := put_put ..
  rw [hput] at hopen hopened
  exact ⟨r, x, hopen, fun t hps hxs => pageOpened_of_same (s := s) hopened (by rw [hps]) (by rw [hxs]; rfl)⟩

/-- The current job's page resumed, its transient count 0: opened again in RUNNING, owed in QUIET (R72, R75). -/
theorem resumePage_resumed (h : s.printers[p].current = some j) :
    ∃ ps xs, resumePage p (clearTransients p s) =
        { withoutTransients j s with printers := ps, ports := xs } ∧
      (∀ t : State, t.printers = ps → t.ports = xs → s.printMode = .running →
        PageOpened p s.jobs[j] { s.printers[p] with state := .sending } s t) ∧
      (s.printMode = .quiet → ps[p] = { s.printers[p] with state := .quiesced } ∧ xs = s.ports) ∧
      ∀ q : PortNo, q ≠ p → ps[q] = s.printers[q] ∧ xs[q] = s.ports[q] := by
  rw [clearTransients_current h]
  by_cases hm : s.printMode = .running
  · have hjob : (withoutTransients j s).jobs[j] = { s.jobs[j] with transients := 0 } := put_get ..
    obtain ⟨r, x, hopen, hopened⟩ := openPage_sending (s := withoutTransients j s) h
    rw [hjob] at hopened
    exact ⟨_, _, (resumePage_running (s := withoutTransients j s) hm).trans hopen, fun t hps hxs _ => hopened t hps hxs,
      fun hq => absurd (hm.symm.trans hq) nofun,
      fun q hq => ⟨put_get_ne _ _ _ _ hq.symm, put_get_ne _ _ _ _ hq.symm⟩⟩
  · have hquiet : s.printMode = .quiet := by
      cases hmode : s.printMode with
      | running => exact absurd hmode hm
      | quiet => rfl
    exact ⟨_, _, resumePage_quiet (s := withoutTransients j s) hquiet, fun _ _ _ hrun => absurd hrun hm,
      fun _ => ⟨put_get .., rfl⟩, fun q hq => ⟨put_get_ne _ _ _ _ hq.symm, rfl⟩⟩

/-! ### CLEAR PRINTER (R72) -/

/-- The table of R72: the checks of CLEAR PRINTER in their order, with the answers they give. -/
def clearTable (c : CardNo) (s : State) : List (Prop × (Answer → Prop)) :=
  [check (∃ p : PortNo, cardNum s c 8 = p.val ∧ s.printers[p].state ≠ .absent) { outcome := .noDevice },
   check (∃ p : PortNo, cardNum s c 8 = p.val ∧ s.printers[p].state = .held) { outcome := .badState },
   check (cardStation c = 0 ∨ ∃ (p : PortNo) (j : JobNo), cardNum s c 8 = p.val ∧ s.printers[p].current = some j ∧
       s.jobs[j].owner = some (cardStation c))
     { outcome := .notPermitted }]

/-- The checks of a CLEAR PRINTER that names a port, as the table says them. -/
theorem clearChecks_table {c : CardNo} (hp : cardNum s c 8 = p.val) :
    List.Forall₂ (fun x y => (x.1 = true ↔ y.1) ∧ (x.1 = false → y.2 x.2)) (clearChecks s (cardStation c) (some p))
      (clearTable c s) := by
  have named : ∀ {q : PortNo → Prop}, (∃ k : PortNo, cardNum s c 8 = k.val ∧ q k) ↔ q p := fun {q} =>
    ⟨fun ⟨k, hk, h⟩ => Fin.ext (hp.symm.trans hk) ▸ h, fun h => ⟨p, hp, h⟩⟩
  refine .cons ⟨?_, fun _ => rfl⟩ (.cons ⟨?_, fun _ => rfl⟩ (.cons ⟨?_, fun _ => rfl⟩ .nil))
  · exact decide_eq_true_iff.trans (named (q := fun k => s.printers[k].state ≠ .absent)).symm
  · exact decide_eq_true_iff.trans (named (q := fun k => s.printers[k].state = .held)).symm
  · have hrow : (∃ (p : PortNo) (j : JobNo), cardNum s c 8 = p.val ∧ s.printers[p].current = some j ∧
        s.jobs[j].owner = some (cardStation c)) ↔
        ∃ j, s.printers[p].current = some j ∧ s.jobs[j].owner = some (cardStation c) := by
      simp only [exists_and_left]
      exact named (q := fun k => ∃ j, s.printers[k].current = some j ∧ s.jobs[j].owner = some (cardStation c))
    refine Iff.trans ?_ (or_congr_right hrow).symm
    dsimp only
    cases s.printers[p].current with
    | none => simp
    | some j => simp [or_comm]

/-- A CLEAR PRINTER that passes its checks is accepted (R72). -/
theorem serveClear_accepted {c : CardNo} (hp : cardNum s c 8 = p.val) (hheld : s.printers[p].state = .held)
    (hc : s.printers[p].current = some j) (howner : s.jobs[j].owner = some (cardStation c) ∨ cardStation c = 0) :
    serveClear c s = { state := acceptClear p s, answer := { outcome := .ok } } := by
  have hlast : (decide (s.jobs[j].owner = some (cardStation c)) || decide (cardStation c = 0)) = true := by
    rw [Bool.or_eq_true, decide_eq_true_iff, decide_eq_true_iff]
    exact howner
  have hpass : firstFailing (clearChecks s (cardStation c) (some p)) = none := by
    unfold clearChecks
    dsimp only
    rw [hheld, hc]
    dsimp only [Option.map_some, Option.getD_some]
    rw [hlast]
    rfl
  unfold serveClear port?
  dsimp only
  rw [index?_eq_some p hp, checked_pass hpass]

theorem clearPrinter_refusals {c : CardNo} (hm : MemoryOk s) (hs : Serving .clearPrinter c s) :
    FirstFailureAnswers .clearPrinter c s (clearTable c s) := by
  by_cases h : cardNum s c 8 < 8
  · have hp : cardNum s c 8 = (⟨cardNum s c 8, h⟩ : PortNo).val := rfl
    refine checked_firstFailureAnswers (f := serveClear)
      (accept := { state := acceptClear ⟨cardNum s c 8, h⟩ s, answer := { outcome := .ok } }) hm hs rfl ?_
      (clearChecks_table hp)
    unfold serveClear port?
    dsimp only
    rw [index?_eq_some _ hp]
  · refine ⟨fun _ => ?_, fun ⟨q, hq, _⟩ => absurd (hq ▸ q.isLt) h⟩
    obtain ⟨t, ht, ha⟩ := refused_answer (k := .clearPrinter) (f := serveClear) (a := { outcome := .noDevice }) hm hs (by
      unfold serveClear port?
      dsimp only
      rw [index?_eq_none (Nat.not_lt.mp h)]
      rfl)
    exact ⟨_, t, rfl, ht, ha⟩

end

/-- Settles O26: the page resumed beside the answer, and the checks by the first that fails. -/
theorem clearPrinterSendsAgain : Obligations.ClearPrinterSendsAgain := by
  refine ⟨fun c s p j hm hs hp hheld hc howner => ?_, fun c s hm hs => clearPrinter_refusals hm hs⟩
  let u : State := { s with printers := put s.printers p { s.printers[p] with hold := none } }
  have hprinter : u.printers[p] = { s.printers[p] with hold := none } := put_get ..
  obtain ⟨ps, xs, hresume, hrunning, hquiet, hother⟩ := resumePage_resumed (p := p) (j := j) (s := u)
    (by rw [hprinter]; exact hc)
  rw [hprinter] at hrunning hquiet
  have hf := serveClear_accepted hp hheld hc howner
  rw [show acceptClear p s = _ from hresume] at hf
  obtain ⟨t, ht, ha, hk, rfl⟩ := served_answer (f := serveClear) hm hs hf rfl
  refine ⟨_, ht, ha, rfl, hrunning _ rfl rfl, hquiet, fun q hq => ?_, hk, ?_⟩
  · obtain ⟨hps, hxs⟩ := hother q hq
    exact ⟨hps.trans (put_get_ne _ _ _ _ hq.symm), hxs⟩
  · exact publish_portsAlone (jobItems_transients (s := s) (j := j) 0) rfl rfl rfl

end Sys2Proof.Machine
end

section
/-! ## Arrivals (R57, R75, R83, R146) -/

namespace Sys2Proof.Machine

open Sys2Proof.Safety
open Config

section

variable {p : PortNo} {s : State} {d : DevProfile} {rest : List PortNotice}

/-! ### An ABSENT printer comes up (R57) -/

theorem popPrint_eq {n : PortNotice} (h : s.toPrint[p] = n :: rest) :
    popPrint p s = { s with toPrint := put s.toPrint p rest } := by
  unfold popPrint
  rw [h, List.tail_cons]

theorem printerArrival_absent (h : s.toPrint[p] = .arrival d :: rest) (habsent : s.printers[p].state = .absent) :
    printerArrival p s = { s with
      toPrint := put s.toPrint p rest
      printers := put s.printers p (bringUp s.printMode d s.printers[p]) } := by
  unfold printerArrival
  rw [h, List.head?_cons, popPrint_eq h]
  exact if_pos habsent

theorem bringUp_eq (mode : Mode) (d : DevProfile) (r : Printer) : bringUp mode d r =
    { state := if mode = .running then .idle else .quiesced, current := none, suspended := none
      queue := [], suspendPending := false, page := none, sent := 0, credits := 0
      window := d.further.toNat, pageTimer := none, reconnect := none, hold := none, paperLow := false } := by
  cases mode <;> rfl

/-! ### A DETACHED printer is back (R75) -/

/-- The state in which the notice of a printer's return is taken, before the page is resumed or a job chosen (R75). -/
def backState (p : PortNo) (d : DevProfile) (rest : List PortNotice) (s : State) : State :=
  { s with toPrint := put s.toPrint p rest, printers := put s.printers p (comeBack d s.printers[p]) }

/-- A printer's return resumes its current job's page, or chooses (R75). -/
theorem printerReturn_detached (h : s.toPrint[p] = .arrival d :: rest) (hdetached : s.printers[p].state = .detached) :
    printerReturn p s =
      if s.printers[p].current.isSome = true then resumePage p (clearTransients p (backState p d rest s))
      else choose p (backState p d rest s) := by
  have hprinter : (backState p d rest s).printers[p] = comeBack d s.printers[p] := put_get ..
  have hcurrent : (clearTransients p (backState p d rest s)).printers[p].current = s.printers[p].current := by
    unfold clearTransients
    split
    · rw [updJob_printers, hprinter]
      rfl
    · rw [hprinter]
      rfl
  have hback : updPrinter (popPrint p s) p (comeBack d) = backState p d rest s := by
    rw [popPrint_eq h]
    rfl
  unfold printerReturn
  rw [h, List.head?_cons]
  dsimp only
  rw [if_pos hdetached, hback, hcurrent]
  split
  · rfl
  · next hnone =>
    rw [clearTransients_none]
    rw [hprinter]
    exact Option.not_isSome_iff_eq_none.mp hnone

/-- A printer's return while a job is its current one (R75). -/
theorem printerReturn_resumes {j : JobNo} (h : s.toPrint[p] = .arrival d :: rest)
    (hdetached : s.printers[p].state = .detached) (hc : s.printers[p].current = some j) :
    ∃ ps xs, printerReturn p s = { withoutTransients j (backState p d rest s) with printers := ps, ports := xs } ∧
      (∀ t : State, t.printers = ps → t.ports = xs → s.printMode = .running →
        PageOpened p s.jobs[j] { comeBack d s.printers[p] with state := .sending } s t) ∧
      (s.printMode = .quiet → ps[p] = { comeBack d s.printers[p] with state := .quiesced } ∧ xs = s.ports) ∧
      ∀ q : PortNo, q ≠ p → ps[q] = s.printers[q] ∧ xs[q] = s.ports[q] := by
  have hprinter : (backState p d rest s).printers[p] = comeBack d s.printers[p] := put_get ..
  obtain ⟨ps, xs, hresume, hrunning, hquiet, hother⟩ := resumePage_resumed (p := p) (j := j) (s := backState p d rest s)
    (by rw [hprinter]; exact hc)
  rw [hprinter] at hrunning hquiet
  refine ⟨ps, xs, ?_, hrunning, hquiet, fun q hq => ?_⟩
  · rw [printerReturn_detached h hdetached, if_pos (by rw [hc]; rfl), hresume]
  · obtain ⟨hps, hxs⟩ := hother q hq
    exact ⟨hps.trans (put_get_ne _ _ _ _ hq.symm), hxs⟩

theorem printerReturn_reaches (h : s.toPrint[p] = .arrival d :: rest) (hdetached : s.printers[p].state = .detached) :
    let back := comeBack d s.printers[p]
    let t := publish [] s (printerReturn p s)
    (∀ j, s.printers[p].current = some j →
      t.jobs = put s.jobs j { s.jobs[j] with transients := 0 } ∧
      (s.printMode = .running → PageOpened p s.jobs[j] { back with state := .sending } s t) ∧
      (s.printMode = .quiet → t.printers[p] = { back with state := .quiesced } ∧ t.ports = s.ports)) ∧
    (s.printers[p].current = none →
      let m := { s with printers := put s.printers p back }
      Chose p m t ∧ t.jobs = chosenJobs p m) ∧
    (∀ q : PortNo, q ≠ p → t.printers[q] = s.printers[q] ∧ t.ports[q] = s.ports[q]) ∧
    t = { s with
      toPrint := put s.toPrint p rest, jobs := t.jobs, ports := t.ports, printers := t.printers
      portCount := t.portCount, jobCount := t.jobCount } := by
  cases hc : s.printers[p].current with
  | some j =>
    obtain ⟨ps, xs, hreturn, hrunning, hquiet, hother⟩ := printerReturn_resumes h hdetached hc
    rw [hreturn]
    refine ⟨fun k hk => ?_, nofun, hother, publish_portsJobs rfl rfl rfl⟩
    cases hk
    exact ⟨rfl, hrunning _ rfl rfl, hquiet⟩
  | none =>
    have halike : ChoiceAlike p (backState p d rest s)
        { s with printers := put s.printers p (comeBack d s.printers[p]) } :=
      ⟨rfl, fun _ _ => rfl, rfl, rfl, rfl, rfl, rfl⟩
    obtain ⟨js, ps, xs, hchoose, hchose, rfl, hother⟩ := choose_alike halike rfl
    rw [printerReturn_detached h hdetached, if_neg (by rw [hc]; exact Bool.false_ne_true), hchoose]
    refine ⟨nofun, fun _ => ⟨hchose _ rfl rfl, rfl⟩, fun q hq => ?_, publish_portsJobs rfl rfl rfl⟩
    obtain ⟨hps, hxs⟩ := hother q hq
    exact ⟨hps.trans (put_get_ne _ _ _ _ hq.symm), hxs⟩

/-! ### Scanners and panels (R83, R146) -/

theorem scannerArrival_absent (h : s.toScan[p] = .arrival d :: rest)
    (habsent : s.scanners[p].state = .absent) :
    scannerArrival p s = { s with
      toScan := put s.toScan p rest
      scanners := put s.scanners p { s.scanners[p] with state := .free, lastCode := none } } := by
  have hpop : popScan p s = { s with toScan := put s.toScan p rest } := by
    unfold popScan
    rw [h, List.tail_cons]
  unfold scannerArrival
  rw [h, List.head?_cons, hpop]
  exact if_pos habsent

theorem panelArrival_eq (h : s.toTouch[p] = .arrival d :: rest) :
    panelArrival p s =
      { s with toTouch := put s.toTouch p rest, panels := put s.panels p (some d.further.toNat) } := by
  unfold panelArrival popTouch
  rw [h]
  rfl

end

/-- Settles O49: each notice at the record it finds. -/
theorem arrivalsReachTheOwners : Obligations.ArrivalsReachTheOwners := by
  refine ⟨fun p d rest s h => ⟨fun habsent => ?_, fun hdetached => ⟨_, rfl, printerReturn_reaches h hdetached⟩⟩,
    fun p d rest s h habsent => ?_, fun p d rest s h => ?_⟩
  · refine ⟨_, rfl, ?_⟩
    rw [printerArrival_absent h habsent, bringUp_eq]
    exact publish_portsOnly [] rfl rfl rfl rfl
  · refine ⟨_, rfl, ?_⟩
    rw [scannerArrival_absent h habsent]
    exact publish_portsOnly [] rfl rfl rfl rfl
  · show Host.Outcome.next (publish [] s (panelArrival p s)) = _
    rw [panelArrival_eq h]
    exact congrArg Host.Outcome.next (publish_same (fun _ => rfl) (fun _ => rfl) (fun _ => rfl) rfl)

end Sys2Proof.Machine
end

section
/-! ## Printers in quiet hours (R58, R63, R78, R80) -/

namespace Sys2Proof.Machine

open Sys2Proof.Safety
open Config

/-! ### A page opened -/

/-- A printer that opens a page has it in flight, and its state and current job are the record's (R58). -/
theorem pageOpened_record {p : PortNo} {job : Job} {r : Printer} {s t : State} (h : PageOpened p job r s t) :
    t.printers[p].state = r.state ∧ t.printers[p].current = r.current ∧ t.printers[p].page ≠ none := by
  obtain ⟨hprinter, -⟩ := h
  rw [hprinter]
  exact ⟨rfl, rfl, nofun⟩

/-- A printer with a job in its queue or its suspended slot has a job to choose (R63). -/
theorem nextJob?_of_placed {s : State} {r : Printer} (h : r.suspended ≠ none ∨ r.queue ≠ []) : nextJob? s r ≠ none := by
  unfold nextJob?
  split
  · next hqueue => exact h.resolve_right (not_not.mpr hqueue)
  · exact nofun
  · split <;> exact nofun

theorem nextJob?_of_empty {s : State} {r : Printer} (hs : r.suspended = none) (hq : r.queue = []) :
    nextJob? s r = none := by
  unfold nextJob?
  rw [hq, hs]

/-- A choice in RUNNING with a job to choose: its page is in flight (R63). -/
theorem chose_running {p : PortNo} {j : JobNo} {s t : State} (hc : Chose p s t) (hm : s.printMode = .running)
    (hj : nextJob? s s.printers[p] = some j) :
    t.printers[p].state = .sending ∧ t.printers[p].current = some j ∧ t.printers[p].page ≠ none := by
  unfold Chose at hc
  rw [hj, hm] at hc
  obtain ⟨hstate, hcurrent, hpage⟩ := pageOpened_record hc
  rw [hstate, hcurrent, chosenPrinter_some hj, hm]
  exact ⟨rfl, rfl, hpage⟩

/-- A choice in RUNNING without a job to choose leaves the printer IDLE (R63). -/
theorem chose_idle {p : PortNo} {s t : State} (hc : Chose p s t) (hm : s.printMode = .running)
    (hj : nextJob? s s.printers[p] = none) :
    t.printers[p] = { s.printers[p] with state := .idle } ∧ t.ports[p] = s.ports[p] := by
  unfold Chose at hc
  rw [hj] at hc
  obtain ⟨hprinter, hport⟩ := hc
  rw [hprinter, chosenPrinter_none hj, hm]
  exact ⟨rfl, hport⟩

/-! ### One printer at the wake (R80) -/

/-- From `s` to `t` a printer does what R80 says of it. -/
structure Woken (p : PortNo) (s t : State) : Prop where
  stays : s.printers[p].state ≠ .quiesced → t.printers[p] = s.printers[p] ∧ t.ports[p] = s.ports[p]
  goesOn : s.printers[p].state = .quiesced → s.printers[p].current ≠ none → s.printers[p].page ≠ none →
    t.printers[p] = { s.printers[p] with state := .sending } ∧ t.ports[p] = s.ports[p]
  opens : s.printers[p].state = .quiesced → ∀ j, s.printers[p].current = some j → s.printers[p].page = none →
    PageOpened p s.jobs[j] { s.printers[p] with state := .sending } s t
  chooses : s.printers[p].state = .quiesced → s.printers[p].current = none → Chose p s t

/-- At the wake the printer chooses the job (R63, R80). -/
def Picks (s : State) (p : PortNo) (j : JobNo) : Prop :=
  s.printers[p].state = .quiesced ∧ s.printers[p].current = none ∧ nextJob? s s.printers[p] = some j

/-- What the wake of a printer comes to is told by its record and its port alone. -/
theorem Woken.of_same {p : PortNo} {s t u : State} (h : Woken p s t) (hp : u.printers[p] = t.printers[p])
    (hq : u.ports[p] = t.ports[p]) : Woken p s u where
  stays := by rw [hp, hq]; exact h.stays
  goesOn := by rw [hp, hq]; exact h.goesOn
  opens := fun hs j hj hpage => pageOpened_of_same (h.opens hs j hj hpage) hp hq
  chooses := fun hs hc => chose_of_same (h.chooses hs hc) hp hq

/-- What the wake of one printer changes beside its record and its port: the job it chooses is PRINTING. -/
structure WakeTurn (p : PortNo) (s t : State) : Prop where
  woken : Woken p s t
  others : ∀ q : PortNo, q ≠ p → t.printers[q] = s.printers[q] ∧ t.ports[q] = s.ports[q]
  picked : ∀ j, Picks s p j → t.jobs[j] = { s.jobs[j] with state := .printing }
  unpicked : ∀ j, ¬ Picks s p j → t.jobs[j] = s.jobs[j]
  frame : ∃ ps xs js, t = { s with printers := ps, ports := xs, jobs := js }

section

variable {p : PortNo} {s : State}

theorem wakePrinter_stays (hs : s.printers[p].state ≠ .quiesced) : wakePrinter s p = s := if_neg hs

theorem wakePrinter_goesOn (hs : s.printers[p].state = .quiesced) (hc : s.printers[p].current ≠ none)
    (hpage : s.printers[p].page ≠ none) :
    wakePrinter s p = { s with printers := put s.printers p { s.printers[p] with state := .sending } } :=
  (if_pos hs).trans ((if_pos (Option.isSome_iff_ne_none.mpr hc)).trans (if_pos (Option.isSome_iff_ne_none.mpr hpage)))

theorem wakePrinter_opens (hs : s.printers[p].state = .quiesced) (hc : s.printers[p].current ≠ none)
    (hpage : s.printers[p].page = none) :
    wakePrinter s p = openPage p (updPrinter s p fun r => { r with state := .sending }) :=
  (if_pos hs).trans ((if_pos (Option.isSome_iff_ne_none.mpr hc)).trans (if_neg (Option.not_isSome_iff_eq_none.mpr hpage)))

theorem wakePrinter_chooses (hs : s.printers[p].state = .quiesced) (hc : s.printers[p].current = none) :
    wakePrinter s p = choose p s :=
  (if_pos hs).trans (if_neg (Option.not_isSome_iff_eq_none.mpr hc))

end

/-- A printer leaves QUIET (R80). -/
theorem wakePrinter_turn (p : PortNo) (s : State) : WakeTurn p s (wakePrinter s p) := by
  have hne : ∀ {α : Type} (v : Vector α 8) (x : α) (q : PortNo), q ≠ p → (put v p x)[q] = v[q] :=
    fun v x q hq => put_get_ne _ _ _ _ hq.symm
  by_cases hs : s.printers[p].state = .quiesced
  · by_cases hc : s.printers[p].current = none
    · obtain ⟨hchose, hjobs, hother⟩ := choose_chose p s
      have hpicks : ∀ j, Picks s p j ↔ nextJob? s s.printers[p] = some j := fun j =>
        ⟨fun ⟨_, _, h⟩ => h, fun h => ⟨hs, hc, h⟩⟩
      rw [wakePrinter_chooses hs hc]
      refine ⟨⟨fun h => absurd hs h, fun _ h => absurd hc h, fun _ j h => ?_, fun _ _ => hchose⟩, hother,
        fun j hj => ?_, fun j hj => ?_, _, _, _, choose_frame p s⟩
      · exact absurd (hc.symm.trans h) nofun
      · rw [hjobs, chosenJobs_get, if_pos ((hpicks j).mp hj)]
      · rw [hjobs, chosenJobs_get, if_neg (mt (hpicks j).mpr hj)]
    · have hpicks : ∀ k, ¬ Picks s p k := fun k ⟨_, h, _⟩ => hc h
      by_cases hpage : s.printers[p].page = none
      · obtain ⟨j, hj⟩ := Option.ne_none_iff_exists'.mp hc
        obtain ⟨r, x, hopen, hopened⟩ := openPage_sending hj
        rw [wakePrinter_opens hs hc hpage, hopen]
        refine ⟨⟨fun h => absurd hs h, fun _ _ h => absurd hpage h, fun _ k hk _ => ?_, fun _ h => absurd h hc⟩,
          fun q hq => ⟨hne _ _ q hq, hne _ _ q hq⟩, fun k hk => absurd hk (hpicks k), fun _ _ => rfl, _, _, _, rfl⟩
        cases hj.symm.trans hk
        exact hopened _ rfl rfl
      · rw [wakePrinter_goesOn hs hc hpage]
        exact ⟨⟨fun h => absurd hs h, fun _ _ _ => ⟨put_get .., rfl⟩, fun _ _ _ h => absurd h hpage,
          fun _ h => absurd h hc⟩, fun q hq => ⟨hne _ _ q hq, rfl⟩, fun k hk => absurd hk (hpicks k), fun _ _ => rfl,
          _, _, _, rfl⟩
  · rw [wakePrinter_stays hs]
    exact ⟨⟨fun _ => ⟨rfl, rfl⟩, fun h => absurd h hs, fun h => absurd h hs, fun h => absurd h hs⟩,
      fun _ _ => ⟨rfl, rfl⟩, fun _ ⟨h, _⟩ => absurd h hs, fun _ _ => rfl, _, _, _, rfl⟩

/-! ### The printers one after the other -/

/-- From `s` to `t` the listed printers have left QUIET. Two of them may have chosen the same job. -/
structure WokenAll (l : List PortNo) (s t : State) : Prop where
  woken : ∀ p ∈ l, Woken p s t
  others : ∀ p ∉ l, t.printers[p] = s.printers[p] ∧ t.ports[p] = s.ports[p]
  picked : ∀ j, (∃ p ∈ l, Picks s p j) → t.jobs[j] = { s.jobs[j] with state := .printing }
  unpicked : ∀ j, (∀ p ∈ l, ¬ Picks s p j) → t.jobs[j] = s.jobs[j]
  frame : ∃ ps xs js, t = { s with printers := ps, ports := xs, jobs := js }

/-- A state whose jobs differ from those of another in their job state at most, and in nothing else that the wake of a printer
reads. -/
structure WakeAlike (p : PortNo) (s u : State) : Prop where
  printer : u.printers[p] = s.printers[p]
  port : u.ports[p] = s.ports[p]
  jobs : ∀ j : JobNo, ∃ x, u.jobs[j] = { s.jobs[j] with state := x }
  frame : ∃ ps xs js, u = { s with printers := ps, ports := xs, jobs := js }

theorem WokenAll.alike {l : List PortNo} {s u : State} (h : WokenAll l s u) {p : PortNo} (hp : p ∉ l) :
    WakeAlike p s u where
  printer := (h.others p hp).1
  port := (h.others p hp).2
  jobs := fun j => by
    by_cases hj : ∃ q ∈ l, Picks s q j
    · exact ⟨_, h.picked j hj⟩
    · exact ⟨s.jobs[j].state, h.unpicked j fun q hq hpick => hj ⟨q, hq, hpick⟩⟩
  frame := h.frame

section

variable {p : PortNo} {s u : State}

/-- A choice does not read the state of a job (R63). -/
theorem WakeAlike.nextJob_eq (h : WakeAlike p s u) (r : Printer) : nextJob? u r = nextJob? s r := by
  unfold nextJob?
  split
  · rfl
  · rfl
  · next j _ k _ _ =>
    obtain ⟨x, hx⟩ := h.jobs j
    rw [hx]

theorem WakeAlike.choiceAlike (h : WakeAlike p s u) : ChoiceAlike p { u with jobs := s.jobs } s := by
  obtain ⟨_, _, _, hu⟩ := h.frame
  refine ⟨h.printer.symm, fun _ _ => rfl, ?_, h.port.symm, ?_, ?_, ?_⟩ <;> rw [hu]

/-- Nor does the opening of its page (R58). -/
theorem WakeAlike.pageOpened (h : WakeAlike p s u) {j : JobNo} {r : Printer} {t : State}
    (ho : PageOpened p u.jobs[j] r u t) : PageOpened p s.jobs[j] r s t := by
  obtain ⟨x, hx⟩ := h.jobs j
  rw [hx] at ho
  exact h.choiceAlike.pageOpened ho

theorem WakeAlike.chose (h : WakeAlike p s u) {t : State} (hc : Chose p u t) : Chose p s t := by
  have hnext : nextJob? u u.printers[p] = nextJob? s s.printers[p] := by rw [h.nextJob_eq, h.printer]
  have hmode : u.printMode = s.printMode := h.choiceAlike.mode.symm
  have hchosen : chosenPrinter p u = chosenPrinter p s := by
    unfold chosenPrinter
    dsimp only
    rw [hnext, h.printer, hmode]
  unfold Chose at hc ⊢
  rw [hnext, hmode, hchosen, h.port] at hc
  cases hj : nextJob? s s.printers[p] with
  | none =>
    rw [hj] at hc
    exact hc
  | some j =>
    rw [hj] at hc
    cases hm : s.printMode with
    | quiet =>
      rw [hm] at hc
      exact hc
    | running =>
      rw [hm] at hc
      exact h.pageOpened hc

theorem WakeAlike.woken (h : WakeAlike p s u) {t : State} (hw : Woken p u t) : Woken p s t where
  stays := by rw [← h.printer, ← h.port]; exact hw.stays
  goesOn := by rw [← h.printer, ← h.port]; exact hw.goesOn
  opens := fun hs j hj hpage => by
    rw [← h.printer] at hs hj hpage ⊢
    exact h.pageOpened (hw.opens hs j hj hpage)
  chooses := fun hs hc => by
    rw [← h.printer] at hs hc
    exact h.chose (hw.chooses hs hc)

theorem WakeAlike.picks_iff (h : WakeAlike p s u) (j : JobNo) : Picks u p j ↔ Picks s p j := by
  unfold Picks
  rw [h.nextJob_eq, h.printer]

theorem WokenAll.turn {l : List PortNo} {t : State} (h : WokenAll l s u) (hp : p ∉ l) (ht : WakeTurn p u t) :
    WokenAll (l ++ [p]) s t := by
  have halike := h.alike hp
  have hne : ∀ {q}, q ∈ l → q ≠ p := fun hq => ne_of_mem_of_not_mem hq hp
  refine ⟨fun q hq => ?_, fun q hq => ?_, fun j hj => ?_, fun j hj => ?_, ?_⟩
  · rcases List.mem_append.mp hq with hq | hq
    · obtain ⟨hprinter, hport⟩ := ht.others q (hne hq)
      exact (h.woken q hq).of_same hprinter hport
    · cases List.mem_singleton.mp hq
      exact halike.woken ht.woken
  · obtain ⟨hql, hqp⟩ := not_or.mp (mt List.mem_append.mpr hq)
    obtain ⟨hprinter, hport⟩ := ht.others q (mt List.mem_singleton.mpr hqp)
    exact ⟨hprinter.trans (h.others q hql).1, hport.trans (h.others q hql).2⟩
  · by_cases hpick : Picks s p j
    · obtain ⟨x, hx⟩ := halike.jobs j
      rw [ht.picked j ((halike.picks_iff j).mpr hpick), hx]
    · obtain ⟨q, hq, hqj⟩ := hj
      have hql : q ∈ l := (List.mem_append.mp hq).resolve_right fun hqp =>
        hpick (List.mem_singleton.mp hqp ▸ hqj)
      rw [ht.unpicked j (mt (halike.picks_iff j).mp hpick), h.picked j ⟨q, hql, hqj⟩]
  · have hpick : ¬ Picks s p j := hj p (List.mem_append_right l (List.mem_singleton_self p))
    rw [ht.unpicked j (mt (halike.picks_iff j).mp hpick), h.unpicked j fun q hq => hj q (List.mem_append_left _ hq)]
  · obtain ⟨_, _, _, rfl⟩ := h.frame
    obtain ⟨ps, xs, js, rfl⟩ := ht.frame
    exact ⟨ps, xs, js, rfl⟩

end

/-- The wake of a list of printers, one after the other (R80). -/
theorem foldl_wakePrinter (s : State) {l : List PortNo} (hl : l.Nodup) : WokenAll l s (l.foldl wakePrinter s) := by
  induction l using List.reverseRecOn with
  | nil =>
    exact ⟨nofun, fun _ _ => ⟨rfl, rfl⟩, fun _ ⟨_, h, _⟩ => absurd h List.not_mem_nil, fun _ _ => rfl, _, _, _, rfl⟩
  | append_singleton l p ih =>
    obtain ⟨hl, -, hdisjoint⟩ := List.nodup_append.mp hl
    have hp : p ∉ l := fun h => hdisjoint p h p (List.mem_singleton_self p) rfl
    rw [List.foldl_append, List.foldl_cons, List.foldl_nil]
    exact (ih hl).turn hp (wakePrinter_turn p _)

/-- A printer record's entry into QUIET (R78). -/
theorem enterQuiet_eq (r : Printer) : enterQuiet r =
    { r with state := if r.state = .sending ∨ r.state = .idle then .quiesced else r.state } := by
  unfold enterQuiet
  split_ifs <;> rfl

/-- Settles O38: the entry record by record, and the wake printer by printer. -/
theorem printersTakeTheirQuietNotices : Obligations.PrintersTakeTheirQuietNotices := by
  refine ⟨fun s rest h => ?_, fun s rest h => ?_⟩
  · have henter : printersEnterQuiet s =
        { s with quietPrint := rest, printMode := .quiet, printers := s.printers.map enterQuiet } := by
      unfold printersEnterQuiet
      rw [h]
    refine ⟨_, rfl, fun p => ?_, ?_⟩
    · rw [henter]
      show (s.printers.map enterQuiet)[p.val] = _
      rw [Vector.getElem_map]
      exact enterQuiet_eq _
    · rw [henter]
      exact publish_portsOnly [] rfl rfl rfl rfl
  · let m : State := { s with quietPrint := rest, printMode := .running }
    have hleave : printersLeaveQuiet s = (List.finRange 8).foldl wakePrinter m := by
      unfold printersLeaveQuiet
      rw [h]
    obtain ⟨hwoken, -, hpicked, hunpicked, ps, xs, js, hframe⟩ := foldl_wakePrinter m (List.nodup_finRange 8)
    rw [hframe] at hwoken hpicked hunpicked
    have hw := fun p => hwoken p (List.mem_finRange p)
    have hshow : exec .printersLeaveQuiet s =
        .next (publish [] s { m with printers := ps, ports := xs, jobs := js }) := by
      rw [← hframe, ← hleave]
      rfl
    refine ⟨_, hshow, fun p => (hw p).stays, fun p hs => ⟨(hw p).goesOn hs, fun j hj hpage => ?_, fun hc hplaced => ?_,
      fun hc => ?_, fun hc hsuspended hqueue => ?_⟩, fun j hj => ?_, publish_portsJobs rfl rfl rfl⟩
    · have hopened := (hw p).opens hs j hj hpage
      obtain ⟨hstate, hcurrent, hflight⟩ := pageOpened_record hopened
      exact ⟨hstate, hcurrent.trans hj, hflight, hopened⟩
    · obtain ⟨j, hj⟩ := Option.ne_none_iff_exists'.mp (nextJob?_of_placed (s := m) hplaced)
      obtain ⟨hstate, hcurrent, hflight⟩ := chose_running ((hw p).chooses hs hc) rfl hj
      have hjob := hpicked j ⟨p, List.mem_finRange p, hs, hc, hj⟩
      exact ⟨hstate, hflight, j, hcurrent, congrArg Job.state hjob, hj, hjob⟩
    · have halike : ChoiceAlike p m { s with printMode := .running } := ⟨rfl, fun _ _ => rfl, rfl, rfl, rfl, rfl, rfl⟩
      exact halike.chose ((hw p).chooses hs hc)
    · exact chose_idle (s := m) ((hw p).chooses hs hc) rfl (nextJob?_of_empty hsuspended hqueue)
    · exact hunpicked j fun p _ ⟨hs, hc, hnext⟩ => hj p hs hc hnext

end Sys2Proof.Machine
end

section
/-! ## Commands by what they do to the scanner and the contact records -/

namespace Sys2Proof.Machine

open Sys2Proof.Safety
open Config

/-! ### What a Port Controller may change (R135–R146) -/

/-- The port records, the notices handed to the owners, and the rings: every other field is as before. -/
def PortsStep (s t : State) : Prop :=
  ∃ x0 x1 x2 x3 x4 x5 x6, t =
    { s with mem := x0, delivery := x1, notice := x2, ports := x3, toPrint := x4, toScan := x5, toTouch := x6 }

theorem PortsStep.refl (s : State) : PortsStep s s := ⟨_, _, _, _, _, _, _, rfl⟩

theorem PortsStep.trans {s t u : State} (h : PortsStep s t) (k : PortsStep t u) : PortsStep s u := by
  obtain ⟨_, _, _, _, _, _, _, rfl⟩ := h
  obtain ⟨_, _, _, _, _, _, _, rfl⟩ := k
  exact ⟨_, _, _, _, _, _, _, rfl⟩

theorem updPort_step (s : State) (p : PortNo) (f : Port → Port) : PortsStep s (updPort s p f) :=
  ⟨_, _, _, _, _, _, _, rfl⟩

theorem notify_step (kind : DeviceKind) (p : PortNo) (n : PortNotice) (s : State) : PortsStep s (notify kind p n s) := by
  cases kind <;> exact ⟨_, _, _, _, _, _, _, rfl⟩

theorem portChange_step (p : PortNo) (was : LinkState) (cause : LinkCause) (s : State) :
    PortsStep s (portChange p was cause s) := by
  obtain ⟨m, d, n, h⟩ :=
    giveStatus_frame 0 (.portChange p was s.ports[p].link cause s.ports[p].lost (upDevice s.ports[p])) s
  exact ⟨m, d, n, _, _, _, _, h⟩

theorem notifyArrival_step (p : PortNo) (d : DevProfile) (s : State) : PortsStep s (notifyArrival p d s) := by
  unfold notifyArrival
  dsimp only
  split
  · exact (notify_step ..).trans (notify_step ..)
  · exact notify_step ..

theorem lossOf_step (p : PortNo) (was : Port) (s : State) : PortsStep s (lossOf p was s) := by
  unfold lossOf notifyLoss
  split
  · split
    · exact notify_step ..
    · exact .refl s
  · exact .refl s

/-- A link that is lost: its port record, PORT CHANGE, and the loss handed to the owner. -/
theorem lostLink_step (p : PortNo) (f : Port → Port) (was : LinkState) (cause : LinkCause) (old : Port) (s : State) :
    PortsStep s (lossOf p old (portChange p was cause (updPort s p f))) :=
  (updPort_step ..).trans ((portChange_step ..).trans (lossOf_step ..))

theorem silenceTimerExpiry_step (p : PortNo) (s : State) : PortsStep s (silenceTimerExpiry p s) := by
  unfold silenceTimerExpiry
  dsimp only
  split
  · exact lostLink_step ..
  · exact .refl s

theorem babbledFrame_step (p : PortNo) (s : State) : PortsStep s (babbledFrame p s) := by
  unfold babbledFrame
  dsimp only
  split
  · split
    · exact (updPort_step ..).trans (lostLink_step ..)
    · exact (updPort_step ..).trans (updPort_step ..)
  · exact .refl s

theorem completeIntro_step (p : PortNo) (s : State) : PortsStep s (completeIntro p s) := by
  unfold completeIntro
  split
  · split
    · split
      · dsimp only
        split
        · exact (updPort_step ..).trans (portChange_step ..)
        · exact (updPort_step ..).trans ((portChange_step ..).trans (notifyArrival_step ..))
      · exact .refl s
    · exact .refl s
  · exact .refl s

theorem profileFrame_step (p : PortNo) (payload : List Byte) (s : State) : PortsStep s (profileFrame p payload s) := by
  unfold profileFrame
  split
  · split
    · exact (updPort_step ..).trans (completeIntro_step ..)
    · exact lostLink_step ..
    all_goals exact .refl s
  · exact .refl s

theorem profileSeenFrame_step (p : PortNo) (s : State) : PortsStep s (profileSeenFrame p s) := by
  unfold profileSeenFrame
  split
  · exact (updPort_step ..).trans (completeIntro_step ..)
  · exact .refl s

theorem attemptTimerExpiry_step (p : PortNo) (s : State) : PortsStep s (attemptTimerExpiry p s) := by
  unfold attemptTimerExpiry
  split
  · split
    · exact updPort_step ..
    · exact .refl s
  · exact .refl s

theorem profileResend_step (p : PortNo) (s : State) : PortsStep s (profileResend p s) := by
  unfold profileResend
  split
  · split
    · exact updPort_step ..
    · exact .refl s
  · exact .refl s

theorem profileSeenResend_step (p : PortNo) (s : State) : PortsStep s (profileSeenResend p s) := by
  unfold profileSeenResend
  split
  · split
    · exact updPort_step ..
    · exact .refl s
  · exact .refl s

theorem restartSilence_step (p : PortNo) (s : State) : PortsStep s (restartSilence p s) := by
  unfold restartSilence
  split
  · exact updPort_step ..
  · exact .refl s

theorem setRx_step (p : PortNo) (rx : Option (List (BitVec 4))) (s : State) : PortsStep s (setRx p rx s) :=
  updPort_step ..

/-! ### Operations outside the scanner and the contact records -/

/-- The scanner records and the contact records. -/
def routersOf (s : State) := (s.scanners, s.contacts)

/-- The scanner and the contact records are as they were. -/
def RoutersKept (s t : State) : Prop := routersOf t = routersOf s

theorem RoutersKept.trans {s t u : State} (h : RoutersKept s t) (k : RoutersKept t u) : RoutersKept s u := Eq.trans k h

theorem RoutersKept.scanners {s t : State} (h : RoutersKept s t) : t.scanners = s.scanners := congrArg Prod.fst h

theorem RoutersKept.contacts {s t : State} (h : RoutersKept s t) : t.contacts = s.contacts := congrArg Prod.snd h

theorem DeliveryStep.routers {s t : State} (h : DeliveryStep s t) : RoutersKept s t := by
  obtain ⟨_, _, _, rfl⟩ := h
  exact rfl

theorem PrintStep.routers {s t : State} (h : PrintStep s t) : RoutersKept s t := by
  obtain ⟨_, _, _, _, _, _, _, _, _, rfl⟩ := h
  exact rfl

theorem PortsStep.routers {s t : State} (h : PortsStep s t) : RoutersKept s t := by
  obtain ⟨_, _, _, _, _, _, _, rfl⟩ := h
  exact rfl

theorem printerFrame_routers (p : PortNo) (kind : Byte) (payload : List Byte) (s : State) :
    RoutersKept s (printerFrame p kind payload s) := by
  unfold printerFrame
  split
  · split
    · split
      · exact (ready_print ..).routers
      · exact rfl
    · split
      · exact (pageDone_print ..).routers
      · split
        · exact (credit_print ..).routers
        · split
          · exact (paper_print ..).routers
          · exact rfl
    · split
      · exact (pageFault_print ..).routers
      · exact rfl
    · exact rfl
  · exact rfl

theorem popPrint_routers (p : PortNo) (s : State) : RoutersKept s (popPrint p s) := rfl

theorem printerLinkLoss_routers (p : PortNo) (s : State) : RoutersKept s (printerLinkLoss p s) := by
  unfold printerLinkLoss
  split
  · split
    · exact (popPrint_routers p s).trans (losePrinter_print ..).routers
    · exact popPrint_routers p s
  · exact rfl

theorem printerArrival_routers (p : PortNo) (s : State) : RoutersKept s (printerArrival p s) := by
  unfold printerArrival
  split
  · split <;> exact rfl
  · exact rfl

theorem printerReturn_routers (p : PortNo) (s : State) : RoutersKept s (printerReturn p s) := by
  unfold printerReturn
  split
  · next d _ =>
    split
    · have back : RoutersKept s (clearTransients p (updPrinter (popPrint p s) p (comeBack d))) :=
        (popPrint_routers p s).trans ((updPrinter_print ..).trans (clearTransients_print ..)).routers
      dsimp only
      split
      · exact back.trans (resumePage_print ..).routers
      · exact back.trans (choose_print ..).routers
    · exact rfl
  · exact rfl

theorem kindChange_routers (p : PortNo) (s : State) : RoutersKept s (kindChange p s) := by
  unfold kindChange
  split
  · split
    · exact (popPrint_routers p s).trans (loseDevice_print ..).routers
    · exact popPrint_routers p s
  · exact rfl

theorem printersEnterQuiet_routers (s : State) : RoutersKept s (printersEnterQuiet s) := by
  unfold printersEnterQuiet
  split <;> exact rfl

theorem printersLeaveQuiet_routers (s : State) : RoutersKept s (printersLeaveQuiet s) := by
  unfold printersLeaveQuiet
  split
  · next rest _ =>
    exact RoutersKept.trans (t := { s with quietPrint := rest, printMode := .running }) rfl
      (foldl_rel .refl .trans _ wakePrinter_print _ _).routers
  · exact rfl

theorem enterQuietPart_routers (s : State) : RoutersKept s (enterQuietPart s) :=
  RoutersKept.trans (t := { s with part := .quiet }) rfl ((giveStatus_frame ..).routers.trans rfl)

theorem wakePart_routers (cause : WakeCause) (s : State) : RoutersKept s (wakePart cause s) :=
  RoutersKept.trans (t := { s with part := .running, wake := cause }) rfl ((giveStatus_frame ..).routers.trans rfl)

theorem wakeTouch_routers (s : State) : RoutersKept s (wakeTouch s) := by
  unfold wakeTouch
  split
  · next rest _ =>
    have taken : RoutersKept s { s with wakeReports := rest } := rfl
    dsimp only
    split
    · exact taken.trans (wakePart_routers ..)
    · exact taken
  · exact rfl

theorem panelArrival_routers (p : PortNo) (s : State) : RoutersKept s (panelArrival p s) := by
  unfold panelArrival
  split <;> exact rfl

theorem scannersLeaveQuiet_routers (s : State) : RoutersKept s (scannersLeaveQuiet s) := by
  unfold scannersLeaveQuiet
  split <;> exact rfl

theorem touchLeaveQuiet_routers (s : State) : RoutersKept s (touchLeaveQuiet s) := by
  unfold touchLeaveQuiet
  split <;> exact rfl

/-! ### Requests outside those records -/

/-- The small writes of the Print Scheduler and of the pool leave the routers' records as they are. -/
theorem routersKept_printClosed : PrintClosed RoutersKept where
  refl _ := rfl
  trans := .trans
  write st r x s _ := (writeRecord_frame st r x s).routers
  join s st r _ := (joinOwed_frame s st r).routers
  gap s st := (setGap_frame s st).routers
  printers _ _ := rfl
  jobs _ _ := rfl
  block s b := (freeBlock_print s b).routers
  holdings _ _ _ := rfl
  hand p f s _ := (hand_print p f s).routers
  withdraw p serial page s := (withdraw_print p serial page s).routers

/-- The requests that end or grant claims, or free contacts. -/
def routerRequests : List RequestKind := [.claim, .release, .setPermits, .setService]

theorem served_routers {k : RequestKind} (hk : k ∉ routerRequests) (c : CardNo) (s : State) :
    RoutersKept s (served k c s).state := by
  have closed := routersKept_printClosed
  cases k with
  | reserve =>
    refine closed.checked _ ?_
    rw [acceptReserve_eq]
    exact rfl
  | unreserve => exact closed.checked _ (closed.trans (closed.freeBlocks ..) rfl)
  | submit =>
    refine closed.checked _ ?_
    split
    · next p cls j _ _ _ =>
      exact .trans (t := updJob { s with acceptance := s.acceptance + 1 } j _) rfl
        ((commitBlocks_print ..).trans ((enqueue_print ..).trans (afterJoin_print ..))).routers
    · exact rfl
  | cancelJob =>
    refine closed.checked _ ?_
    split
    · exact closed.acceptCancel ..
    · exact rfl
  | clearPrinter =>
    refine closed.checked _ ?_
    split
    · exact closed.acceptClear ..
    · exact rfl
  | setQuota =>
    show RoutersKept s (serveSetQuota c s).state
    unfold serveSetQuota
    split <;> exact rfl
  | setPrinter =>
    show RoutersKept s (serveSetPrinter c s).state
    unfold serveSetPrinter acceptSetPrinter
    split
    · dsimp only
      split <;> exact rfl
    · exact rfl
  | setScanner =>
    show RoutersKept s (serveSetScanner c s).state
    unfold serveSetScanner
    split
    · exact rfl
    · dsimp only
      split <;> exact rfl
  | setZone =>
    refine closed.checked _ ?_
    split <;> exact rfl
  | clearZone =>
    show RoutersKept s (serveClearZone c s).state
    unfold serveClearZone
    split
    · exact rfl
    · split <;> exact rfl
  | setPort =>
    show RoutersKept s (serveSetPort c s).state
    unfold serveSetPort
    dsimp only
    split
    · exact rfl
    · split <;> exact rfl
  | ackPort =>
    show RoutersKept s (serveAckPort c s).state
    unfold serveAckPort
    split <;> exact rfl
  | quiet =>
    show RoutersKept s (serveQuiet c s).state
    unfold serveQuiet
    split
    · exact enterQuietPart_routers s
    · exact rfl
  | wake =>
    show RoutersKept s (serveWake c s).state
    unfold serveWake
    split
    · exact wakePart_routers .request s
    · exact rfl
  | claim | release | setPermits | setService => exact absurd (by decide) hk

/-! ### Commands -/

/-- What a request's owning block leaves: the state as it is, or the request served and answered (R161–R163). -/
theorem requestRow_next {k : RequestKind} {s t : State} (ht : Machine.exec (requestRow k) s = .next t) :
    t = s ∨ ∃ c, t = publish (served k c s).marks s
      (answerServed c (served k c s).answer (served k c s).args (served k c s).state) := by
  rw [exec_requestRow] at ht
  by_cases hk : ∃ c, Serving k c s
  · obtain ⟨c, hc⟩ := hk
    rw [serve_serving hc] at ht
    exact .inr ⟨c, (Host.Outcome.next.inj ht).symm⟩
  · rw [serve_other fun c hc => hk ⟨c, hc⟩] at ht
    exact .inl (Host.Outcome.next.inj ht).symm

/-- A relation between states that changes outside the routers' records do not touch, and that the events of the Scan Router
and of the Touch Router, the requests served by them and the host writes keep. -/
structure RouterClosed (R : State → State → Prop) : Prop where
  outside : ∀ {s t}, RoutersKept s t → R s t
  trans : ∀ {s t u}, R s t → R t u → R s u
  scan : ∀ p payload s, R s (scan p payload s)
  idleTimerExpiry : ∀ p s, R s (idleTimerExpiry p s)
  scannerLinkLoss : ∀ p s, R s (scannerLinkLoss p s)
  scannerArrival : ∀ p s, R s (scannerArrival p s)
  scannersEnterQuiet : ∀ s, R s (scannersEnterQuiet s)
  touch : ∀ p payload s, R s (touch p payload s).state
  panelLinkLoss : ∀ p s, R s (panelLinkLoss p s).state
  touchEnterQuiet : ∀ s, R s (touchEnterQuiet s)
  request : ∀ k ∈ routerRequests, ∀ c s, R s (served k c s).state
  hostWrite : ∀ w s, R s (hostWrite w s)

section
variable {R : State → State → Prop} (h : RouterClosed R)
include h

theorem RouterClosed.refl (s : State) : R s s := h.outside rfl

theorem RouterClosed.takeFrame (p : PortNo) (kind : Byte) (payload : List Byte) (s : State) :
    R s (takeFrame p kind payload s).state := by
  unfold Machine.takeFrame
  split
  · exact h.outside (profileFrame_step ..).routers
  · split
    · exact h.outside (profileSeenFrame_step ..).routers
    · split
      · show R s (scanFrame p payload s)
        unfold scanFrame
        split
        · exact h.scan ..
        · exact h.refl s
      · split
        · unfold touchFrame
          split
          · exact h.touch ..
          · exact h.refl s
        · exact h.outside (printerFrame_routers ..)

theorem RouterClosed.frameReceived (p : PortNo) (kind : Byte) (payload : List Byte) (s : State) :
    R s (frameReceived p kind payload s).state := by
  unfold Machine.frameReceived
  split
  · exact h.trans (h.outside ((restartSilence_step p s).trans (setRx_step ..)).routers) (h.takeFrame ..)
  · exact h.refl s

theorem RouterClosed.assemble (p : PortNo) (g : GroupKind) (s : State) : R s (assemble p g s).state := by
  have rx : ∀ x, R s (setRx p x s) := fun x => h.outside (setRx_step p x s).routers
  unfold Machine.assemble
  split
  · exact rx _
  · show R s (dataGroupIn p _ _ s)
    unfold dataGroupIn
    dsimp only
    split
    · exact h.outside (babbledFrame_step ..).routers
    · exact rx _
  · unfold endFrame
    dsimp only
    split
    · exact h.trans (rx none) (h.takeFrame ..)
    · exact rx _
  · exact rx _
  · exact rx _
  all_goals exact h.refl s

theorem RouterClosed.groupReceived (p : PortNo) (g : Group) (s : State) : R s (groupReceived p g s).state := by
  have linked : R s (Machine.assemble p (groupKind g)
      (if validGroup g = true then Machine.restartSilence p s else s)).state := by
    split
    · exact h.trans (h.outside (restartSilence_step p s).routers) (h.assemble ..)
    · exact h.assemble ..
  unfold Machine.groupReceived
  split
  · split
    · exact h.trans (h.outside (updPort_step ..).routers) (h.assemble ..)
    · exact h.refl s
  · exact linked
  · exact linked
  · exact h.refl s
  · exact h.refl s

theorem RouterClosed.publish (ps : List PortNo) (s t : State) : R t (publish ps s t) := h.outside rfl

theorem RouterClosed.event {f : State → State} {s t : State} (ht : event f s = .next t) (hf : R s (f s)) : R s t :=
  Host.Outcome.next.inj ht ▸ h.trans hf (h.publish ..)

theorem RouterClosed.eventMarked {f : State → Marked} {s t : State} (ht : eventMarked f s = .next t)
    (hf : R s (f s).state) : R s t :=
  Host.Outcome.next.inj ht ▸ h.trans hf (h.publish ..)

theorem RouterClosed.row {k : RequestKind} {s t : State} (ht : Machine.exec (requestRow k) s = .next t) : R s t := by
  rcases requestRow_next ht with rfl | ⟨c, rfl⟩
  · exact h.refl _
  · by_cases hk : k ∈ routerRequests
    · exact h.trans (h.request k hk c s) (h.outside rfl)
    · exact h.trans (h.outside (served_routers hk c s)) (h.outside rfl)

/-- Such a relation holds over every command but a full reset. -/
theorem RouterClosed.exec {i : Instr} {s t : State} (ht : exec i s = .next t) (hi : i ≠ .fullReset) : R s t := by
  have write : ∀ w, (Host.Outcome.next (Machine.hostWrite w s) : Out) = .next t → R s t :=
    fun w e => Host.Outcome.next.inj e ▸ h.hostWrite w s
  cases i with
  | fullReset => exact absurd rfl hi
  | run w | softReset w | registerWriteDiscarded w | noticeWrite w | noticeMaskWrite w | hostWrite w | poolBlockWrite w
  | cardByteWrite w | cardStateWrite w | takenMarkWrite w => exact write w ht
  | takeCard =>
    exact Host.Outcome.next.inj ht ▸ h.outside
      (takeCard_induction (P := RoutersKept s) rfl (fun _ _ => rfl) fun _ _ _ => rfl)
  | reserve => exact h.row (k := .reserve) ht
  | unreserve => exact h.row (k := .unreserve) ht
  | submit => exact h.row (k := .submit) ht
  | cancelJob => exact h.row (k := .cancelJob) ht
  | clearPrinter => exact h.row (k := .clearPrinter) ht
  | claim => exact h.row (k := .claim) ht
  | release => exact h.row (k := .release) ht
  | setPermits => exact h.row (k := .setPermits) ht
  | setService => exact h.row (k := .setService) ht
  | setQuota => exact h.row (k := .setQuota) ht
  | setPrinter => exact h.row (k := .setPrinter) ht
  | setScanner => exact h.row (k := .setScanner) ht
  | setZone => exact h.row (k := .setZone) ht
  | clearZone => exact h.row (k := .clearZone) ht
  | setPort => exact h.row (k := .setPort) ht
  | ackPort => exact h.row (k := .ackPort) ht
  | quiet => exact h.row (k := .quiet) ht
  | wake => exact h.row (k := .wake) ht
  | wakeTouch => exact h.event ht (h.outside (wakeTouch_routers s))
  | printersEnterQuiet => exact h.event ht (h.outside (printersEnterQuiet_routers s))
  | scannersEnterQuiet => exact h.event ht (h.scannersEnterQuiet s)
  | touchEnterQuiet => exact h.event ht (h.touchEnterQuiet s)
  | printersLeaveQuiet => exact h.event ht (h.outside (printersLeaveQuiet_routers s))
  | scannersLeaveQuiet => exact h.event ht (h.outside (scannersLeaveQuiet_routers s))
  | touchLeaveQuiet => exact h.event ht (h.outside (touchLeaveQuiet_routers s))
  | validGroupReceived p g => exact h.eventMarked ht (h.groupReceived p g s)
  | profileResend p => exact Host.Outcome.next.inj ht ▸ h.outside (profileResend_step p s).routers
  | profileSeenResend p => exact Host.Outcome.next.inj ht ▸ h.outside (profileSeenResend_step p s).routers
  | sendFrame p => exact Host.Outcome.next.inj ht ▸ h.outside (updPort_step s p _).routers
  | paceSwitch p => exact Host.Outcome.next.inj ht ▸ h.outside (updPort_step s p _).routers
  | babbledFrame p =>
    exact h.event (f := fun s => Machine.babbledFrame p (Machine.restartSilence p s)) ht
      (h.outside ((restartSilence_step p s).trans (babbledFrame_step p _)).routers)
  | profile p payload | profileSeen p payload | pageDone p payload | credit p payload | pageFault p payload
  | ready p payload | paper p payload | scan p payload | touch p payload =>
    exact h.eventMarked ht (h.frameReceived p _ payload s)
  | attemptTimerExpiry p => exact Host.Outcome.next.inj ht ▸ h.outside (attemptTimerExpiry_step p s).routers
  | silenceTimerExpiry p => exact h.event ht (h.outside (silenceTimerExpiry_step p s).routers)
  | printerLinkLoss p => exact h.event ht (h.outside (printerLinkLoss_routers p s))
  | scannerLinkLoss p => exact h.event ht (h.scannerLinkLoss p s)
  | panelLinkLoss p => exact h.eventMarked ht (h.panelLinkLoss p s)
  | printerArrival p => exact h.event ht (h.outside (printerArrival_routers p s))
  | printerReturn p => exact h.event ht (h.outside (printerReturn_routers p s))
  | kindChange p => exact h.event ht (h.outside (kindChange_routers p s))
  | scannerArrival p => exact h.event ht (h.scannerArrival p s)
  | panelArrival p => exact h.event ht (h.outside (panelArrival_routers p s))
  | reconnectTimerExpiry p => exact h.event ht (h.outside (reconnectTimerExpiry_print p s).routers)
  | pageTimerExpiry p => exact h.event ht (h.outside (pageTimerExpiry_print p s).routers)
  | idleTimerExpiry p => exact h.event ht (h.idleTimerExpiry p s)
  | symbolGroupReceived p g => exact h.eventMarked ht (h.groupReceived p g s)
  | millisecondTick => exact Host.Outcome.next.inj ht ▸ h.outside (t := { s with time := s.time + 1 }) rfl

end

/-! ### Retirement (R10–R14) -/

theorem updStation_routers (s : State) (st : StationNo) (f : Station → Station) : RoutersKept s (updStation s st f) := rfl

theorem answerCard_routers (c : CardNo) (a : Answer) (es : List Byte) (s : State) : RoutersKept s (answerCard c a es s) :=
  rfl

theorem retireCards_routers (st : StationNo) (s : State) : RoutersKept s (retireCards st s) := by
  unfold retireCards
  exact foldl_inv (P := fun t : State => RoutersKept s t) _ (fun t c h => h.trans (answerCard_routers c _ _ t)) _ _ rfl

/-- The steps of a retirement before the claims leave the routers' records as they are. -/
theorem retireHoldings_routers (st : StationNo) (s : State) :
    RoutersKept s (updStation (retireCurrents st (retireIdleJobs st (retireBlocks st
      (retireCards st (updStation s st fun r => { r with service := .outOfService }))))) st
      fun r => { r with holdings := 0 }) :=
  (updStation_routers ..).trans ((retireCards_routers ..).trans
    ((routersKept_printClosed.retireJobs ..).trans (updStation_routers ..)))

theorem useOpen_routers (s : State) : RoutersKept s (useOpen s) := rfl

theorem reinstate_routers (st : StationNo) (s : State) : RoutersKept s (reinstate st s) := rfl

theorem freezeRing_routers (st : StationNo) (s : State) : RoutersKept s (freezeRing st s) := rfl

/-- SET SERVICE keeps what its claims' and its contacts' steps keep (R9, R13, R16). -/
theorem serveSetService_kept {R : State → State → Prop} (outside : ∀ {s t}, RoutersKept s t → R s t)
    (trans : ∀ {s t u}, R s t → R t u → R s u) (claims : ∀ st s, R s (retireClaims st s))
    (contacts : ∀ st s, R s (freeContacts st s)) (c : CardNo) (s : State) : R s (serveSetService c s).state := by
  have retired : ∀ st, R s (retire st s) := fun st => by
    rw [retire_eq]
    exact trans (outside (retireHoldings_routers st s))
      (trans (claims st _) (trans (contacts st _) (outside (freezeRing_routers st _))))
  unfold serveSetService
  split
  · unfold checked acceptSetService
    split
    · exact outside (useOpen_routers s)
    · split
      · exact trans (retired _) (outside (useOpen_routers _))
      · exact outside ((reinstate_routers _ s).trans (useOpen_routers _))
  · exact outside (useOpen_routers s)

theorem writeCardState_routers (c : CardNo) (v : Byte) (s : State) : RoutersKept s (writeCardState c v s) := by
  unfold writeCardState
  split
  · exact rfl
  · split <;> exact rfl

theorem writeMem_routers (s : State) (m : Memory) : RoutersKept s { s with mem := m } := rfl

end Sys2Proof.Machine
end

section
/-! ## Claim queues (R82, R84) -/

namespace Sys2Proof.Machine

open Sys2Proof.Safety
open Config

/-! ### One scanner record -/

theorem scannerOk_unheld {r : Scanner} (hq : r.queue = []) (hs : r.state = .free ∨ r.state = .absent) : ScannerOk r := by
  unfold ScannerOk
  rw [hq]
  refine ⟨Nat.zero_le _, List.nodup_nil, ?_⟩
  rcases hs with hs | hs <;> rw [hs]

theorem scannerOk_held {r : Scanner} {c : Claim} (hs : r.state = .held c) :
    ScannerOk r ↔ r.queue.length ≤ claimQueueMax ∧ (c.holder :: r.queue.map Wait.station).Nodup := by
  unfold ScannerOk
  rw [hs, List.nodup_cons, and_comm (a := c.holder ∉ _)]

/-- No one waits for a scanner that is not HELD (R82). -/
theorem scannerOk_queue_nil {r : Scanner} (h : ScannerOk r) (hs : claimOf r.state = none) : r.queue = [] := by
  obtain ⟨-, -, hstate⟩ := h
  cases hr : r.state with
  | held c => rw [hr] at hs; cases hs
  | free | absent => rw [hr] at hstate; exact hstate

/-- The head waiter takes the place of a holder (R92). -/
theorem scannerOk_passedOn {r : Scanner} (h : ScannerOk r) (why : ClaimEnd) (c : Claim) (now : Time) :
    ScannerOk (passedOn why c now r) := by
  obtain ⟨hlength, hnodup, -⟩ := h
  unfold passedOn
  split
  · next hq => exact scannerOk_unheld hq (.inl rfl)
  · next w rest hq =>
    rw [hq] at hlength hnodup
    exact (scannerOk_held (r := { r with state := .held _, queue := rest, grants := _, lastEnd := _ }) rfl).mpr
      ⟨(Nat.le_succ _).trans hlength, hnodup⟩

/-- Waiters leave a claim queue (R84). -/
theorem scannerOk_leave {r : Scanner} (h : ScannerOk r) (stays : Wait → Bool) :
    ScannerOk { r with queue := r.queue.filter stays } := by
  obtain ⟨hlength, hnodup, hstate⟩ := h
  have hsub : ((r.queue.filter stays).map Wait.station).Sublist (r.queue.map Wait.station) := List.filter_sublist.map _
  refine ⟨(List.length_filter_le ..).trans hlength, hnodup.sublist hsub, ?_⟩
  cases hr : r.state with
  | held c =>
    rw [hr] at hstate
    exact fun hc => hstate (hsub.subset hc)
  | free | absent =>
    rw [hr] at hstate
    dsimp only at hstate ⊢
    rw [hstate, List.filter_nil]

/-- A station that neither holds the scanner nor waits for it joins a queue with room (R84, R90). -/
theorem scannerOk_join {r : Scanner} (h : ScannerOk r) {c : Claim} (hs : r.state = .held c) {w : Wait}
    (hholder : c.holder ≠ w.station) (hwaits : w.station ∉ r.queue.map Wait.station)
    (hroom : r.queue.length < claimQueueMax) : ScannerOk { r with queue := r.queue ++ [w] } := by
  obtain ⟨-, hnodup⟩ := (scannerOk_held hs).mp h
  refine (scannerOk_held (r := { r with queue := r.queue ++ [w] }) hs).mpr
    ⟨(List.length_append ..).trans_le hroom, ?_⟩
  rw [List.map_append, ← List.cons_append, List.nodup_append_comm]
  exact List.nodup_cons.mpr
    ⟨fun hmem => (List.mem_cons.mp hmem).elim (fun he => hholder he.symm) hwaits, hnodup⟩

/-- A claim keeps its holder while its timer and its count change (R96). -/
theorem scannerOk_claim {r : Scanner} (h : ScannerOk r) {c c' : Claim} (hs : r.state = .held c)
    (hholder : c'.holder = c.holder) : ScannerOk { r with state := .held c' } := by
  rw [scannerOk_held hs, ← hholder] at h
  exact (scannerOk_held rfl).mpr h

theorem scannerOk_grantTo {r : Scanner} (h : ScannerOk r) (hs : claimOf r.state = none) (s : State) (w : Wait) :
    ScannerOk (grantTo s w r) := by
  refine (scannerOk_held (r := grantTo s w r) rfl).mpr ?_
  show r.queue.length ≤ _ ∧ (w.station :: r.queue.map Wait.station).Nodup
  rw [scannerOk_queue_nil h hs]
  exact ⟨Nat.zero_le _, List.nodup_singleton _⟩

theorem scannerOk_withdrawn {r : Scanner} (h : ScannerOk r) (why : ClaimEnd) (st : StationNo) (now : Time) :
    ScannerOk (withdrawn why st now r) := by
  cases hc : claimOf r.state with
  | none =>
    rw [withdrawn_unheld hc]
    exact h
  | some c =>
    rw [withdrawn_held hc]
    split_ifs
    · exact scannerOk_passedOn h why c now
    · exact scannerOk_leave h _

theorem tornDown_ok (why : ClaimEnd) (r : Scanner) : ScannerOk (tornDown why r) := by
  unfold tornDown
  cases r.state with
  | held c => exact scannerOk_unheld rfl (.inl rfl)
  | free => exact scannerOk_unheld rfl (.inl rfl)
  | absent => exact scannerOk_unheld rfl (.inr rfl)

/-! ### What each operation makes of the scanner records -/

theorem hand_scanners (p : PortNo) (f : OutFrame) (s : State) : (hand p f s).scanners = s.scanners :=
  (hand_print p f s).routers.scanners

theorem offer?_scanners {st : StationNo} {r : Record} {s t : State} (h : offer? st r s = some t) :
    t.scanners = s.scanners := (offer?_frame h).routers.scanners

/-- The claim queues go over in order from one state to another. -/
def ScannersKept (s t : State) : Prop := ScannersOk s → ScannersOk t

theorem scannersKept_of {s t : State} (h : t.scanners = s.scanners) : ScannersKept s t := fun hs p => by
  rw [h]
  exact hs p

/-- One scanner record replaced. -/
theorem scannersKept_put {s t : State} {p : PortNo} {r : Scanner} (ht : t.scanners = put s.scanners p r)
    (hr : ScannerOk s.scanners[p] → ScannerOk r) : ScannersKept s t := fun hs q => by
  rw [ht, Fin.getElem_fin, put_get_eq]
  split
  · exact hr (hs p)
  · exact hs q

theorem ScannersKept.trans {s t u : State} (h : ScannersKept s t) (k : ScannersKept t u) : ScannersKept s u := k ∘ h

/-- One scanner's turn. -/
theorem ScannerTurn.scannersKept {f : State → PortNo → State} {records : PortNo → Scanner → List (StationNo × Record)}
    {after : Time → Scanner → Scanner} (hf : ScannerTurn f records after)
    (hafter : ∀ now {r}, ScannerOk r → ScannerOk (after now r)) (s : State) (p : PortNo) : ScannersKept s (f s p) :=
  scannersKept_put (by rw [hf s p, given_scannersField]; rfl) (hafter s.time)

theorem endClaim_turn (c : Claim) (why : ClaimEnd) :
    ScannerTurn (fun s p => endClaim p c why s) (fun p r => endRecords p c why r) (passedOn why c) :=
  fun s p => endClaim_eq p c why s

theorem tearDown_turn {why : ClaimEnd} (hwhy : tellsHolder why = true) :
    ScannerTurn (fun s p => tearDown p why s) (fun p r => teardownRecords p why r) (fun _ r => tornDown why r) :=
  fun s p => tearDown_eq p hwhy s

theorem endClaim_scannersKept (p : PortNo) (c : Claim) (why : ClaimEnd) (s : State) :
    ScannersKept s (endClaim p c why s) :=
  (endClaim_turn c why).scannersKept (fun now _ h => scannerOk_passedOn h why c now) s p

theorem tearDown_scannersKept (p : PortNo) {why : ClaimEnd} (hwhy : tellsHolder why = true) (s : State) :
    ScannersKept s (tearDown p why s) :=
  (tearDown_turn hwhy).scannersKept (fun _ r _ => tornDown_ok why r) s p

theorem leaveQueue_scannersKept (p : PortNo) (st : StationNo) (s : State) : ScannersKept s (leaveQueue p st s) :=
  scannersKept_put (t := leaveQueue p st s) rfl fun h => scannerOk_leave h _

/-! ### Scans (R95–R98) -/

theorem verdict_scannersKept (p : PortNo) (accept : Bool) (s : State) : ScannersKept s (verdict p accept s) :=
  scannersKept_of (hand_scanners ..)

theorem countScan_scannersKept {p : PortNo} {c : Claim} {s : State} (h : s.scanners[p].state = .held c) :
    ScannersKept s (countScan p c s) := by
  unfold countScan
  dsimp only
  split
  · exact endClaim_scannersKept _ _ _ _
  · exact scannersKept_put (p := p) rfl fun hr => scannerOk_claim hr h rfl

theorem keepCode_scannersKept (p : PortNo) (y : Byte) (code : List Byte) (s : State) :
    ScannersKept s (keepCode p y code s) :=
  scannersKept_put (t := keepCode p y code s) (p := p) rfl id

theorem scanHeld_scannersKept {p : PortNo} {c : Claim} {s : State} (h : s.scanners[p].state = .held c) (y : Byte)
    (code : List Byte) : ScannersKept s (scanHeld p c y code s) := by
  unfold scanHeld
  split
  · next t ht =>
    have hscanners : (verdict p true t).scanners = s.scanners := (hand_scanners ..).trans (offer?_scanners ht)
    have hstate : (keepCode p y code (verdict p true t)).scanners[p].state = .held c := by
      refine (congrArg Scanner.state (put_get ..)).trans ?_
      rw [hscanners]
      exact h
    exact (scannersKept_of hscanners).trans ((keepCode_scannersKept _ _ _ _).trans (countScan_scannersKept hstate))
  · exact (verdict_scannersKept p false s).trans (scannersKept_of rfl)

theorem scanFree_scannersKept (p : PortNo) (y : Byte) (code : List Byte) (s : State) :
    ScannersKept s (scanFree p y code s) := by
  unfold scanFree
  split
  · split
    · next t ht =>
      exact (scannersKept_of (offer?_scanners ht)).trans
        ((verdict_scannersKept _ _ _).trans (keepCode_scannersKept _ _ _ _))
    · exact (verdict_scannersKept p false s).trans (scannersKept_of rfl)
  · exact verdict_scannersKept _ _ _

theorem scan_scannersKept (p : PortNo) (payload : List Byte) (s : State) : ScannersKept s (scan p payload s) := by
  unfold scan
  split
  · exact id
  · split
    · exact id
    · unfold takeScan
      split
      · exact verdict_scannersKept _ _ _
      · split
        · next c _ _ h => exact scanHeld_scannersKept h _ _
        · exact scanFree_scannersKept _ _ _ _
        · exact verdict_scannersKept _ _ _
        · exact id

/-! ### Timers and notices (R83, R93, R99, R100) -/

theorem idleTimerExpiry_scannersKept (p : PortNo) (s : State) : ScannersKept s (idleTimerExpiry p s) := by
  unfold idleTimerExpiry
  split
  · split
    · exact endClaim_scannersKept _ _ _ _
    · exact id
  · exact id

theorem scannerLinkLoss_scannersKept (p : PortNo) (s : State) : ScannersKept s (scannerLinkLoss p s) := by
  unfold scannerLinkLoss
  split
  · split
    · exact scannersKept_of rfl
    · have hlost : ∃ r, ScannerOk r ∧ (loseScanner p (popScan p s)).scanners = put s.scanners p r := by
        rw [loseScanner_eq, given_scannersField]
        exact ⟨_, scannerOk_unheld rfl (.inr rfl), rfl⟩
      obtain ⟨r, hr, hput⟩ := hlost
      exact scannersKept_put hput fun _ => hr
  · exact id

theorem scannerArrival_scannersKept (p : PortNo) (s : State) : ScannersKept s (scannerArrival p s) := by
  unfold scannerArrival
  split
  · split
    · next h =>
      refine scannersKept_put (p := p) rfl fun hr => ?_
      exact scannerOk_unheld (scannerOk_queue_nil (r := s.scanners[p]) hr (congrArg claimOf h)) (.inl rfl)
    · exact scannersKept_of rfl
  · exact id

theorem scannersEnterQuiet_scannersKept (s : State) : ScannersKept s (scannersEnterQuiet s) := by
  unfold scannersEnterQuiet
  split
  · next rest _ =>
    exact ScannersKept.trans (t := { s with quietScan := rest, scanMode := .quiet }) id
      (foldl_rel (R := ScannersKept) (fun _ => id) .trans _ (fun t p => tearDown_scannersKept p rfl t) _ _)
  · exact id

/-! ### Requests (R6, R13, R90, R91) -/

theorem waits_iff (r : Scanner) (st : StationNo) : waits r st = true ↔ st ∈ r.queue.map Wait.station := by
  unfold waits
  simp only [List.mem_map, List.any_eq_true, decide_eq_true_eq]

theorem holds_iff (r : Scanner) (st : StationNo) : holds r st = true ↔ ∃ c, r.state = .held c ∧ c.holder = st := by
  unfold holds
  cases r.state with
  | held c => simp [claimOf]
  | free | absent => simp [claimOf]

theorem acceptClaim_scannersKept {p : PortNo} {w : Wait} {s : State} (hholds : holds s.scanners[p] w.station = false)
    (hwaits : waits s.scanners[p] w.station = false) (wait : Bool) :
    ScannersKept s (acceptClaim p w wait s).state := by
  unfold acceptClaim
  split
  · next hfree => exact scannersKept_put (p := p) rfl fun hr => scannerOk_grantTo hr (congrArg claimOf hfree) s w
  · next c hheld =>
    split
    · split
      · next hroom =>
        refine scannersKept_put (p := p) rfl fun hr => scannerOk_join hr hheld (fun hholder => ?_) (fun hmem => ?_) hroom
        · exact Bool.false_ne_true (hholds.symm.trans ((holds_iff ..).mpr ⟨c, hheld, hholder⟩))
        · exact Bool.false_ne_true (hwaits.symm.trans ((waits_iff ..).mpr hmem))
      · exact id
    · exact id
  · exact id

theorem serveClaim_scannersKept (c : CardNo) (s : State) : ScannersKept s (serveClaim c s).state := by
  unfold serveClaim
  dsimp only
  generalize hp : index? 8 (cardNum s c 8) = port
  cases port with
  | none =>
    unfold checked
    split <;> exact id
  | some p =>
    unfold checked
    split
    · exact id
    · next hpass =>
      have hcheck := (firstFailing_none_iff _).mp hpass _ (.tail _ (.tail _ (.tail _ (.head _))))
      simp only [Bool.not_eq_true', Bool.or_eq_false_iff] at hcheck
      obtain ⟨hholds, hwaits⟩ := hcheck
      exact acceptClaim_scannersKept hholds hwaits _

theorem serveRelease_scannersKept (c : CardNo) (s : State) : ScannersKept s (serveRelease c s).state := by
  unfold serveRelease
  split
  · unfold releaseAt
    split
    · split
      · exact endClaim_scannersKept _ _ _ _
      · split
        · exact leaveQueue_scannersKept _ _ _
        · exact id
    · exact id
  · exact id

theorem serveSetPermits_scannersKept (c : CardNo) (s : State) : ScannersKept s (serveSetPermits c s).state := by
  unfold serveSetPermits
  split
  · next st _ =>
    have withdrawals : ∀ (l : List PortNo) t, ScannersKept t (l.foldl (withdrawPermit st) t) :=
      foldl_rel (fun _ => id) .trans _
        ((withdrawPermit_turn st).scannersKept fun now _ h => scannerOk_withdrawn h .permitWithdrawn st now)
    exact ScannersKept.trans (t := updStation s st fun r => { r with permits := cardByte s c 9 }) id
      ((withdrawals _ _).trans (scannersKept_of rfl))
  · exact scannersKept_of rfl

theorem retireClaims_scannersKept (st : StationNo) (s : State) : ScannersKept s (retireClaims st s) :=
  foldl_rel (R := ScannersKept) (fun _ => id) .trans _
    ((retireScanner_turn st).scannersKept fun now _ h => scannerOk_withdrawn h .retired st now) _ _

theorem serveSetService_scannersKept (c : CardNo) (s : State) : ScannersKept s (serveSetService c s).state :=
  serveSetService_kept (fun h => scannersKept_of h.scanners) .trans retireClaims_scannersKept
    (fun _ _ => scannersKept_of rfl) c s

/-! ### Every command -/

theorem softReset_scannersOk (s : State) : ScannersOk (softReset s) := fun p => by
  have hr : (softReset s).scanners[p] = softScanner ((List.finRange 8).foldl abandonPage s).scanners[p] :=
    Vector.getElem_map ..
  rw [hr]
  refine scannerOk_unheld rfl ?_
  unfold softScanner
  cases ((List.finRange 8).foldl abandonPage s).scanners[p].state with
  | absent => exact .inr rfl
  | free | held c => exact .inl rfl

theorem hostWrite_scannersKept (w : HostWrite) (s : State) : ScannersKept s (hostWrite w s) :=
  hostWrite_induction (P := ScannersKept s) w id
    (fun st v => scannersKept_of (by
      obtain ⟨_, _, _, _, _, h⟩ := takenMarkWrite_touch st v s
      rw [publish_scanners, h]))
    (fun c v _ _ => scannersKept_of ((writeMem_routers s _).trans (writeCardState_routers c v _)).scanners)
    (fun _ _ => id) (fun _ => id) (fun _ => id)
    (controlWrite_induction id (fun _ => softReset_scannersOk s) fun _ => id)

theorem TouchStep.scanners {s t : State} (h : TouchStep s t) : t.scanners = s.scanners := by
  obtain ⟨_, _, _, _, _, rfl⟩ := h
  rfl

theorem settleAll_scanners (test : Contact → Bool) (s : State) : (settleAll test s).scanners = s.scanners :=
  (settleAll_touch test s).scanners

theorem panelLinkLoss_scanners (p : PortNo) (s : State) : (panelLinkLoss p s).state.scanners = s.scanners := by
  unfold panelLinkLoss
  split
  · dsimp only
    rw [settleAll_scanners]
    rfl
  · rfl

theorem touchEnterQuiet_scanners (s : State) : (touchEnterQuiet s).scanners = s.scanners := by
  unfold touchEnterQuiet
  split
  · rw [settleAll_scanners]
  · rfl

theorem scannersKept_routerClosed : RouterClosed ScannersKept where
  outside h := scannersKept_of h.scanners
  trans := .trans
  scan := scan_scannersKept
  idleTimerExpiry := idleTimerExpiry_scannersKept
  scannerLinkLoss := scannerLinkLoss_scannersKept
  scannerArrival := scannerArrival_scannersKept
  scannersEnterQuiet := scannersEnterQuiet_scannersKept
  touch p payload s := scannersKept_of (touch_touch p payload s).scanners
  panelLinkLoss p s := scannersKept_of (panelLinkLoss_scanners p s)
  touchEnterQuiet s := scannersKept_of (touchEnterQuiet_scanners s)
  request k hk c s := by
    simp only [routerRequests, List.mem_cons, List.not_mem_nil, or_false] at hk
    rcases hk with rfl | rfl | rfl | rfl
    · exact serveClaim_scannersKept c s
    · exact serveRelease_scannersKept c s
    · exact serveSetPermits_scannersKept c s
    · exact serveSetService_scannersKept c s
  hostWrite := hostWrite_scannersKept

/-- Every command keeps the claim queues in order (R82, R84). -/
theorem exec_scannersKept {i : Instr} {s t : State} (ht : exec i s = .next t) : ScannersKept s t := by
  by_cases hi : i = .fullReset
  · subst hi
    cases ht
    exact fun _ => reset_scannersOk
  · exact scannersKept_routerClosed.exec ht hi

end Sys2Proof.Machine
end

section
/-! ## Contact keys (R109) -/

namespace Sys2Proof.Machine

open Sys2Proof.Safety
open Config

/-! ### Held keys -/

/-- The key an entry of the contact table holds (R109, R110). -/
def heldKey (c : Option Contact) : Option (PortNo × ContactId) :=
  c.bind fun r => if keyHeld r then some (r.port, r.id) else none

theorem heldKey_eq_some (c : Option Contact) (p : PortNo) (id : ContactId) :
    heldKey c = some (p, id) ↔ ∃ r, c = some r ∧ keyHeld r = true ∧ r.port = p ∧ r.id = id := by
  cases c with
  | none => exact ⟨nofun, fun ⟨_, h, _⟩ => nomatch h⟩
  | some r =>
    unfold heldKey
    simp only [Option.bind_some, Option.some.injEq, ite_eq_iff, reduceCtorEq, and_false, or_false, Prod.mk.injEq,
      exists_eq_left']

/-- At most one entry of the contact table holds a key (R109). -/
theorem keysOk_iff (s : State) : KeysOk s ↔
    ∀ (m n : ContactNo) k, heldKey s.contacts[m] = some k → heldKey s.contacts[n] = some k → m = n := by
  constructor
  · rintro h m n ⟨p, id⟩ hm hn
    obtain ⟨a, ha, hheld, rfl, rfl⟩ := (heldKey_eq_some ..).mp hm
    obtain ⟨b, hb, hheld', hport, hid⟩ := (heldKey_eq_some ..).mp hn
    exact h m n a b ha hb hheld hheld' hport.symm hid.symm
  · intro h m n a b ha hb hheld hheld' hport hid
    exact h m n (a.port, a.id) ((heldKey_eq_some ..).mpr ⟨a, ha, hheld, rfl, rfl⟩)
      ((heldKey_eq_some ..).mpr ⟨b, hb, hheld', hport.symm, hid.symm⟩)

/-- No entry of the contact table comes to hold a key. -/
structure KeysShrink (s t : State) : Prop where
  keys : ∀ n : ContactNo, heldKey t.contacts[n] = none ∨ heldKey t.contacts[n] = heldKey s.contacts[n]

theorem KeysShrink.of_contacts {s t : State} (h : t.contacts = s.contacts) : KeysShrink s t :=
  ⟨fun n => .inr (by rw [h])⟩

theorem KeysShrink.refl (s : State) : KeysShrink s s := .of_contacts rfl

theorem KeysShrink.trans {s t u : State} (h : KeysShrink s t) (k : KeysShrink t u) : KeysShrink s u where
  keys n := by
    rcases k.keys n with k | k
    · exact .inl k
    · rw [k]
      exact h.keys n

/-- A key held afterwards was held before, by the same record. -/
theorem KeysShrink.held {s t : State} (h : KeysShrink s t) {n : ContactNo} {k : PortNo × ContactId}
    (hk : heldKey t.contacts[n] = some k) : heldKey s.contacts[n] = some k := by
  rcases h.keys n with h | h
  · exact absurd (h.symm.trans hk) nofun
  · exact h.symm.trans hk

/-- The contact keys go over in order from one state to another. -/
def KeysKept (s t : State) : Prop := KeysOk s → KeysOk t

theorem KeysKept.trans {s t u : State} (h : KeysKept s t) (k : KeysKept t u) : KeysKept s u := k ∘ h

theorem KeysShrink.kept {s t : State} (h : KeysShrink s t) : KeysKept s t := fun hs =>
  (keysOk_iff t).mpr fun m n k hm hn => (keysOk_iff s).mp hs m n k (h.held hm) (h.held hn)

theorem KeysShrink.delivery {s t : State} (h : DeliveryStep s t) : KeysShrink s t := .of_contacts h.routers.contacts

/-! ### Operations that bind no key -/

theorem setContact_shrink {s : State} {n : ContactNo} {c : Option Contact}
    (h : heldKey c = none ∨ heldKey c = heldKey s.contacts[n]) : KeysShrink s (setContact s n c) where
  keys m := by
    rw [setContact_contacts, Fin.getElem_fin, put_get_eq]
    split
    · next hm => exact hm ▸ h
    · exact .inr rfl

/-- A record keeps its key while its condition stays one that holds it (R110). -/
theorem setContact_cond_shrink {s t : State} {n : ContactNo} {c : Contact} (hst : DeliveryStep s t)
    (hc : s.contacts[n] = some c) (hheld : keyHeld c = true) (cond : Contact.Condition) :
    KeysShrink s (setContact t n (some { c with cond := cond })) := by
  refine (KeysShrink.delivery hst).trans (setContact_shrink ?_)
  rw [hst.routers.contacts, hc]
  unfold heldKey
  rw [Option.bind_some, Option.bind_some, hheld]
  split
  · exact .inr rfl
  · exact .inl rfl

theorem endContact_shrink (n : ContactNo) (c : Contact) (b : Bound) (e : ContactEnd) (s : State) :
    KeysShrink s (endContact n c b e s) := by
  unfold endContact
  split
  · next t ht => exact (KeysShrink.delivery (offer?_frame ht)).trans (setContact_shrink (.inl rfl))
  · exact setContact_shrink (.inl rfl)

theorem settle_shrink (n : ContactNo) (s : State) : KeysShrink s (settle n s) := by
  unfold settle
  split
  · split
    · exact endContact_shrink ..
    · exact .refl s
    · exact setContact_shrink (.inl rfl)
    · exact setContact_shrink (.inl rfl)
  · exact .refl s

theorem endContact_unheld (n : ContactNo) (c : Contact) (b : Bound) (e : ContactEnd) (s : State) :
    heldKey (endContact n c b e s).contacts[n] = none := by
  unfold endContact
  split
  · rw [setContact_contacts, Fin.getElem_fin, put_get]
    rfl
  · rw [setContact_contacts, Fin.getElem_fin, put_get]
    rfl

/-- A settled record holds no key (R114). -/
theorem settle_unheld (n : ContactNo) (s : State) : heldKey (settle n s).contacts[n] = none := by
  unfold settle
  cases hc : s.contacts[n] with
  | none =>
    dsimp only
    rw [hc]
    rfl
  | some c =>
    dsimp only
    obtain ⟨p, id, cond⟩ := c
    cases cond with
    | live b m => exact endContact_unheld ..
    | closing b e =>
      dsimp only
      rw [hc]
      rfl
    | suppressed z st | ignored place =>
      dsimp only
      rw [setContact_contacts, Fin.getElem_fin, put_get]
      rfl

theorem moveLive_shrink {n : ContactNo} {c : Contact} {s : State} (hc : s.contacts[n] = some c)
    (hheld : keyHeld c = true) (b : Bound) (x y : Nat) : KeysShrink s (moveLive n c b x y s) := by
  unfold moveLive
  dsimp only
  split
  · split
    · next t ht => exact setContact_cond_shrink (offer?_frame ht) hc hheld _
    · exact setContact_cond_shrink (.refl s) hc hheld _
  · exact setContact_cond_shrink (.refl s) hc hheld _

theorem moveEntry_shrink (p : PortNo) (id : ContactId) (x y : Nat) (s : State) :
    KeysShrink s (moveEntry p id x y s).1 := by
  unfold moveEntry
  split
  · split
    · next c hc =>
      split
      · next b _ hcond =>
        have hheld : keyHeld c = true := by
          unfold keyHeld
          rw [hcond]
          rfl
        exact moveLive_shrink hc hheld ..
      all_goals exact .refl s
    · exact .refl s
  · exact .refl s

theorem endEntry_shrink (p : PortNo) (id : ContactId) (at? : Option (Nat × Nat)) (s : State) :
    KeysShrink s (endEntry p id at? s).1 := by
  unfold endEntry
  split
  · split
    · exact endContact_shrink ..
    · exact settle_shrink ..
  · exact .refl s

theorem flushEnd_shrink {st : StationNo} {n : ContactNo} {s t : State} (h : flushEnd st n s = some t) :
    KeysShrink s t := by
  unfold flushEnd at h
  split at h
  · split at h
    · dsimp only at h
      split at h
      · split at h
        · exact Option.some.inj h ▸ (KeysShrink.delivery (writeRecord_frame ..)).trans (setContact_shrink (.inl rfl))
        · exact absurd h nofun
      · exact Option.some.inj h ▸ .refl s
    all_goals exact Option.some.inj h ▸ .refl s
  · exact Option.some.inj h ▸ .refl s

theorem flushMove_shrink {st : StationNo} {n : ContactNo} {s t : State} (h : flushMove st n s = some t) :
    KeysShrink s t := by
  unfold flushMove at h
  split at h
  · next c hc =>
    split at h
    · next hcond =>
      have hheld : keyHeld c = true := by
        unfold keyHeld
        rw [hcond]
        rfl
      dsimp only at h
      split at h
      · split at h
        · exact Option.some.inj h ▸ setContact_cond_shrink (writeRecord_frame ..) hc hheld _
        · exact absurd h nofun
      · exact Option.some.inj h ▸ .refl s
    all_goals exact Option.some.inj h ▸ .refl s
  · exact Option.some.inj h ▸ .refl s

theorem flush_shrink (st : StationNo) (s : State) : KeysShrink s (flush st s) := by
  have owed : KeysShrink s (flushOwed st s.delivery[st].owed s).1 := .delivery (flushOwed_frame ..)
  have ends : ∀ t, KeysShrink s t → KeysShrink s (flushAll (flushEnd st) (List.finRange 32) t).1 := fun _ ht =>
    flushAll_keeps (P := KeysShrink s) (fun _ _ _ hs hu => hs.trans (flushEnd_shrink hu)) _ _ ht
  have moves : ∀ t, KeysShrink s t → KeysShrink s (flushAll (flushMove st) (List.finRange 32) t).1 := fun _ ht =>
    flushAll_keeps (P := KeysShrink s) (fun _ _ _ hs hu => hs.trans (flushMove_shrink hu)) _ _ ht
  unfold flush
  dsimp only
  split
  · split
    · exact moves _ (ends _ owed)
    · exact ends _ owed
  · exact owed

theorem takenMarkWrite_shrink (st : StationNo) (v : Nat) (s : State) : KeysShrink s (takenMarkWrite st v s) := by
  unfold takenMarkWrite
  split
  · exact KeysShrink.trans (t := updDelivery s st _) (.of_contacts rfl) (flush_shrink ..)
  · exact .refl s

theorem settleAll_shrink (test : Contact → Bool) (s : State) : KeysShrink s (settleAll test s) := by
  refine foldl_rel KeysShrink.refl .trans _ (fun t n => ?_) _ s
  split
  · split
    · exact settle_shrink ..
    · exact .refl t
  · exact .refl t

theorem freeContacts_shrink (st : StationNo) (s : State) : KeysShrink s (freeContacts st s) where
  keys n := by
    rw [freeContacts_get]
    cases s.contacts[n] with
    | none => exact .inl rfl
    | some c =>
      rw [Option.filter_some]
      split
      · exact .inr rfl
      · exact .inl rfl

/-! ### Touch-downs (R114–R117) -/

/-- No record holds the key. -/
def Unheld (p : PortNo) (id : ContactId) (s : State) : Prop := ∀ n : ContactNo, heldKey s.contacts[n] ≠ some (p, id)

/-- At most one record was bound, to the key `(p, id)`. -/
def KeyBound (p : PortNo) (id : ContactId) (s t : State) : Prop :=
  t.contacts = s.contacts ∨ ∃ n cond, t.contacts = put s.contacts n (some { port := p, id := id, cond := cond })

/-- A key that no record held is held by the one record bound to it. -/
theorem KeyBound.keysOk {p : PortNo} {id : ContactId} {s t : State} (h : KeyBound p id s t) (hs : KeysOk s)
    (hfree : Unheld p id s) : KeysOk t := by
  rcases h with h | ⟨n, cond, h⟩
  · exact (KeysShrink.of_contacts h).kept hs
  have hother : ∀ m : ContactNo, n ≠ m → heldKey t.contacts[m] = heldKey s.contacts[m] := fun m hm => by
    rw [h, Fin.getElem_fin, put_get_ne _ _ _ _ hm]
    rfl
  have hnew : ∀ k, heldKey t.contacts[n] = some k → k = (p, id) := fun k hk => by
    rw [h, Fin.getElem_fin, put_get] at hk
    obtain ⟨r, hr, -, hport, hid⟩ := (heldKey_eq_some _ k.1 k.2).mp hk
    cases hr
    exact Prod.ext hport.symm hid.symm
  have hsole : ∀ (m : ContactNo) k, heldKey t.contacts[n] = some k → heldKey t.contacts[m] = some k → n = m :=
    fun m k hn hm => by
      by_contra hne
      rw [hother m hne, hnew k hn] at hm
      exact hfree m hm
  refine (keysOk_iff t).mpr fun m m' k hm hm' => ?_
  by_cases e : n = m
  · subst e
    exact hsole m' k hm hm'
  by_cases e' : n = m'
  · subst e'
    exact (hsole m k hm' hm).symm
  rw [hother m e] at hm
  rw [hother m' e'] at hm'
  exact (keysOk_iff s).mp hs m m' k hm hm'

theorem makeContact_bound (p : PortNo) (id : ContactId) (cond : Contact.Condition) (s : State) :
    KeyBound p id s (makeContact p id cond s).1 := by
  unfold makeContact
  split
  · exact .inr ⟨_, _, rfl⟩
  · exact .inl rfl

theorem bindContact_bound (p : PortNo) (id : ContactId) (z : ZoneNo) (zn : Zone) (x y : Nat) (s : State) :
    KeyBound p id s (bindContact p id z zn x y s).1 := by
  unfold bindContact
  split
  · exact .inl rfl
  · dsimp only
    split
    · next t ht => exact .inr ⟨_, _, by rw [setContact_contacts, (offer?_frame ht).routers.contacts]⟩
    · exact .inr ⟨_, _, rfl⟩

theorem downRunning_bound (p : PortNo) (id : ContactId) (x y : Nat) (s : State) :
    KeyBound p id s (downRunning p id x y s).1 := by
  unfold downRunning
  split
  · exact makeContact_bound ..
  · split
    · exact bindContact_bound ..
    · exact makeContact_bound ..

theorem downQuiet_bound (p : PortNo) (id : ContactId) (x y : Nat) (s : State) :
    KeyBound p id s (downQuiet p id x y s).1 := by
  unfold downQuiet
  split
  · exact makeContact_bound ..
  · dsimp only
    split
    · exact makeContact_bound p id _ { s with wakeReports := _ }
    · exact makeContact_bound ..

/-- The record found for a key holds it. -/
theorem byKey?_some {s : State} {p : PortNo} {id : ContactId} {n : ContactNo} (h : byKey? s p id = some n) :
    heldKey s.contacts[n] = some (p, id) := by
  have hn := List.find?_some h
  dsimp only at hn
  split at hn
  · next r hr =>
    simp only [Bool.and_eq_true, decide_eq_true_eq] at hn
    obtain ⟨⟨hheld, hport⟩, hid⟩ := hn
    exact (heldKey_eq_some ..).mpr ⟨r, hr, hheld, hport, hid⟩
  · cases hn

theorem byKey?_none {s : State} {p : PortNo} {id : ContactId} (h : byKey? s p id = none) : Unheld p id s := fun n hn => by
  obtain ⟨r, hr, hheld, hport, hid⟩ := (heldKey_eq_some ..).mp hn
  have hfalse := List.find?_eq_none.mp h n (List.mem_finRange n)
  dsimp only at hfalse
  rw [hr] at hfalse
  exact hfalse (by simp only [hheld, hport, hid, decide_true, Bool.and_self])

/-- The key of a touch-down is held by no record once its old record is settled (R114). -/
theorem settle_byKey_unheld {s : State} {p : PortNo} {id : ContactId} {n : ContactNo} (hs : KeysOk s)
    (h : byKey? s p id = some n) : Unheld p id (settle n s) := fun m hm => by
  have hmn : m = n := (keysOk_iff s).mp hs m n _ ((settle_shrink n s).held hm) (byKey?_some h)
  rw [hmn, settle_unheld] at hm
  cases hm

theorem downEntry_keysKept (p : PortNo) (id : ContactId) (x y : Nat) (s : State) :
    KeysKept s (downEntry p id x y s).1 := fun hs => by
  unfold downEntry
  have down (t : State) : KeyBound p id t
      (match s.touchMode with | .running => downRunning p id x y t | .quiet => downQuiet p id x y t).1 := by
    split
    · exact downRunning_bound ..
    · exact downQuiet_bound ..
  cases hkey : byKey? s p id with
  | none => exact (down s).keysOk hs (byKey?_none hkey)
  | some n => exact (down (settle n s)).keysOk ((settle_shrink n s).kept hs) (settle_byKey_unheld hs hkey)

theorem touchEntry_keysKept (p : PortNo) (limit : Nat) (e : TouchEntry) (s : State) :
    KeysKept s (touchEntry p limit e s).1 := by
  unfold touchEntry
  split
  · split
    · exact id
    · split
      · exact downEntry_keysKept _ _ _ _ _
      · exact (moveEntry_shrink ..).kept
      · exact (endEntry_shrink ..).kept
      · exact (endEntry_shrink ..).kept
      · exact id
  · exact id

theorem touchAll_keysKept (p : PortNo) (limit : Nat) (l : List TouchEntry) (acc : State × Bool) :
    KeysKept acc.1 (touchAll p limit l acc).1 := by
  induction l generalizing acc with
  | nil => exact id
  | cons e rest ih =>
    exact (touchEntry_keysKept p limit e acc.1).trans
      (ih ((touchEntry p limit e acc.1).1, acc.2 || (touchEntry p limit e acc.1).2))

theorem touch_keysKept (p : PortNo) (payload : List Byte) (s : State) : KeysKept s (touch p payload s).state := by
  unfold touch
  split
  · split
    · exact id
    · exact touchAll_keysKept p _ _ (s, false)
  · exact id

theorem panelLinkLoss_shrink (p : PortNo) (s : State) : KeysShrink s (panelLinkLoss p s).state := by
  unfold panelLinkLoss
  split
  · dsimp only
    refine .trans ?_ (settleAll_shrink ..)
    exact .of_contacts rfl
  · exact .refl s

theorem touchEnterQuiet_shrink (s : State) : KeysShrink s (touchEnterQuiet s) := by
  unfold touchEnterQuiet
  split
  · next rest _ =>
    exact KeysShrink.trans (t := { s with quietTouch := rest, touchMode := .quiet }) (.of_contacts rfl)
      (settleAll_shrink ..)
  · exact .refl s

/-! ### Commands -/

theorem KeysShrink.scan {s t : State} (h : ScanStep s t) : KeysShrink s t := by
  obtain ⟨_, _, _, _, _, rfl⟩ := h
  exact .of_contacts rfl

theorem softReset_shrink (s : State) : KeysShrink s (softReset s) where
  keys n := .inl (by
    have hn : (softReset s).contacts[n] = none := Vector.getElem_replicate ..
    rw [hn]
    rfl)

theorem hostWrite_shrink (w : HostWrite) (s : State) : KeysShrink s (hostWrite w s) :=
  hostWrite_induction (P := KeysShrink s) w (.refl s)
    (fun st v => (takenMarkWrite_shrink st v s).trans (.of_contacts (publish_contacts ..)))
    (fun c v _ _ => .of_contacts ((writeMem_routers s _).trans (writeCardState_routers c v _)).contacts)
    (fun _ _ => .of_contacts rfl) (fun _ => .of_contacts rfl) (fun _ => .of_contacts rfl)
    (controlWrite_induction (.refl s) (softReset_shrink s) fun _ h => h.trans (.of_contacts rfl))

theorem scannerLinkLoss_contacts (p : PortNo) (s : State) : (scannerLinkLoss p s).contacts = s.contacts := by
  unfold scannerLinkLoss
  split
  · split
    · rfl
    · obtain ⟨_, _, _, _, _, h⟩ := loseScanner_scan p (popScan p s)
      rw [h]
      rfl
  · rfl

theorem scannerArrival_contacts (p : PortNo) (s : State) : (scannerArrival p s).contacts = s.contacts := by
  unfold scannerArrival
  split
  · split <;> rfl
  · rfl

theorem scannersEnterQuiet_shrink (s : State) : KeysShrink s (scannersEnterQuiet s) := by
  unfold scannersEnterQuiet
  split
  · next rest _ =>
    exact KeysShrink.trans (t := { s with quietScan := rest, scanMode := .quiet }) (.of_contacts rfl)
      (.scan (foldl_rel ScanStep.refl .trans _ (fun t p => tearDown_scan p .quiet t) _ _))
  · exact .refl s

theorem serveClaim_shrink (c : CardNo) (s : State) : KeysShrink s (serveClaim c s).state := by
  unfold serveClaim checked
  dsimp only
  split
  · exact .refl s
  · split
    · unfold acceptClaim
      split
      · exact .scan (grant_scan ..)
      · split
        · split
          · exact .of_contacts rfl
          · exact .refl s
        · exact .refl s
      · exact .refl s
    · exact .refl s

theorem serveRelease_shrink (c : CardNo) (s : State) : KeysShrink s (serveRelease c s).state := by
  unfold serveRelease releaseAt
  split
  · split
    · split
      · exact .scan (endClaim_scan ..)
      · split
        · exact .scan (leaveQueue_scan ..)
        · exact .refl s
    · exact .refl s
  · exact .refl s

theorem serveSetPermits_shrink (c : CardNo) (s : State) : KeysShrink s (serveSetPermits c s).state := by
  unfold serveSetPermits
  split
  · next st _ =>
    have withdrawals : ∀ (l : List PortNo) t, ScanStep t (l.foldl (withdrawPermit st) t) :=
      foldl_rel .refl .trans _ (withdrawPermit_scan st)
    exact .trans (t := updStation s st _) (.of_contacts rfl)
      (.trans (.scan (withdrawals _ _)) (.of_contacts rfl))
  · exact .of_contacts rfl

theorem keysKept_of {s t : State} (h : t.contacts = s.contacts) : KeysKept s t := (KeysShrink.of_contacts h).kept

theorem keysKept_routerClosed : RouterClosed KeysKept where
  outside h := keysKept_of h.contacts
  trans := .trans
  scan p payload s := (KeysShrink.scan (scan_scan p payload s)).kept
  idleTimerExpiry p s := (KeysShrink.scan (idleTimerExpiry_scan p s)).kept
  scannerLinkLoss p s := keysKept_of (scannerLinkLoss_contacts p s)
  scannerArrival p s := keysKept_of (scannerArrival_contacts p s)
  scannersEnterQuiet s := (scannersEnterQuiet_shrink s).kept
  touch := touch_keysKept
  panelLinkLoss p s := (panelLinkLoss_shrink p s).kept
  touchEnterQuiet s := (touchEnterQuiet_shrink s).kept
  request k hk c s := by
    simp only [routerRequests, List.mem_cons, List.not_mem_nil, or_false] at hk
    rcases hk with rfl | rfl | rfl | rfl
    · exact (serveClaim_shrink c s).kept
    · exact (serveRelease_shrink c s).kept
    · exact (serveSetPermits_shrink c s).kept
    · exact serveSetService_kept (fun h => keysKept_of h.contacts) .trans
        (fun st t => (KeysShrink.scan (retireClaims_scan st t)).kept) (fun st t => (freeContacts_shrink st t).kept) c s
  hostWrite w s := (hostWrite_shrink w s).kept

/-- Every command keeps at most one record to a key (R109). -/
theorem exec_keysKept {i : Instr} {s t : State} (ht : exec i s = .next t) : KeysKept s t := by
  by_cases hi : i = .fullReset
  · subst hi
    cases ht
    exact fun _ => reset_keysOk
  · exact keysKept_routerClosed.exec ht hi

end Sys2Proof.Machine
end

section
/-! ## The zone table and the settings (R8, R44, R87, R104, R105, R148) -/

namespace Sys2Proof.Machine

open Sys2Proof.Safety
open Config

/-! ### The zone table -/

theorem mem_activeZones {s : State} {p : PortNo} {z : ZoneNo} :
    z ∈ activeZones s p ↔ ∃ a, s.zones[z] = some a ∧ a.port = p := by
  unfold activeZones
  rw [List.mem_filter]
  cases s.zones[z] with
  | none => exact ⟨fun ⟨_, h⟩ => (nomatch h), fun ⟨_, h, _⟩ => nomatch h⟩
  | some a => simp only [List.mem_finRange, decide_eq_true_eq, true_and, Option.some.injEq, exists_eq_left']

theorem activeZones_nodup (s : State) (p : PortNo) : (activeZones s p).Nodup := (List.nodup_finRange 16).filter _

theorem mem_otherZones {s : State} {z y : ZoneNo} {p : PortNo} {a : Zone} (ha : s.zones[y] = some a) (hport : a.port = p)
    (hy : y ≠ z) : (y, a.map) ∈ otherZones s z p := by
  unfold otherZones
  refine List.mem_filterMap.mpr ⟨y, List.mem_finRange y, ?_⟩
  rw [ha]
  exact if_pos ⟨hy, hport⟩

theorem overlaps_comm (a b : Mapping) : overlaps a b = overlaps b a := by
  unfold overlaps
  rw [Bool.eq_iff_iff]
  simp only [Bool.and_eq_true, decide_eq_true_eq]
  omega

/-- Zones given up leave the table in order (R107). -/
theorem zonesOk_sub {s t : State} (hs : ZonesOk s) (h : ∀ z : ZoneNo, ∀ a, t.zones[z] = some a → s.zones[z] = some a) :
    ZonesOk t := by
  obtain ⟨hmap, hdisjoint, hcount⟩ := hs
  refine ⟨fun z a ha => hmap z a (h z a ha),
    fun y z a b ha hb => hdisjoint y z a b (h y a ha) (h z b hb), fun p => le_trans ?_ (hcount p)⟩
  refine (List.subperm_of_subset (activeZones_nodup t p) fun z hz => ?_).length_le
  obtain ⟨a, ha, hport⟩ := mem_activeZones.mp hz
  exact mem_activeZones.mpr ⟨a, h z a ha, hport⟩

/-- A zone set with limits kept, fewer than eight others on its port, and none of them overlapped (R105, R106). -/
theorem zonesOk_put {s t : State} (hs : ZonesOk s) {z : ZoneNo} {a : Zone} (ht : t.zones = put s.zones z (some a))
    (hmap : MappingOk a.map) (hroom : (otherZones s z a.port).length < zonesPerPort)
    (hclear : ∀ r ∈ otherZones s z a.port, overlaps a.map r.2 = false) : ZonesOk t := by
  obtain ⟨smap, sdisjoint, scount⟩ := hs
  have hz : t.zones[z] = some a := by rw [ht, Fin.getElem_fin, put_get]
  have hother : ∀ y : ZoneNo, y ≠ z → t.zones[y] = s.zones[y] := fun y hy => by
    rw [ht, Fin.getElem_fin, put_get_ne _ _ _ _ hy.symm]
    rfl
  have hbeside : ∀ y b, y ≠ z → t.zones[y] = some b → a.port = b.port → overlaps a.map b.map = false :=
    fun y b hy hb hport => hclear _ (mem_otherZones ((hother y hy).symm.trans hb) hport.symm hy)
  refine ⟨fun y b hb => ?_, fun x y b c hb hc hxy hport => ?_, fun p => ?_⟩
  · by_cases hy : y = z
    · subst hy
      cases hz.symm.trans hb
      exact hmap
    · exact smap y b ((hother y hy).symm.trans hb)
  · by_cases hx : x = z
    · subst hx
      cases hz.symm.trans hb
      exact hbeside y c (Ne.symm hxy) hc hport
    by_cases hy : y = z
    · subst hy
      cases hz.symm.trans hc
      rw [overlaps_comm]
      exact hbeside x b hxy hb hport.symm
    · exact sdisjoint x y b c ((hother x hx).symm.trans hb) ((hother y hy).symm.trans hc) hxy hport
  · by_cases hp : a.port = p
    · subst hp
      have hsub : activeZones t a.port ⊆ z :: (otherZones s z a.port).map Prod.fst := fun y hy => by
        obtain ⟨b, hb, hport⟩ := mem_activeZones.mp hy
        by_cases hyz : y = z
        · exact hyz ▸ List.mem_cons_self
        · exact List.mem_cons_of_mem _
            (List.mem_map_of_mem (f := Prod.fst) (mem_otherZones ((hother y hyz).symm.trans hb) hport hyz))
      have hlength := (List.subperm_of_subset (activeZones_nodup t a.port) hsub).length_le
      rw [List.length_cons, List.length_map] at hlength
      exact hlength.trans hroom
    · refine le_trans (List.subperm_of_subset (activeZones_nodup t p) fun y hy => ?_).length_le (scount p)
      obtain ⟨b, hb, hport⟩ := mem_activeZones.mp hy
      have hyz : y ≠ z := fun e => hp (by
        subst e
        cases hz.symm.trans hb
        exact hport)
      exact mem_activeZones.mpr ⟨b, (hother y hyz).symm.trans hb, hport⟩

/-- The zone table goes over in order from one state to another. -/
def ZonesKept (s t : State) : Prop := ZonesOk s → ZonesOk t

theorem zonesKept_of {s t : State} (h : t.zones = s.zones) : ZonesKept s t := fun hs =>
  zonesOk_sub hs fun z a ha => by rwa [h] at ha

theorem sizeOk_iff (n : Nat) : sizeOk n = true ↔ 1 ≤ n ∧ n ≤ 4096 := by
  unfold sizeOk
  rw [Bool.and_eq_true, decide_eq_true_eq, decide_eq_true_eq]

theorem serveSetZone_zonesKept (c : CardNo) (s : State) : ZonesKept s (serveSetZone c s).state := fun hs => by
  unfold serveSetZone
  dsimp only
  unfold checked
  split
  · exact hs
  · next hpass =>
    generalize zoneArgs s c = a at hpass ⊢
    split
    · next z p st hz hp _ =>
      have hchecks := (firstFailing_none_iff _).mp hpass
      unfold zoneChecks at hchecks
      simp only [List.forall_mem_cons, Bool.and_eq_true, decide_eq_true_eq, sizeOk_iff] at hchecks
      obtain ⟨-, -, ⟨⟨⟨hx, hx1⟩, hy⟩, hy1⟩, -, -, ⟨⟨hw, hw1⟩, hh, hh1⟩, hroom, hclear, -⟩ := hchecks
      have hrivals : rivals s a = otherZones s z p := by
        unfold rivals
        rw [hz, hp]
      unfold overlapped? at hclear
      rw [hrivals] at hroom hclear
      refine zonesOk_put hs (t := (acceptSetZone z p st a s).state) rfl ⟨hx, hx1, hy, hy1, hw, hw1, hh, hh1⟩ hroom
        fun r hr => ?_
      exact Bool.eq_false_iff.mpr (List.find?_eq_none.mp (Option.isNone_iff_eq_none.mp hclear) r hr)
    · exact hs

theorem serveClearZone_zonesKept (c : CardNo) (s : State) : ZonesKept s (serveClearZone c s).state := fun hs => by
  unfold serveClearZone
  split
  · exact hs
  · next z _ =>
    split
    · refine zonesOk_sub (t := { s with zones := put s.zones z none }) hs fun y a ha => ?_
      dsimp only at ha
      rw [Fin.getElem_fin, put_get_eq] at ha
      split at ha
      · cases ha
      · exact ha
    · exact hs

/-- Every command keeps the zone table within its limits (R104, R105). -/
theorem exec_zonesKept {i : Instr} {s t : State} (ht : exec i s = .next t) : ZonesKept s t := by
  by_cases hfull : i = .fullReset
  · subst hfull
    cases ht
    exact fun _ => reset_zonesOk
  by_cases hset : i = .setZone
  · subst hset
    rcases requestRow_next (k := .setZone) ht with rfl | ⟨c, rfl⟩
    · exact id
    · exact fun hs => zonesKept_of rfl (serveSetZone_zonesKept c s hs)
  by_cases hclear : i = .clearZone
  · subst hclear
    rcases requestRow_next (k := .clearZone) ht with rfl | ⟨c, rfl⟩
    · exact id
    · exact fun hs => zonesKept_of rfl (serveClearZone_zonesKept c s hs)
  exact zonesKept_of ((exec_configKept ht hfull).zones hset hclear)

/-! ### The settings -/

/-- The limits of a printer port's settings (R44). -/
def PrinterSettingsOk (x : PrinterSettings) : Prop := 5 ≤ x.pageTimeout ∧ x.pageTimeout ≤ 255 ∧ x.reconnectWindow ≤ 255

/-- The limits of a scanner port's settings (R87). -/
def ScannerSettingsOk (x : ScannerSettings) : Prop :=
  5 ≤ x.defaultHold ∧ x.defaultHold ≤ x.maximumHold ∧ x.maximumHold ≤ 600 ∧ x.repeatWindow ≤ 10

theorem settingsOk_iff (s : State) : SettingsOk s ↔
    (∀ st : StationNo, s.stations[st].quota ≤ quotaMax) ∧ (∀ p : PortNo, PrinterSettingsOk s.printerSet[p]) ∧
    (∀ p : PortNo, ScannerSettingsOk s.scannerSet[p]) ∧ ∀ p : PortNo, s.ports[p].advertised ≠ 0 := by
  unfold SettingsOk PrinterSettingsOk ScannerSettingsOk
  constructor
  · rintro ⟨hquota, hports⟩
    refine ⟨hquota, fun p => ?_, fun p => ?_, fun p => ?_⟩
    · obtain ⟨h1, h2, h3, -⟩ := hports p
      exact ⟨h1, h2, h3⟩
    · obtain ⟨-, -, -, h1, h2, h3, h4, -⟩ := hports p
      exact ⟨h1, h2, h3, h4⟩
    · obtain ⟨-, -, -, -, -, -, -, h⟩ := hports p
      exact h
  · rintro ⟨hquota, hprint, hscan, hset⟩
    refine ⟨hquota, fun p => ?_⟩
    obtain ⟨h1, h2, h3⟩ := hprint p
    obtain ⟨k1, k2, k3, k4⟩ := hscan p
    exact ⟨h1, h2, h3, k1, k2, k3, k4, hset p⟩

theorem clampSettings_ok (default maximum window : Nat) (st : Option StationNo) :
    ScannerSettingsOk (clampSettings default maximum st window) := by
  unfold ScannerSettingsOk clampSettings clampHold
  dsimp only
  omega

/-- A property of every entry of a table holds after one entry is replaced by one that has it. -/
theorem forall_put {α : Type} {n : Nat} {P : α → Prop} {v : Vector α n} (hv : ∀ j : Fin n, P v[j]) (i : Fin n) {x : α}
    (hx : P x) (j : Fin n) : P (put v i x)[j] := by
  rw [Fin.getElem_fin, put_get_eq]
  split
  · exact hx
  · exact hv j

theorem serveSetQuota_quota (c : CardNo) {s : State} (hs : ∀ st : StationNo, s.stations[st].quota ≤ quotaMax) :
    ∀ st : StationNo, (serveSetQuota c s).state.stations[st].quota ≤ quotaMax := by
  unfold serveSetQuota
  split
  · exact forall_put (P := fun r : Station => r.quota ≤ quotaMax) hs _ (min_le_right ..)
  · exact hs

theorem serveSetPrinter_settings (c : CardNo) {s : State} (hs : ∀ p : PortNo, PrinterSettingsOk s.printerSet[p]) :
    ∀ p : PortNo, PrinterSettingsOk (serveSetPrinter c s).state.printerSet[p] := by
  have hbyte : ∀ i, cardNum s c i ≤ 255 := fun i => Nat.le_of_lt_succ (cardByte s c i).isLt
  unfold serveSetPrinter acceptSetPrinter
  split
  · dsimp only
    have hset := forall_put (P := PrinterSettingsOk) hs ‹PortNo›
      (x := { pageTimeout := max (cardNum s c 9) 5, reconnectWindow := cardNum s c 10,
              suspendAllowed := decide (cardByte s c 11 ≠ 0) })
      ⟨le_max_right .., max_le (hbyte 9) (by decide), hbyte 10⟩
    split <;> exact hset
  · exact hs

theorem serveSetScanner_settings (c : CardNo) {s : State} (hs : ∀ p : PortNo, ScannerSettingsOk s.scannerSet[p]) :
    ∀ p : PortNo, ScannerSettingsOk (serveSetScanner c s).state.scannerSet[p] := by
  unfold serveSetScanner
  split
  · exact hs
  · dsimp only
    split
    · exact forall_put (P := ScannerSettingsOk) hs _ (clampSettings_ok ..)
    · exact hs

theorem serveSetPort_advertised (c : CardNo) {s : State} (hs : ∀ p : PortNo, s.ports[p].advertised ≠ 0) :
    ∀ p : PortNo, (serveSetPort c s).state.ports[p].advertised ≠ 0 := by
  unfold serveSetPort
  dsimp only
  split
  · exact hs
  · split
    · exact hs
    · next hset => exact forall_put (P := fun r : Port => r.advertised ≠ 0) hs _ hset

/-- The settings go over within their limits from one state to another. -/
def SettingsKept (s t : State) : Prop := SettingsOk s → SettingsOk t

/-- Every command keeps the settings within their limits (R8, R44, R87, R148). -/
theorem exec_settingsKept {i : Instr} {s t : State} (ht : exec i s = .next t) : SettingsKept s t := fun hs => by
  by_cases hfull : i = .fullReset
  · subst hfull
    cases ht
    exact reset_settingsOk
  obtain ⟨hquota, hprint, hscan, hset⟩ := (settingsOk_iff s).mp hs
  have kept := exec_configKept ht hfull
  refine (settingsOk_iff t).mpr ⟨?_, ?_, ?_, ?_⟩
  · by_cases hi : i = .setQuota
    · subst hi
      rcases requestRow_next (k := .setQuota) ht with rfl | ⟨c, rfl⟩
      · exact hquota
      · exact serveSetQuota_quota c hquota
    · exact fun st => (kept.quota hi st).trans_le (hquota st)
  · by_cases hi : i = .setPrinter
    · subst hi
      rcases requestRow_next (k := .setPrinter) ht with rfl | ⟨c, rfl⟩
      · exact hprint
      · exact serveSetPrinter_settings c hprint
    · rwa [kept.printerSet hi]
  · by_cases hi : i = .setScanner
    · subst hi
      rcases requestRow_next (k := .setScanner) ht with rfl | ⟨c, rfl⟩
      · exact hscan
      · exact serveSetScanner_settings c hscan
    · rwa [kept.scannerSet hi]
  · by_cases hi : i = .setPort
    · subst hi
      rcases requestRow_next (k := .setPort) ht with rfl | ⟨c, rfl⟩
      · exact hset
      · exact serveSetPort_advertised c hset
    · exact fun p => (kept.advertised hi p).symm ▸ hset p

/-! ### Every step -/

/-- An invariant that every command keeps is kept by every step. -/
theorem step_kept {I : State → Prop} (h : ∀ {i s t}, exec i s = .next t → I s → I t)
    (queue : ∀ s q, I s → I (s.withPending q)) (s t : State) (hs : I s) (ht : step s = .next t) : I t :=
  step_of_exec (R := fun s t => I s → I t) h (fun _ => id) queue (fun h k => k ∘ h) ht hs

/-- Settles O9: each of the four invariants is kept by every command, and so by every step. The claim queues and the
contact keys go through the events of the two routers, the zone table and the settings through their own requests. -/
theorem stepKeepsClaimsAndLimits : Obligations.StepKeepsClaimsAndLimits :=
  ⟨step_kept exec_scannersKept fun _ _ => id, step_kept exec_zonesKept fun _ _ => id,
   step_kept exec_settingsKept fun _ _ => id, step_kept exec_keysKept fun _ _ => id⟩

end Sys2Proof.Machine
end

section
/-! ## The end of a claim (R85, R92, R93) -/

namespace Sys2Proof.Machine

open Sys2Proof.Safety
open Config

/-! ### The scanner record passed on -/

theorem passedOn_nil {r : Scanner} (h : r.queue = []) (why : ClaimEnd) (c : Claim) (now : Time) :
    passedOn why c now r = { r with state := .free, lastEnd := some (why, c.serial) } := by
  unfold passedOn
  rw [h]

theorem passedOn_cons {r : Scanner} {w : Wait} {rest : List Wait} (h : r.queue = w :: rest) (why : ClaimEnd) (c : Claim)
    (now : Time) : passedOn why c now r = { r with
      state := .held
        { holder := w.station, hold := w.hold, idle := { start := now, length := w.hold * 1000 }, count := w.count
          serial := r.grants + 1 }
      queue := rest, grants := r.grants + 1, lastEnd := some (why, c.serial) } := by
  unfold passedOn
  rw [h]

theorem passedOn_lastCode (why : ClaimEnd) (c : Claim) (now : Time) (r : Scanner) :
    (passedOn why c now r).lastCode = r.lastCode := by
  unfold passedOn
  split <;> rfl

theorem passedOn_queue (why : ClaimEnd) (c : Claim) (now : Time) (r : Scanner) :
    (passedOn why c now r).queue = r.queue.tail := by
  unfold passedOn
  split
  · next hq => exact hq.trans (congrArg List.tail hq).symm
  · next hq => rw [hq, List.tail_cons]

theorem withScanners_alike (s : State) (v : Vector Scanner 8) : RingsAlike s (withScanners s v) :=
  ⟨rfl, rfl, rfl, rfl, fun _ => rfl⟩

/-- The end of a claim: the records given as in the state before, and the scanner record passed on (R92). -/
theorem endClaim_rings (p : PortNo) (c : Claim) (why : ClaimEnd) (s : State) : endClaim p c why s =
    withRings (withScanners s (put s.scanners p (passedOn why c s.time s.scanners[p])))
      (given (endRecords p c why s.scanners[p]) s) := by
  rw [endClaim_eq]
  exact (withScanners_alike s _).given _

/-- The end of a claim, published: one scanner record, the rings and the port entries change (R92). -/
theorem publish_endClaim (p : PortNo) (c : Claim) (why : ClaimEnd) (s : State) :
    ∃ n, publish [] s (endClaim p c why s) = { s with
      scanners := put s.scanners p (passedOn why c s.time s.scanners[p])
      mem := (given (endRecords p c why s.scanners[p]) s).mem
      delivery := (given (endRecords p c why s.scanners[p]) s).delivery
      notice := (given (endRecords p c why s.scanners[p]) s).notice
      portCount := n } := by
  rw [endClaim_rings]
  exact ⟨_, publish_portsOnly [] rfl rfl rfl rfl⟩

/-- A HELD scanner's idle timer expires when its length has passed (R93). -/
theorem idleTimerExpiry_held {p : PortNo} {c : Claim} {s : State} (h : s.scanners[p].state = .held c) :
    idleTimerExpiry p s =
      if c.idle.length ≤ (s.time - c.idle.start).toNat then endClaim p c .expired s else s := by
  unfold idleTimerExpiry
  rw [h]
  simp only [claimOf, timerDue, decide_eq_true_eq]
  rfl

/-- Settles O56: the claim's end in one piece, published on its port's entry. -/
theorem idleClaimsExpire : Obligations.IdleClaimsExpire := by
  intro p c s hstate
  have hexec : exec (.idleTimerExpiry p) s = .next (publish [] s (idleTimerExpiry p s)) := rfl
  rw [hexec, idleTimerExpiry_held hstate]
  refine ⟨fun hearly => ?_, fun hdue => ⟨_, rfl, ?_⟩⟩
  · rw [if_neg (Nat.not_le.mpr hearly), publish_self]
  obtain ⟨n, ht⟩ := publish_endClaim p c .expired s
  rw [if_pos hdue, ht]
  dsimp only
  rw [Fin.getElem_fin, put_get]
  refine ⟨passedOn_lastEnd .., passedOn_lastCode .., passedOn_queue .., ⟨rfl, rfl, rfl⟩, ?_, given_bytes _ s, rfl⟩
  split
  · next hq =>
    rw [passedOn_nil hq]
    have hrecords : endRecords p c .expired s.scanners[p] = [(c.holder, .claimEnded p false c.serial .expired)] := by
      unfold endRecords
      rw [grantRecords_nil hq]
      rfl
    rw [hrecords]
    exact ⟨rfl, rfl, rfl, rfl, rfl⟩
  · next hq =>
    rw [passedOn_cons hq]
    exact ⟨rfl, rfl⟩

end Sys2Proof.Machine
end

section
/-! ## RELEASE (R91, R92) -/

namespace Sys2Proof.Machine

open Sys2Proof.Safety
open Config

section

variable {c : CardNo} {s : State} {p : PortNo}

theorem serveRelease_port (hp : cardNum s c 8 = p.val) : serveRelease c s = releaseAt p (cardStation c) s := by
  unfold serveRelease
  rw [index?_eq_some p hp]

theorem serveRelease_badPort (hp : 7 < cardNum s c 8) : serveRelease c s = refuse s { outcome := .badArgument } := by
  unfold serveRelease
  rw [index?_eq_none hp]

theorem serveRelease_unheld (hp : cardNum s c 8 = p.val)
    (hstate : s.scanners[p].state = .free ∨ s.scanners[p].state = .absent) :
    serveRelease c s = refuse s { outcome := .notHolder } := by
  rw [serveRelease_port hp]
  unfold releaseAt
  rcases hstate with h | h
  · rw [h]
    rfl
  · rw [h]
    rfl

/-- RELEASE of a HELD scanner, by the station's place in the record (R91). -/
theorem serveRelease_held {claim : Claim} (hp : cardNum s c 8 = p.val) (hstate : s.scanners[p].state = .held claim) :
    serveRelease c s =
      if claim.holder = cardStation c then
        { state := endClaim p claim .released s, answer := { outcome := .ok, value := claim.serial.toNat } }
      else if cardStation c ∈ s.scanners[p].queue.map Wait.station then
        { state := leaveQueue p (cardStation c) s, answer := { outcome := .ok, detail := 1 } }
      else refuse s { outcome := .notHolder } := by
  rw [serveRelease_port hp]
  unfold releaseAt
  rw [hstate]
  simp only [claimOf, waits_iff]

/-- A released claim gives its holder no record (R91). -/
theorem endRecords_released (p : PortNo) (claim : Claim) (r : Scanner) :
    endRecords p claim .released r = grantRecords p r := rfl

theorem withRings_memory (s : State) {g : State} (h : MemoryOk g) : MemoryOk (withRings s g) := h

/-- RELEASE by the holder: the answer, the scanner passed on, and the head waiter's grant as given before the answer (R91,
R92). -/
theorem release_holder {claim : Claim} (hm : MemoryOk s) (hr : RingsOk s) (hs : Serving .release c s)
    (hp : cardNum s c 8 = p.val) (hstate : s.scanners[p].state = .held claim) (hholder : claim.holder = cardStation c) :
    ∃ t, exec .release s = .next t ∧ AnswerStands c { outcome := .ok, value := claim.serial.toNat } t ∧
      ToldThenAnswered c (given (grantRecords p s.scanners[p]) s) t ∧
      t = { s with
        mem := t.mem, cards := put s.cards c .answered, serving := none, notice := t.notice
        scanners := put s.scanners p (passedOn .released claim s.time s.scanners[p])
        delivery := t.delivery, portCount := t.portCount } := by
  have hf : serveRelease c s =
      { state := withRings (withScanners s (put s.scanners p (passedOn .released claim s.time s.scanners[p])))
          (given (grantRecords p s.scanners[p]) s)
        answer := { outcome := .ok, value := claim.serial.toNat } } := by
    rw [serveRelease_held hp hstate, if_pos hholder, endClaim_rings, endRecords_released]
  have hwf := (given_ringsWritten (grantRecords p s.scanners[p]) hm hr).memory
  obtain ⟨t, ht, hstands, hkept, rfl⟩ := served_from (withRings_memory _ hwf) hs hf
  exact ⟨_, ht, hstands, ⟨rfl, rfl, hkept⟩, publish_portsOnly [] rfl rfl rfl rfl⟩

theorem release_waiter {claim : Claim} (hm : MemoryOk s) (hs : Serving .release c s) (hp : cardNum s c 8 = p.val)
    (hstate : s.scanners[p].state = .held claim) (hholder : claim.holder ≠ cardStation c)
    (hwaits : cardStation c ∈ s.scanners[p].queue.map Wait.station) :
    ∃ t, exec .release s = .next t ∧ AnswerStands c { outcome := .ok, detail := 1 } t ∧ MemoryKept s t (AnswerField c) ∧
      t = { s with
        mem := t.mem, cards := put s.cards c .answered, serving := none
        notice := s.notice ||| stationBit (cardStation c), portCount := t.portCount
        scanners := put s.scanners p
          { s.scanners[p] with queue := s.scanners[p].queue.filter fun w => w.station ≠ cardStation c } } := by
  have hf : serveRelease c s =
      { state := leaveQueue p (cardStation c) s, answer := { outcome := .ok, detail := 1 } } := by
    rw [serveRelease_held hp hstate, if_neg hholder, if_pos hwaits]
  obtain ⟨t, ht, hstands, hkept, rfl⟩ := served_answer (f := serveRelease) hm hs hf rfl
  exact ⟨_, ht, hstands, hkept, publish_portsOnly [] rfl rfl rfl rfl⟩

end

/-- Settles O28: a refusal leaves its answer alone; the holder's release is the claim's end, told by the queue, and a
waiter's takes its entry out of the queue. -/
theorem releasePassesTheScannerOn : Obligations.ReleasePassesTheScannerOn := by
  refine ⟨fun c s hm hs => ⟨fun hp => ?_, fun p hp hstate => ?_⟩, fun c s p claim hm hr hs hp hstate =>
    ⟨fun hholder => ?_, fun hholder hwaits => ?_, fun hholder hwaits => ?_⟩⟩
  · exact refused_answer (f := serveRelease) hm hs (serveRelease_badPort hp)
  · exact refused_answer (f := serveRelease) hm hs (serveRelease_unheld hp hstate)
  · obtain ⟨t, ht, hstands, htold, hframe⟩ := release_holder hm hr hs hp hstate hholder
    have hscanners := congrArg State.scanners hframe
    have hself : t.scanners[p] = passedOn .released claim s.time s.scanners[p] := by
      rw [hscanners]
      exact put_get ..
    refine ⟨t, ht, hstands, ?_, fun hq => ?_, fun w rest hq => ?_, fun q hq => ?_, ?_, hframe.trans (by rw [hscanners])⟩
    · rw [hself, passedOn_lastEnd]
    · rw [hself, passedOn_nil hq]
      rw [grantRecords_nil hq] at htold
      exact ⟨rfl, rfl, htold⟩
    · rw [hself, passedOn_cons hq]
      rw [grantRecords_cons hq] at htold
      obtain ⟨-, -, hkept⟩ := id htold
      exact ⟨rfl, rfl, rfl, htold,
        memoryKept_trans (giveStatus_bytes w.station _ s) hkept (fun _ => .inr) fun _ => .inl⟩
    · rw [hscanners]
      exact put_get_ne _ _ _ _ (Ne.symm hq)
    · rw [hself, passedOn_lastCode]
  · exact release_waiter hm hs hp hstate hholder hwaits
  · refine refused_answer (f := serveRelease) hm hs ?_
    rw [serveRelease_held hp hstate, if_neg hholder, if_neg hwaits]

end Sys2Proof.Machine
end

section
/-! ## CLAIM (R85, R89, R90) -/

namespace Sys2Proof.Machine

open Sys2Proof.Safety
open Config

section

variable {c : CardNo} {s : State} {p : PortNo}

/-! ### The checks (R89) -/

/-- The entry that a CLAIM asks for (R90). -/
def claimWait (c : CardNo) (s : State) (p : PortNo) : Wait :=
  { station := cardStation c
    hold := if cardHalfNum s c 9 = 0 then s.scannerSet[p].defaultHold
      else min (max (cardHalfNum s c 9) 5) s.scannerSet[p].maximumHold
    count := cardNum s c 11 }

theorem serveClaim_port (hp : cardNum s c 8 = p.val) : serveClaim c s =
    checked s (claimChecks s (cardStation c) (some p)) (acceptClaim p (claimWait c s p) (cardByte s c 12 ≠ 0) s) := by
  unfold serveClaim
  rw [index?_eq_some p hp]
  rfl

theorem serveClaim_badPort (hp : 8 ≤ cardNum s c 8) : serveClaim c s =
    checked s (claimChecks s (cardStation c) none) (refuse s { outcome := .noDevice }) := by
  unfold serveClaim
  rw [index?_eq_none hp]

theorem running_iff (m : Mode) : decide (m ≠ .quiet) = true ↔ m = .running := by
  cases m <;> decide

/-- The station neither holds the scanner nor waits for it. -/
theorem claimable_iff (r : Scanner) (st : StationNo) : (!(holds r st || waits r st)) = true ↔
    st ∉ r.queue.map Wait.station ∧ ∀ held, r.state = .held held → held.holder ≠ st := by
  rw [Bool.not_eq_true', Bool.or_eq_false_iff, ← Bool.not_eq_true, ← Bool.not_eq_true, holds_iff, waits_iff, and_comm]
  exact and_congr_right fun _ => ⟨fun h held hheld hst => h ⟨held, hheld, hst⟩,
    fun h ⟨held, hheld, hst⟩ => h held hheld hst⟩

/-- A numbered port has a property exactly when some port of that number has it. -/
theorem exists_port_iff {n : Nat} (hp : n = p.val) (P : PortNo → Prop) : (∃ q : PortNo, n = q.val ∧ P q) ↔ P p :=
  ⟨fun ⟨_, hq, h⟩ => Fin.ext (hp.symm.trans hq) ▸ h, fun h => ⟨p, hp, h⟩⟩

/-- The checks of a CLAIM say what the table of R89 says: without a port of that number there is no device. -/
theorem claim_checks (c : CardNo) (s : State) (hm : MemoryOk s) (hs : Serving .claim c s) :
    FirstFailureAnswers .claim c s
      [check (s.scanMode = .running) { outcome := .quiet },
       check (∃ p : PortNo, cardNum s c 8 = p.val ∧ s.scanners[p].state ≠ .absent) { outcome := .noDevice },
       check (∃ p : PortNo, cardNum s c 8 = p.val ∧ permitted s (cardStation c) p = true) { outcome := .notPermitted },
       check (∃ p : PortNo, cardNum s c 8 = p.val ∧ cardStation c ∉ s.scanners[p].queue.map Wait.station ∧
           ∀ held, s.scanners[p].state = .held held → held.holder ≠ cardStation c)
         { outcome := .badState }] := by
  by_cases hport : cardNum s c 8 < 8
  · have hp : cardNum s c 8 = (⟨cardNum s c 8, hport⟩ : PortNo).val := rfl
    refine checked_rowsAgree hm hs rfl (serveClaim_port hp) ?_
    refine ⟨running_iff _, fun _ => rfl, fun _ => ⟨?_, fun _ => rfl, fun _ => ⟨?_, fun _ => rfl, fun _ =>
      ⟨?_, fun _ => rfl, fun _ => trivial⟩⟩⟩⟩
    · rw [exists_port_iff hp fun q => s.scanners[q].state ≠ .absent]
      exact decide_eq_true_iff
    · rw [exists_port_iff hp fun q => permitted s (cardStation c) q = true]
    · rw [exists_port_iff hp fun q => cardStation c ∉ s.scanners[q].queue.map Wait.station ∧
        ∀ held, s.scanners[q].state = .held held → held.holder ≠ cardStation c]
      exact claimable_iff ..
  · have hnone : ∀ P : PortNo → Prop, ¬ ∃ p : PortNo, cardNum s c 8 = p.val ∧ P p :=
      fun _ ⟨p, hp, _⟩ => hport (hp ▸ p.isLt)
    refine checked_rowsAgree hm hs rfl (serveClaim_badPort (Nat.not_lt.mp hport)) ?_
    exact ⟨running_iff _, fun _ => rfl, fun _ =>
      ⟨iff_of_false Bool.false_ne_true (hnone _), fun _ => rfl, fun h => absurd h (hnone _)⟩⟩

/-! ### Accepted claims (R90) -/

theorem serveClaim_accepted (hmode : s.scanMode = .running) (hp : cardNum s c 8 = p.val)
    (hpermit : permitted s (cardStation c) p = true) (hpresent : s.scanners[p].state ≠ .absent)
    (hwaits : cardStation c ∉ s.scanners[p].queue.map Wait.station)
    (hholds : ∀ held, s.scanners[p].state = .held held → held.holder ≠ cardStation c) :
    serveClaim c s = acceptClaim p (claimWait c s p) (cardByte s c 12 ≠ 0) s := by
  rw [serveClaim_port hp]
  refine checked_pass ((firstFailing_none_iff _).mpr ?_) _
  unfold claimChecks
  simp only [List.forall_mem_cons, List.not_mem_nil, false_implies, implies_true, and_true]
  exact ⟨(running_iff _).mpr hmode, decide_eq_true hpresent, hpermit, (claimable_iff ..).mpr ⟨hwaits, hholds⟩⟩

theorem acceptClaim_free (hstate : s.scanners[p].state = .free) (w : Wait) (wait : Bool) : acceptClaim p w wait s =
    { state := { s with scanners := put s.scanners p (grantTo s w s.scanners[p]) }
      answer := { outcome := .ok, value := (s.scanners[p].grants + 1).toNat } } := by
  have hgrants : (put s.scanners p (grantTo s w s.scanners[p]))[p].grants = s.scanners[p].grants + 1 :=
    congrArg Scanner.grants (put_get ..)
  unfold acceptClaim
  rw [hstate]
  dsimp only [grant, updScanner]
  rw [hgrants]

theorem acceptClaim_held {claim : Claim} (hstate : s.scanners[p].state = .held claim) (w : Wait) (wait : Bool) :
    acceptClaim p w wait s =
      if wait then
        if s.scanners[p].queue.length < 4 then
          { state := { s with
              scanners := put s.scanners p { s.scanners[p] with queue := s.scanners[p].queue ++ [w] } }
            answer := { outcome := .waiting, value := s.scanners[p].queue.length + 1 } }
        else refuse s { outcome := .queueFull }
      else refuse s { outcome := .busy } := by
  unfold acceptClaim
  rw [hstate]
  rfl

theorem claim_granted (hm : MemoryOk s) (hs : Serving .claim c s) (hmode : s.scanMode = .running)
    (hp : cardNum s c 8 = p.val) (hpermit : permitted s (cardStation c) p = true) (hstate : s.scanners[p].state = .free)
    (hwaits : cardStation c ∉ s.scanners[p].queue.map Wait.station) :
    ∃ t, exec .claim s = .next t ∧
      AnswerStands c { outcome := .ok, value := (s.scanners[p].grants + 1).toNat } t ∧ MemoryKept s t (AnswerField c) ∧
      t = { s with
        mem := t.mem, cards := put s.cards c .answered, serving := none
        notice := s.notice ||| stationBit (cardStation c), portCount := t.portCount
        scanners := put s.scanners p (grantTo s (claimWait c s p) s.scanners[p]) } := by
  have hf := (serveClaim_accepted hmode hp hpermit (hstate ▸ nofun) hwaits (hstate ▸ nofun)).trans
    (acceptClaim_free hstate _ _)
  obtain ⟨t, ht, hstands, hkept, rfl⟩ := served_answer hm hs hf rfl
  exact ⟨_, ht, hstands, hkept, publish_portsOnly [] rfl rfl rfl rfl⟩

theorem claim_held {claim : Claim} (hm : MemoryOk s) (hs : Serving .claim c s) (hmode : s.scanMode = .running)
    (hp : cardNum s c 8 = p.val) (hpermit : permitted s (cardStation c) p = true)
    (hstate : s.scanners[p].state = .held claim) (hholder : claim.holder ≠ cardStation c)
    (hwaits : cardStation c ∉ s.scanners[p].queue.map Wait.station) :
    (cardNum s c 12 ≠ 0 → s.scanners[p].queue.length < 4 →
      ∃ t, exec .claim s = .next t ∧ AnswerStands c { outcome := .waiting, value := s.scanners[p].queue.length + 1 } t ∧
        MemoryKept s t (AnswerField c) ∧
        t = { s with
          mem := t.mem, cards := put s.cards c .answered, serving := none
          notice := s.notice ||| stationBit (cardStation c), portCount := t.portCount
          scanners := put s.scanners p
            { s.scanners[p] with queue := s.scanners[p].queue ++ [claimWait c s p] } }) ∧
    (cardNum s c 12 ≠ 0 → 4 ≤ s.scanners[p].queue.length →
      ∃ t, exec .claim s = .next t ∧ OnlyAnswered c { outcome := .queueFull } s t) ∧
    (cardNum s c 12 = 0 → ∃ t, exec .claim s = .next t ∧ OnlyAnswered c { outcome := .busy } s t) := by
  have hf : serveClaim c s = _ := (serveClaim_accepted hmode hp hpermit (hstate ▸ nofun) hwaits
    (fun held h => by cases hstate.symm.trans h; exact hholder)).trans (acceptClaim_held hstate _ _)
  refine ⟨fun hwait hroom => ?_, fun hwait hfull => ?_, fun hwait => ?_⟩
  · rw [if_pos (decide_eq_true ((cardByte_ne_zero ..).mpr hwait)), if_pos hroom] at hf
    obtain ⟨t, ht, hstands, hkept, rfl⟩ := served_answer hm hs hf rfl
    exact ⟨_, ht, hstands, hkept, publish_portsOnly [] rfl rfl rfl rfl⟩
  · rw [if_pos (decide_eq_true ((cardByte_ne_zero ..).mpr hwait)), if_neg (Nat.not_lt.mpr hfull)] at hf
    exact refused_answer hm hs hf
  · rw [if_neg fun h => (cardByte_ne_zero ..).mp (of_decide_eq_true h) hwait] at hf
    exact refused_answer hm hs hf

end

/-- Settles O27: the checks say what the table says; an accepted CLAIM is a grant, an entry in the queue or a refusal by the
scanner's state, the wait flag and the room. -/
theorem claimGrantsOrWaits : Obligations.ClaimGrantsOrWaits :=
  ⟨fun _ _ _ hm hs hmode hp hpermit => ⟨claim_granted hm hs hmode hp hpermit,
    fun _ hstate hholder hwaits => claim_held hm hs hmode hp hpermit hstate hholder hwaits⟩, claim_checks⟩

end Sys2Proof.Machine
end

section
/-! ## The routers take QUIET and the wake (R100, R123) -/

namespace Sys2Proof.Machine

open Sys2Proof.Safety
open Config

/-! ### Scanners (R100) -/

/-- What a teardown for QUIET makes of a scanner record (R100). -/
theorem tornDown_quiet (r : Scanner) :
    (tornDown .quiet r).queue = [] ∧ (tornDown .quiet r).grants = r.grants ∧
    (tornDown .quiet r).lastCode = r.lastCode ∧
    (∀ claim, r.state = .held claim →
      (tornDown .quiet r).state = .free ∧ (tornDown .quiet r).lastEnd = some (.quiet, claim.serial)) ∧
    ((∀ claim, r.state ≠ .held claim) →
      (tornDown .quiet r).state = r.state ∧ (tornDown .quiet r).lastEnd = r.lastEnd) := by
  unfold tornDown
  cases hr : claimOf r.state with
  | none => exact ⟨rfl, rfl, rfl, fun claim hc => absurd (hr.symm.trans (congrArg claimOf hc)) nofun,
      fun _ => ⟨rfl, rfl⟩⟩
  | some c =>
    have hstate := claimOf_eq_some hr
    exact ⟨rfl, rfl, rfl, fun claim hc => (by cases hstate.symm.trans hc; exact ⟨rfl, rfl⟩),
      fun hno => absurd hstate (hno c)⟩

theorem quietScanner_turn :
    ScannerTurn quietScanner (fun p r => teardownRecords p .quiet r) (fun _ r => tornDown .quiet r) :=
  tearDown_turn rfl

/-- The entry into QUIET in one piece: the records given as in the state before (R100). -/
theorem scannersEnterQuiet_eq {s : State} {rest : List QuietNotice} (h : s.quietScan = .enter :: rest) :
    ∃ v : Vector Scanner 8, scannersEnterQuiet s =
        withRings (withScanners { s with quietScan := rest, scanMode := .quiet } v)
          (given ((List.finRange 8).flatMap fun p => teardownRecords p .quiet s.scanners[p]) s) ∧
      ∀ p : PortNo, v[p] = tornDown .quiet s.scanners[p] := by
  obtain ⟨v, hfold, hv⟩ := quietScanner_turn.foldl (List.finRange 8) (List.nodup_finRange 8)
    { s with quietScan := rest, scanMode := .quiet }
  refine ⟨v, ?_, fun p => (hv p).trans (if_pos (List.mem_finRange p))⟩
  unfold scannersEnterQuiet
  rw [h]
  refine hfold.trans ?_
  exact RingsAlike.given (s := s) (t := withScanners { s with quietScan := rest, scanMode := .quiet } v)
    ⟨rfl, rfl, rfl, rfl, fun _ => rfl⟩ _

theorem scannersEnterQuiet_reaches (s : State) (rest : List QuietNotice) (h : s.quietScan = .enter :: rest) :
    ∃ t, exec .scannersEnterQuiet s = .next t ∧
      (∀ p : PortNo, t.scanners[p].queue = [] ∧ t.scanners[p].grants = s.scanners[p].grants ∧
        t.scanners[p].lastCode = s.scanners[p].lastCode ∧
        (∀ claim, s.scanners[p].state = .held claim →
          t.scanners[p].state = .free ∧ t.scanners[p].lastEnd = some (.quiet, claim.serial)) ∧
        ((∀ claim, s.scanners[p].state ≠ .held claim) →
          t.scanners[p].state = s.scanners[p].state ∧ t.scanners[p].lastEnd = s.scanners[p].lastEnd)) ∧
      (let told := given ((List.finRange 8).flatMap fun p => teardownRecords p .quiet s.scanners[p]) s
       Told told t) ∧
      MemoryKept s t (fun a => ∃ st, InRing st a) ∧
      t = { s with quietScan := rest, scanMode := .quiet, scanners := t.scanners, mem := t.mem, delivery := t.delivery
                   notice := t.notice, portCount := t.portCount } := by
  obtain ⟨v, heq, hv⟩ := scannersEnterQuiet_eq h
  have hexec : exec .scannersEnterQuiet s = .next (publish [] s (scannersEnterQuiet s)) := rfl
  refine ⟨_, hexec, ?_⟩
  rw [heq]
  refine ⟨fun p => ?_, ⟨rfl, rfl, rfl⟩, given_bytes _ s, publish_portsOnly [] rfl rfl rfl rfl⟩
  rw [publish_scanners]
  show v[p].queue = [] ∧ _
  have hp := tornDown_quiet s.scanners[p]
  rw [← hv p] at hp
  exact hp

theorem scannersLeaveQuiet_reaches (s : State) (rest : List QuietNotice) (h : s.quietScan = .leave :: rest) :
    exec .scannersLeaveQuiet s = .next { s with quietScan := rest, scanMode := .running } := by
  have hexec : exec .scannersLeaveQuiet s = .next (publish [] s (scannersLeaveQuiet s)) := rfl
  rw [hexec]
  unfold scannersLeaveQuiet
  rw [h]
  exact congrArg Host.Outcome.next (publish_same (fun _ => rfl) (fun _ => rfl) (fun _ => rfl) rfl)

/-! ### Contacts (R113, R123) -/

/-- A state with the contact records and the rings of another. -/
def withContacts (s g : State) : State := { withRings s g with contacts := g.contacts }

/-- Two states agree on the contact records and on all that the giving of a record reads. -/
structure ContactsAlike (s t : State) : Prop where
  contacts : t.contacts = s.contacts
  rings : RingsAlike s t

theorem ContactsAlike.withContacts_eq {s t : State} (h : ContactsAlike s t) : withContacts t s = t := by
  unfold withContacts
  rw [h.rings.withRings_eq, ← h.contacts]

/-- The end of a contact is the same in states alike. -/
theorem ContactsAlike.cancelled {s t : State} (h : ContactsAlike s t) (n : ContactNo) :
    Safety.cancelled t n = withContacts t (Safety.cancelled s n) := by
  have hput : ∀ c, ({ t with contacts := put s.contacts n c } : State) =
      withContacts t { s with contacts := put s.contacts n c } := fun c => by
    show _ = ({ withRings t s with contacts := put s.contacts n c } : State)
    rw [h.rings.withRings_eq]
  have hsame := h.withContacts_eq.symm
  unfold Safety.cancelled
  rw [h.contacts]
  generalize s.contacts[n] = held
  match held with
  | none => exact hsame
  | some ⟨p, id, .closing b e⟩ => exact hsame
  | some ⟨p, id, .suppressed z st⟩ => exact hput none
  | some ⟨p, id, .ignored place⟩ => exact hput none
  | some ⟨p, id, .live b m⟩ =>
    dsimp only
    rw [h.rings.canWrite]
    split_ifs
    · have hwrite := h.rings.writeRecord b.station (.touch .cancel p id n b.zone b.last.pos)
      unfold stampNow at hwrite
      rw [hwrite]
      generalize Machine.writeRecord b.station _ _ s = u
      rfl
    · exact hput _

/-- The end of contacts leaves two states alike. -/
theorem ContactsAlike.step {s t u : State} (h : ContactsAlike s t) (hu : ContactsStep s u) :
    ContactsAlike u (withContacts t u) := by
  obtain ⟨_, _, _, _, rfl⟩ := hu
  exact ⟨rfl, rfl, rfl, rfl, h.rings.time, h.rings.service⟩

theorem ContactsAlike.foldl {s t : State} (h : ContactsAlike s t) (l : List ContactNo) :
    l.foldl Safety.cancelled t = withContacts t (l.foldl Safety.cancelled s) := by
  induction l generalizing s t with
  | nil => exact h.withContacts_eq.symm
  | cons n l ih =>
    rw [List.foldl_cons, List.foldl_cons, h.cancelled, ih (h.step (cancelled_step s n))]
    rfl

theorem ContactsAlike.cancelAll {s t : State} (h : ContactsAlike s t) (which : PortNo → Bool) :
    Safety.cancelAll which t = withContacts t (Safety.cancelAll which s) := by
  unfold Safety.cancelAll
  rw [h.contacts]
  exact h.foldl _

theorem cancelAll_every {s : State} {n : ContactNo} :
    (s.contacts[n] = none → (cancelAll (fun _ => true) s).contacts[n] = none) ∧
    ∀ c, s.contacts[n] = some c → EndedContact c (cancelAll (fun _ => true) s).contacts[n] := by
  unfold cancelAll
  refine ⟨fun h => (foldl_cancelled_other (fun hn => ?_) s).trans h, fun c h =>
    foldl_cancelled_listed ((List.nodup_finRange 32).filter _) (List.mem_filter.mpr ⟨List.mem_finRange n, ?_⟩) h⟩
  · have hany := (List.mem_filter.mp hn).2
    rw [h] at hany
    cases hany
  · rw [h]
    rfl

/-- The entry into QUIET in one piece (R123). -/
theorem touchEnterQuiet_eq {s : State} {rest : List QuietNotice} (h : s.quietTouch = .enter :: rest) :
    touchEnterQuiet s =
      withContacts { s with quietTouch := rest, touchMode := .quiet } (cancelAll (fun _ => true) s) := by
  unfold touchEnterQuiet
  rw [h]
  refine (settleAll_eq_cancelAll (fun _ => true) _).trans ?_
  exact ContactsAlike.cancelAll (s := s) (t := { s with quietTouch := rest, touchMode := .quiet })
    ⟨rfl, rfl, rfl, rfl, rfl, fun _ => rfl⟩ _

theorem touchEnterQuiet_reaches (s : State) (rest : List QuietNotice) (h : s.quietTouch = .enter :: rest) :
    ∃ t, exec .touchEnterQuiet s = .next t ∧
      (∀ n : ContactNo,
        (s.contacts[n] = none → t.contacts[n] = none) ∧
        ∀ c, s.contacts[n] = some c → EndedContact c t.contacts[n]) ∧
      (let told := cancelAll (fun _ => true) s
       t.contacts = told.contacts ∧ Told told t) ∧
      MemoryKept s t (fun a => ∃ st, InRing st a) ∧
      t = { s with quietTouch := rest, touchMode := .quiet, contacts := t.contacts, mem := t.mem, delivery := t.delivery
                   notice := t.notice, portCount := t.portCount } := by
  have hexec : exec .touchEnterQuiet s = .next (publish [] s (touchEnterQuiet s)) := rfl
  refine ⟨_, hexec, ?_⟩
  rw [touchEnterQuiet_eq h]
  exact ⟨fun n => cancelAll_every, ⟨rfl, rfl, rfl, rfl⟩, cancelAll_bytes _ s, publish_portsOnly [] rfl rfl rfl rfl⟩

theorem touchLeaveQuiet_reaches (s : State) (rest : List QuietNotice) (h : s.quietTouch = .leave :: rest) :
    exec .touchLeaveQuiet s = .next { s with quietTouch := rest, touchMode := .running } := by
  have hexec : exec .touchLeaveQuiet s = .next (publish [] s (touchLeaveQuiet s)) := rfl
  rw [hexec]
  unfold touchLeaveQuiet
  rw [h]
  exact congrArg Host.Outcome.next (publish_same (fun _ => rfl) (fun _ => rfl) (fun _ => rfl) rfl)

/-- Settles O39: the eight teardowns in port order, the contacts ended in ascending number, and the two wakes. -/
theorem scannersAndTouchTakeTheirQuietNotices : Obligations.ScannersAndTouchTakeTheirQuietNotices :=
  ⟨scannersEnterQuiet_reaches, scannersLeaveQuiet_reaches, touchEnterQuiet_reaches, touchLeaveQuiet_reaches⟩

end Sys2Proof.Machine
end

section
/-! ## Scans (R95–R98) -/

namespace Sys2Proof.Machine

open Sys2Proof.Safety
open Config

section

variable {p : PortNo} {s : State} {sym : Byte} {code : List Byte}

/-! ### A SCAN frame on an UP port -/

theorem framed_upKind_scanner (h : UpWith .scanner p s) : upKind (framed p s).ports[p] = some .scanner := by
  rw [framed_port]
  unfold upKind
  rw [if_pos h.1]
  exact h.2

/-- A SCAN of an UP scanner is taken by the Scan Router after the frame's SHUT (R133, R147). -/
theorem exec_scan (h : UpWith .scanner p s) {payload : List Byte} (hlength : payload.length ≤ 96) :
    exec (.scan p payload) s = .next (publish [] s (scan p payload (framed p s))) := by
  have hlinked : linked s.ports[p] = true := by
    unfold linked
    rw [h.1]
    rfl
  rw [exec_frameCommand (p := p) (payload := payload) (kind := kindScan) (by simp [frameCommands, kindScan])]
  unfold eventMarked
  rw [frameReceived_linked hlinked hlength]
  show Host.Outcome.next (publish [] s (scanFrame p payload (framed p s))) = _
  unfold scanFrame
  rw [if_pos ⟨framed_upKind_scanner h, hlength⟩]

/-- The state after a SCAN that was answered and had no further effect: the frame's SHUT, and the verdict to send (R95). -/
def scanAnswered (p : PortNo) (accept : Bool) (s : State) : State :=
  { s with
    ports := put s.ports p
      { (framed p s).ports[p] with sendList := s.ports[p].sendList ++ [.verdict accept] } }

/-- The verdict joins the send list of an UP scanner's port, whatever records were written before it. -/
theorem verdict_framed (h : UpWith .scanner p s) (accept : Bool) (g : State) :
    verdict p accept (withRings (framed p s) g) = withRings (scanAnswered p accept s) g := by
  have htakes : takesFrame (withRings (framed p s) g).ports[p] (.verdict accept) = true := by
    show takesFrame (framed p s).ports[p] (.verdict accept) = true
    rw [framed_port]
    unfold takesFrame
    rw [Bool.and_eq_true]
    exact ⟨decide_eq_true h.1, decide_eq_true h.2⟩
  unfold verdict hand
  rw [if_pos htakes]
  unfold updPort withRings scanAnswered framed
  dsimp only
  simp only [Fin.getElem_fin, put_get, put_put]

theorem framed_alike (p : PortNo) (s : State) : RingsAlike s (framed p s) := ⟨rfl, rfl, rfl, rfl, fun _ => rfl⟩

/-- The offer of a record after the frame's SHUT is the offer before it. -/
theorem offer?_framed (st : StationNo) (r : Record) (p : PortNo) (s : State) : offer? st r (framed p s) =
    if canWrite s st r then some (withRings (framed p s) (writeRecord st r (s.time.setWidth 16) s)) else none := by
  unfold offer?
  rw [(framed_alike p s).canWrite, (framed_alike p s).writeRecord]
  rfl

/-! ### What a scan leaves, by the record (R95–R98) -/

/-- The scanner record with a code that has just arrived (R95). -/
def codeKept (sym : Byte) (code : List Byte) (now : Time) (r : Scanner) : Scanner :=
  { r with lastCode := some { symbology := sym, code := code, arrival := now } }

theorem keepCode_eq (p : PortNo) (sym : Byte) (code : List Byte) (s : State) :
    keepCode p sym code s = withScanners s (put s.scanners p (codeKept sym code s.time s.scanners[p])) := rfl

/-- A scan that a station took: the record written, and the code kept (R95, R96, R98). -/
def scanTaken (p : PortNo) (sym : Byte) (code : List Byte) (st : StationNo) (r : Record) (s : State) : State :=
  withScanners (withRings (scanAnswered p true s) (writeRecord st r (s.time.setWidth 16) s))
    (put s.scanners p (codeKept sym code s.time s.scanners[p]))

theorem keepCode_verdict (h : UpWith .scanner p s) (st : StationNo) (r : Record) :
    keepCode p sym code (verdict p true (withRings (framed p s) (writeRecord st r (s.time.setWidth 16) s))) =
      scanTaken p sym code st r s := by
  rw [verdict_framed h, keepCode_eq]
  rfl

/-- The verdict REJECT and the gap owed to the station that could not be given the scan (R96, R98). -/
theorem rejected_framed (h : UpWith .scanner p s) (st : StationNo) :
    setGap (verdict p false (framed p s)) st = { scanAnswered p false s with
      delivery := put s.delivery st { s.delivery[st] with gap := true } } := by
  have hv := verdict_framed h false (framed p s)
  rw [show withRings (framed p s) (framed p s) = framed p s from rfl] at hv
  rw [hv]
  rfl

theorem verdict_framed_self (h : UpWith .scanner p s) (accept : Bool) :
    verdict p accept (framed p s) = scanAnswered p accept s := verdict_framed h accept (framed p s)

/-- A HELD scanner's code (R96). -/
theorem scanHeld_framed (h : UpWith .scanner p s) (c : Claim) : scanHeld p c sym code (framed p s) =
    if canWrite s c.holder (.scan p sym code c.serial false) then
      countScan p c (scanTaken p sym code c.holder (.scan p sym code c.serial false) s)
    else { scanAnswered p false s with
      delivery := put s.delivery c.holder { s.delivery[c.holder] with gap := true } } := by
  unfold scanHeld
  rw [offer?_framed]
  by_cases hw : canWrite s c.holder (.scan p sym code c.serial false) = true
  · rw [if_pos hw, if_pos hw]
    dsimp only
    rw [keepCode_verdict h]
  · rw [if_neg hw, if_neg hw]
    exact rejected_framed h _

/-- A FREE scanner's code in RUNNING (R98). -/
theorem scanFree_framed (h : UpWith .scanner p s) : scanFree p sym code (framed p s) =
    match unclaimedStation? s p with
    | some st =>
      if canWrite s st (.scan p sym code 0 true) then scanTaken p sym code st (.scan p sym code 0 true) s
      else { scanAnswered p false s with delivery := put s.delivery st { s.delivery[st] with gap := true } }
    | none => scanAnswered p false s := by
  unfold scanFree
  rw [show unclaimedStation? (framed p s) p = unclaimedStation? s p from rfl]
  cases unclaimedStation? s p with
  | none => exact verdict_framed_self h false
  | some st =>
    dsimp only
    rw [offer?_framed]
    by_cases hw : canWrite s st (.scan p sym code 0 true) = true
    · rw [if_pos hw, if_pos hw]
      exact keepCode_verdict h ..
    · rw [if_neg hw, if_neg hw]
      exact rejected_framed h _

/-! ### The count of a claim (R96, R97) -/

theorem scanTaken_scanner (st : StationNo) (r : Record) :
    (scanTaken p sym code st r s).scanners[p] = codeKept sym code s.time s.scanners[p] := put_get ..

theorem withScanners_scanTaken (st : StationNo) (r : Record) (v : Vector Scanner 8) :
    withScanners (scanTaken p sym code st r s) v =
      withRings (withScanners (scanAnswered p true s) v) (writeRecord st r (s.time.setWidth 16) s) := by
  generalize hg : writeRecord st r (s.time.setWidth 16) s = g
  unfold scanTaken
  rw [hg]
  rfl

theorem scanTaken_alike (st : StationNo) (r : Record) :
    RingsAlike (writeRecord st r (s.time.setWidth 16) s) (scanTaken p sym code st r s) := by
  obtain ⟨m, d, n, hframe⟩ := writeRecord_frame st r (s.time.setWidth 16) s
  unfold scanTaken
  rw [hframe]
  exact ⟨rfl, rfl, rfl, rfl, fun _ => rfl⟩

/-- A scan that leaves a count restarts the idle timer (R96). -/
theorem countScan_left {c : Claim} (hcount : c.count ≠ 1) (st : StationNo) (r : Record) :
    countScan p c (scanTaken p sym code st r s) =
      withRings (withScanners (scanAnswered p true s) (put s.scanners p
        { s.scanners[p] with
          lastCode := some { symbology := sym, code := code, arrival := s.time }
          state := .held { c with idle := { start := s.time, length := c.hold * 1000 }, count := c.count - 1 } }))
        (writeRecord st r (s.time.setWidth 16) s) := by
  have hset : ∀ t : State, ∀ f, updScanner t p f = withScanners t (put t.scanners p (f t.scanners[p])) := fun _ _ => rfl
  have htable : (scanTaken p sym code st r s).scanners = put s.scanners p (codeKept sym code s.time s.scanners[p]) := rfl
  unfold countScan
  dsimp only
  rw [if_neg hcount, hset, withScanners_scanTaken, scanTaken_scanner, htable, put_put]
  rfl

/-- The last scan of a count ends the claim (R97). -/
theorem countScan_last {c : Claim} (hcount : c.count = 1) (st : StationNo) (r : Record) :
    countScan p c (scanTaken p sym code st r s) =
      withRings (withScanners (scanAnswered p true s) (put s.scanners p
        (passedOn .countSpent c s.time (codeKept sym code s.time s.scanners[p]))))
        (given ((c.holder, .claimEnded p false c.serial .countSpent) :: grantRecords p s.scanners[p])
          (writeRecord st r (s.time.setWidth 16) s)) := by
  have htable : (scanTaken p sym code st r s).scanners = put s.scanners p (codeKept sym code s.time s.scanners[p]) := rfl
  unfold countScan
  dsimp only
  rw [if_pos hcount, endClaim_rings, scanTaken_scanner, htable, put_put, withScanners_scanTaken,
    (scanTaken_alike (p := p) (sym := sym) (code := code) (s := s) st r).given]
  generalize writeRecord st r (s.time.setWidth 16) s = g
  rfl

/-! ### Publication (R184) -/

theorem scanAnswered_portPart (p : PortNo) (accept : Bool) (s : State) (q : PortNo) :
    portPart (scanAnswered p accept s).ports[q] = portPart s.ports[q] := by
  by_cases hq : p = q
  · subst hq
    refine (congrArg portPart (put_get ..)).trans ?_
    rw [framed_port]
    rfl
  · exact congrArg portPart (put_get_ne _ _ _ _ hq)

/-- An event that leaves what the mirrors show of ports and scanners as it was publishes nothing: records written and gaps
owed are not shown. -/
theorem publish_unshown {s t : State} (hport : ∀ q : PortNo, portPart t.ports[q] = portPart s.ports[q])
    (hscanner : ∀ q : PortNo, scannerPart t.scanners[q] s.scannerSet[q] = scannerPart s.scanners[q] s.scannerSet[q])
    (ht : t = { s with ports := t.ports, scanners := t.scanners, mem := t.mem, delivery := t.delivery
                       notice := t.notice }) : publish [] s t = t := by
  refine publish_same (fun q => ?_) (fun j => by rw [ht]) (fun st => by rw [ht]; rfl) (by rw [ht]; rfl)
  have hshow : portItems t q = padTo 63 (portPart t.ports[q] ++ printerPart s.printers[q] s.printerSet[q] ++
      scannerPart t.scanners[q] s.scannerSet[q] ++ panelPart s q) := by
    rw [ht]
    rfl
  rw [hshow, hport, hscanner]
  rfl

theorem publish_scanAnswered (p : PortNo) (accept : Bool) (s : State) :
    publish [] s (scanAnswered p accept s) = scanAnswered p accept s :=
  publish_unshown (scanAnswered_portPart p accept s) (fun _ => rfl) rfl

theorem publish_rejected (p : PortNo) (st : StationNo) (s : State) :
    publish [] s { scanAnswered p false s with delivery := put s.delivery st { s.delivery[st] with gap := true } } =
      { scanAnswered p false s with delivery := put s.delivery st { s.delivery[st] with gap := true } } :=
  publish_unshown (scanAnswered_portPart p false s) (fun _ => rfl) rfl

/-- A scan taken without a claim's count is not shown: the mirror has no last code (R184). -/
theorem publish_scanTaken (p : PortNo) (st : StationNo) (r : Record) (s : State) :
    publish [] s (scanTaken p sym code st r s) = scanTaken p sym code st r s := by
  refine publish_unshown (scanAnswered_portPart p true s) (fun q => ?_) rfl
  show scannerPart (put s.scanners p _)[q] _ = _
  by_cases hq : p = q
  · subst hq
    refine (congrArg (scannerPart · _) (put_get ..)).trans ?_
    rfl
  · exact congrArg (scannerPart · _) (put_get_ne _ _ _ _ hq)

/-- A scan that changed its scanner's record publishes the port entries. -/
theorem publish_scanned (p : PortNo) (v : Vector Scanner 8) (s g : State) :
    ∃ n, publish [] s (withRings (withScanners (scanAnswered p true s) v) g) =
      { scanAnswered p true s with
        scanners := v, mem := g.mem, delivery := g.delivery, notice := g.notice, portCount := n } :=
  ⟨_, publish_portsOnly [] rfl rfl rfl rfl⟩

/-! ### Codes taken (R95) -/

/-- The code repeats the last one within the repeat window (R95). -/
def Repeats (p : PortNo) (sym : Byte) (code : List Byte) (s : State) : Prop :=
  ∃ l, s.scanners[p].lastCode = some l ∧ l.symbology = sym ∧ l.code = code ∧
    (s.time - l.arrival).toNat < s.scannerSet[p].repeatWindow * 1000

theorem isRepeat_framed (p : PortNo) (sym : Byte) (code : List Byte) (s : State) :
    isRepeat (framed p s) p sym code = true ↔ Repeats p sym code s := by
  show isRepeat s p sym code = true ↔ _
  unfold isRepeat Repeats
  cases s.scanners[p].lastCode with
  | none => exact ⟨nofun, fun ⟨_, h, _⟩ => nomatch h⟩
  | some l =>
    simp only [Bool.and_eq_true, decide_eq_true_eq, and_assoc, Option.some.injEq, exists_eq_left']
    rfl

theorem scan_ignored (h : s.scanners[p].state = .absent ∨ code.length = 0 ∨ 64 < code.length) :
    scan p (sym :: code) (framed p s) = framed p s :=
  if_pos (h.imp_right fun h => h.imp_left List.eq_nil_of_length_eq_zero)

theorem scan_taken (hstate : s.scanners[p].state ≠ .absent) (hmin : 1 ≤ code.length) (hmax : code.length ≤ 64) :
    scan p (sym :: code) (framed p s) = takeScan p sym code (framed p s) := by
  refine if_neg ?_
  rintro (habsent | hnil | hlong)
  · exact hstate habsent
  · rw [hnil] at hmin
    exact absurd hmin (by decide)
  · exact absurd hlong (Nat.not_lt.mpr hmax)

theorem takeScan_repeat (hsame : Repeats p sym code s) (h : UpWith .scanner p s) :
    takeScan p sym code (framed p s) = scanAnswered p true s := by
  unfold takeScan
  rw [if_pos ((isRepeat_framed ..).mpr hsame), verdict_framed_self h]

theorem takeScan_held {c : Claim} (hsame : ¬ Repeats p sym code s) (hstate : s.scanners[p].state = .held c) :
    takeScan p sym code (framed p s) = scanHeld p c sym code (framed p s) := by
  unfold takeScan
  rw [if_neg fun h => hsame ((isRepeat_framed ..).mp h), show (framed p s).scanners[p].state = .held c from hstate]

theorem takeScan_free (hsame : ¬ Repeats p sym code s) (hstate : s.scanners[p].state = .free) (h : UpWith .scanner p s) :
    takeScan p sym code (framed p s) =
      if s.scanMode = .running then scanFree p sym code (framed p s) else scanAnswered p false s := by
  unfold takeScan
  rw [if_neg fun h => hsame ((isRepeat_framed ..).mp h), show (framed p s).scanners[p].state = .free from hstate,
    show (framed p s).scanMode = s.scanMode from rfl]
  cases s.scanMode with
  | running => rfl
  | quiet => exact verdict_framed_self h false

/-! ### What a code of 1 to 64 bytes leaves (R95–R98) -/

theorem exec_scan_code (h : UpWith .scanner p s) (hstate : s.scanners[p].state ≠ .absent) (hmin : 1 ≤ code.length)
    (hmax : code.length ≤ 64) :
    exec (.scan p (sym :: code)) s = .next (publish [] s (takeScan p sym code (framed p s))) := by
  have hlength : (sym :: code).length ≤ 96 := Nat.succ_le_of_lt (hmax.trans_lt (by decide))
  rw [exec_scan h hlength, scan_taken hstate hmin hmax]

theorem scan_repeated (h : UpWith .scanner p s) (hstate : s.scanners[p].state ≠ .absent) (hmin : 1 ≤ code.length)
    (hmax : code.length ≤ 64) (hsame : Repeats p sym code s) :
    exec (.scan p (sym :: code)) s = .next (scanAnswered p true s) := by
  rw [exec_scan_code h hstate hmin hmax, takeScan_repeat hsame h, publish_scanAnswered]

/-- A code on a HELD scanner that repeats none (R96). -/
theorem exec_scan_held {c : Claim} (h : UpWith .scanner p s) (hmin : 1 ≤ code.length) (hmax : code.length ≤ 64)
    (hstate : s.scanners[p].state = .held c) (hsame : ¬ Repeats p sym code s) :
    exec (.scan p (sym :: code)) s = .next (publish [] s (
      if canWrite s c.holder (.scan p sym code c.serial false) then
        countScan p c (scanTaken p sym code c.holder (.scan p sym code c.serial false) s)
      else { scanAnswered p false s with
        delivery := put s.delivery c.holder { s.delivery[c.holder] with gap := true } })) := by
  rw [exec_scan_code h (hstate ▸ nofun) hmin hmax, takeScan_held hsame hstate, scanHeld_framed h]

theorem scan_held_counted {c : Claim} (h : UpWith .scanner p s) (hmin : 1 ≤ code.length) (hmax : code.length ≤ 64)
    (hstate : s.scanners[p].state = .held c) (hsame : ¬ Repeats p sym code s)
    (hwrite : canWrite s c.holder (.scan p sym code c.serial false) = true) (hcount : c.count ≠ 1) :
    ∃ t, exec (.scan p (sym :: code)) s = .next t ∧
      Told (writeRecord c.holder (.scan p sym code c.serial false) (s.time.setWidth 16) s) t ∧
      MemoryKept s t (InRing c.holder) ∧
      t = { scanAnswered p true s with
        scanners := put s.scanners p
          { s.scanners[p] with
            lastCode := some { symbology := sym, code := code, arrival := s.time }
            state := .held { c with idle := { start := s.time, length := c.hold * 1000 }, count := c.count - 1 } }
        mem := t.mem, delivery := t.delivery, notice := t.notice, portCount := t.portCount } := by
  have hbytes := writeRecord_bytes (canWrite_fits hwrite) (s.time.setWidth 16)
  have hexec := exec_scan_held h hmin hmax hstate hsame
  rw [if_pos hwrite, countScan_left hcount] at hexec
  generalize writeRecord _ _ _ s = g at hbytes hexec ⊢
  obtain ⟨n, hpublished⟩ := publish_scanned p _ s g
  exact ⟨_, hexec.trans (congrArg Host.Outcome.next hpublished), ⟨rfl, rfl, rfl⟩, hbytes, rfl⟩

theorem scan_held_spent {c : Claim} (h : UpWith .scanner p s) (hmin : 1 ≤ code.length) (hmax : code.length ≤ 64)
    (hstate : s.scanners[p].state = .held c) (hsame : ¬ Repeats p sym code s)
    (hwrite : canWrite s c.holder (.scan p sym code c.serial false) = true) (hcount : c.count = 1) :
    ∃ t, exec (.scan p (sym :: code)) s = .next t ∧
      t.scanners[p] = passedOn .countSpent c s.time (codeKept sym code s.time s.scanners[p]) ∧
      Told (given ((c.holder, .claimEnded p false c.serial .countSpent) :: grantRecords p s.scanners[p])
        (writeRecord c.holder (.scan p sym code c.serial false) (s.time.setWidth 16) s)) t ∧
      MemoryKept s t (fun a => ∃ st, InRing st a) ∧
      t = { scanAnswered p true s with
        scanners := put s.scanners p t.scanners[p], mem := t.mem, delivery := t.delivery, notice := t.notice
        portCount := t.portCount } := by
  have hbytes := memoryKept_trans (H := fun a => ∃ st, InRing st a)
    (writeRecord_bytes (canWrite_fits hwrite) (s.time.setWidth 16))
    (given_bytes ((c.holder, .claimEnded p false c.serial .countSpent) :: grantRecords p s.scanners[p]) _)
    (fun a ha => ⟨c.holder, ha⟩) fun _ => id
  have hexec := exec_scan_held h hmin hmax hstate hsame
  rw [if_pos hwrite, countScan_last hcount] at hexec
  generalize given _ (writeRecord _ _ _ s) = g at hbytes hexec ⊢
  generalize passedOn _ c _ _ = r at hexec ⊢
  obtain ⟨n, hpublished⟩ := publish_scanned p (put s.scanners p r) s g
  refine ⟨_, hexec.trans (congrArg Host.Outcome.next hpublished), put_get .., ⟨rfl, rfl, rfl⟩, hbytes, ?_⟩
  dsimp only
  rw [Fin.getElem_fin, put_get]

/-- A code on a FREE scanner that repeats none (R98). -/
theorem exec_scan_free (h : UpWith .scanner p s) (hmin : 1 ≤ code.length) (hmax : code.length ≤ 64)
    (hstate : s.scanners[p].state = .free) (hsame : ¬ Repeats p sym code s) :
    exec (.scan p (sym :: code)) s = .next (publish [] s (
      if s.scanMode = .running then scanFree p sym code (framed p s) else scanAnswered p false s)) := by
  rw [exec_scan_code h (hstate ▸ nofun) hmin hmax, takeScan_free hsame hstate h]

theorem unclaimedStation?_some {st : StationNo} (hstation : s.scannerSet[p].defaultStation = some st)
    (hservice : inService s st = true) (hpermit : permitted s st p = true) : unclaimedStation? s p = some st := by
  unfold unclaimedStation?
  rw [hstation]
  dsimp only
  rw [hservice, hpermit]
  rfl

theorem unclaimedStation?_none (h : s.scannerSet[p].defaultStation = none ∨
    ∃ st, s.scannerSet[p].defaultStation = some st ∧ (inService s st = false ∨ permitted s st p = false)) :
    unclaimedStation? s p = none := by
  unfold unclaimedStation?
  rcases h with h | ⟨st, h, hservice | hpermit⟩
  · rw [h]
  · rw [h]
    dsimp only
    rw [hservice]
    rfl
  · rw [h]
    dsimp only
    rw [hpermit, Bool.and_false]
    rfl

/-- A code that no station takes is answered REJECT (R98). -/
theorem scan_free_refused (h : UpWith .scanner p s) (hmin : 1 ≤ code.length) (hmax : code.length ≤ 64)
    (hstate : s.scanners[p].state = .free) (hsame : ¬ Repeats p sym code s)
    (hno : s.scanMode = .quiet ∨ s.scannerSet[p].defaultStation = none ∨
      ∃ st, s.scannerSet[p].defaultStation = some st ∧ (inService s st = false ∨ permitted s st p = false)) :
    exec (.scan p (sym :: code)) s = .next (scanAnswered p false s) := by
  rw [exec_scan_free h hmin hmax hstate hsame]
  split_ifs with hmode
  · have hnone := unclaimedStation?_none (hno.resolve_left (hmode ▸ nofun))
    rw [scanFree_framed h, hnone, publish_scanAnswered]
  · rw [publish_scanAnswered]

/-- The state after a scan that a station took. -/
theorem scanTaken_eq (p : PortNo) (sym : Byte) (code : List Byte) (st : StationNo) (r : Record) (s : State) :
    scanTaken p sym code st r s = { scanAnswered p true s with
      scanners := put s.scanners p (codeKept sym code s.time s.scanners[p])
      mem := (writeRecord st r (s.time.setWidth 16) s).mem
      delivery := (writeRecord st r (s.time.setWidth 16) s).delivery
      notice := (writeRecord st r (s.time.setWidth 16) s).notice } := by
  unfold scanTaken
  generalize writeRecord st r (s.time.setWidth 16) s = g
  rfl

/-- A code that the default station may take (R98). -/
theorem exec_scan_default {st : StationNo} (h : UpWith .scanner p s) (hmin : 1 ≤ code.length) (hmax : code.length ≤ 64)
    (hstate : s.scanners[p].state = .free) (hsame : ¬ Repeats p sym code s) (hmode : s.scanMode = .running)
    (hstation : s.scannerSet[p].defaultStation = some st) (hservice : inService s st = true)
    (hpermit : permitted s st p = true) :
    exec (.scan p (sym :: code)) s = .next (
      if canWrite s st (.scan p sym code 0 true) then scanTaken p sym code st (.scan p sym code 0 true) s
      else { scanAnswered p false s with delivery := put s.delivery st { s.delivery[st] with gap := true } }) := by
  rw [exec_scan_free h hmin hmax hstate hsame, if_pos hmode, scanFree_framed h,
    unclaimedStation?_some hstation hservice hpermit]
  dsimp only
  split_ifs
  · rw [publish_scanTaken]
  · rw [publish_rejected]

theorem scan_free_taken {st : StationNo} (h : UpWith .scanner p s) (hmin : 1 ≤ code.length) (hmax : code.length ≤ 64)
    (hstate : s.scanners[p].state = .free) (hsame : ¬ Repeats p sym code s) (hmode : s.scanMode = .running)
    (hstation : s.scannerSet[p].defaultStation = some st) (hservice : inService s st = true)
    (hpermit : permitted s st p = true) (hwrite : canWrite s st (.scan p sym code 0 true) = true) :
    ∃ t, exec (.scan p (sym :: code)) s = .next t ∧
      Told (writeRecord st (.scan p sym code 0 true) (s.time.setWidth 16) s) t ∧ MemoryKept s t (InRing st) ∧
      t = { scanAnswered p true s with
        scanners := put s.scanners p (codeKept sym code s.time s.scanners[p])
        mem := t.mem, delivery := t.delivery, notice := t.notice } := by
  have hexec := exec_scan_default h hmin hmax hstate hsame hmode hstation hservice hpermit
  have hbytes := writeRecord_bytes (canWrite_fits hwrite) (s.time.setWidth 16)
  rw [if_pos hwrite, scanTaken_eq] at hexec
  generalize writeRecord _ _ _ s = g at hbytes hexec ⊢
  exact ⟨_, hexec, ⟨rfl, rfl, rfl⟩, hbytes, rfl⟩

end

/-- Settles O55: every code takes one of the closed forms above, by the last code, the record's state and the room in the
ring of the station it is for. -/
theorem scansAreDelivered : Obligations.ScansAreDelivered := by
  refine ⟨fun p sym code s h hlength hignored => ?_, fun p sym code s h _ hmin hmax => ⟨fun hstate hsame => ?_,
    fun c hstate hsame => ⟨fun hwrite => ?_, fun hwrite hcount => ?_, fun hwrite hcount => ?_⟩,
    fun hstate hsame => ⟨fun hno => ?_, fun st hmode hstation hservice hpermit => ⟨fun hwrite => ?_, fun hwrite => ?_⟩⟩⟩⟩
  · rw [exec_scan h (payload := sym :: code) (Nat.succ_le_succ hlength), scan_ignored hignored, publish_framed]
  · exact scan_repeated h hstate hmin hmax hsame
  · rw [exec_scan_held h hmin hmax hstate hsame, if_neg (Bool.eq_false_iff.mp hwrite), publish_rejected]
    rfl
  · exact scan_held_counted h hmin hmax hstate hsame hwrite hcount
  · obtain ⟨t, ht, hself, htold, hbytes, hframe⟩ := scan_held_spent h hmin hmax hstate hsame hwrite hcount
    refine ⟨t, ht, ?_, ?_, ?_, htold, ?_, hbytes, hframe⟩
    · rw [hself, passedOn_lastEnd]
    · rw [hself, passedOn_lastCode]
      rfl
    · rw [hself, passedOn_queue]
      rfl
    · rw [hself]
      split
      · next hq => rw [passedOn_nil (r := codeKept sym code s.time s.scanners[p]) hq]
      · next hq =>
        rw [passedOn_cons (r := codeKept sym code s.time s.scanners[p]) hq]
        rfl
  · exact scan_free_refused h hmin hmax hstate hsame hno
  · rw [exec_scan_default h hmin hmax hstate hsame hmode hstation hservice hpermit,
      if_neg (Bool.eq_false_iff.mp hwrite)]
    rfl
  · exact scan_free_taken h hmin hmax hstate hsame hmode hstation hservice hpermit hwrite

end Sys2Proof.Machine
end

section
/-! ## SET ZONE and CLEAR ZONE (R104–R107) -/

namespace Sys2Proof.Machine

open Sys2Proof.Safety
open Config

section

variable {c : CardNo} {s : State} {z : ZoneNo} {p : PortNo} {m : Mapping}

/-! ### The other zones of a port (R104, R105) -/

theorem overlaps_iff (a b : Mapping) :
    overlaps a b = true ↔ a.x0 < b.x1 ∧ b.x0 < a.x1 ∧ a.y0 < b.y1 ∧ b.y0 < a.y1 := by
  unfold overlaps
  simp only [Bool.and_eq_true, decide_eq_true_eq, and_assoc]

/-- The index is that of an ACTIVE zone of the port other than a given one. -/
def isRival (s : State) (z : ZoneNo) (p : PortNo) (y : ZoneNo) : Bool := decide (y ≠ z) && zoneAt s p y

theorem isRival_of_zone {y : ZoneNo} {a : Zone} (ha : s.zones[y] = some a) :
    isRival s z p y = true ↔ y ≠ z ∧ a.port = p := by
  unfold isRival zoneAt
  rw [ha, Option.any_some, Bool.and_eq_true, decide_eq_true_eq, decide_eq_true_eq]

theorem otherZones_eq (s : State) (z : ZoneNo) (p : PortNo) : otherZones s z p =
    (List.finRange 16).filterMap fun y =>
      if isRival s z p y then s.zones[y].map fun a => (y, a.map) else none := by
  unfold otherZones
  refine List.filterMap_congr fun y _ => ?_
  cases ha : s.zones[y] with
  | none => exact (ite_self none).symm
  | some a => exact if_congr (isRival_of_zone ha).symm rfl rfl

theorem otherZones_length (s : State) (z : ZoneNo) (p : PortNo) :
    (otherZones s z p).length = ((List.finRange 16).filter (isRival s z p)).length := by
  rw [otherZones_eq, List.length_filterMap_eq_countP, ← List.countP_eq_length_filter]
  refine List.countP_congr fun y _ => ?_
  unfold isRival zoneAt
  cases s.zones[y] with
  | none => rw [Option.map_none, ite_self, Option.any_none, Bool.and_false]; rfl
  | some a => cases decide (y ≠ z) && (some a).any fun zone => decide (zone.port = p) <;> exact .rfl

/-- The ACTIVE zones of a port without one are its other zones. -/
theorem activeZones_others (s : State) (z : ZoneNo) (p : PortNo) :
    (activeZones s p).filter (· ≠ z) = (List.finRange 16).filter (isRival s z p) := by
  unfold activeZones
  rw [List.filter_filter]
  refine List.filter_congr fun y _ => ?_
  unfold isRival zoneAt
  cases s.zones[y] <;> rfl

/-- The rectangle of a mapping overlaps another ACTIVE zone of the port (R104). -/
def OverlapsAt (s : State) (z : ZoneNo) (p : PortNo) (m : Mapping) (y : ZoneNo) : Prop :=
  isRival s z p y = true ∧ ∃ a, s.zones[y] = some a ∧ overlaps m a.map = true

/-- The search for an overlapped zone finds the lowest (R105). -/
theorem find_overlapped (s : State) (z : ZoneNo) (p : PortNo) (m : Mapping) :
    match (otherZones s z p).find? fun r => overlaps m r.2 with
    | none => ∀ y, ¬ OverlapsAt s z p m y
    | some r => OverlapsAt s z p m r.1 ∧ ∀ x < r.1, ¬ OverlapsAt s z p m x := by
  have hat : ∀ y, (if isRival s z p y then s.zones[y].map fun a => (y, a.map) else none).any
      (fun r => overlaps m r.2) = true ↔ OverlapsAt s z p m y := fun y => by
    unfold OverlapsAt
    cases isRival s z p y with
    | false => exact ⟨nofun, fun h => absurd h.1 Bool.false_ne_true⟩
    | true =>
      rw [if_pos rfl, Option.any_map, Option.any_eq_true]
      exact ⟨fun h => ⟨rfl, h⟩, And.right⟩
  have hnot := fun y => Bool.eq_false_iff.trans (not_congr (hat y))
  rw [otherZones_eq, List.find?_filterMap, ← Fin.find?_eq_find?_finRange]
  generalize hfind : Fin.find? _ = found
  cases found with
  | none => exact fun y => (hnot y).mp (Fin.find?_eq_none_iff.mp hfind y)
  | some y =>
    obtain ⟨hy, hlow⟩ := Fin.find?_eq_some_iff.mp hfind
    obtain ⟨hrival, a, ha, hover⟩ := (hat y).mp hy
    rw [Option.bind_some, if_pos hrival, ha, Option.map_some]
    exact ⟨⟨hrival, a, ha, hover⟩, fun x hx => (hnot x).mp (hlow x hx)⟩

/-! ### The checks of SET ZONE (R105) -/

theorem orientation?_isSome (n : Nat) : (orientation? n).isSome = true ↔ n ≤ 3 := by
  match n with
  | 0 | 1 | 2 | 3 => exact ⟨fun _ => by decide, fun _ => rfl⟩
  | n + 4 => exact ⟨nofun, fun h => absurd h (by omega)⟩

theorem rivals_eq {a : ZoneArgs} (hz : a.zone = z.val) (hp : a.port = p.val) : rivals s a = otherZones s z p := by
  unfold rivals
  rw [index?_eq_some z hz, index?_eq_some p hp]

theorem setZone_table (c : CardNo) (s : State) :
    let rivals := (List.finRange 16).filter fun y : ZoneNo =>
      y.val ≠ cardNum s c 8 && s.zones[y].any fun a => a.port.val = cardNum s c 9
    let overlap := fun y : ZoneNo => y ∈ rivals ∧ ∃ a, s.zones[y] = some a ∧
      cardHalfNum s c 10 < a.map.x1 ∧ a.map.x0 < cardHalfNum s c 14 ∧
      cardHalfNum s c 12 < a.map.y1 ∧ a.map.y0 < cardHalfNum s c 16
    RowsAgree (zoneChecks s (zoneArgs s c))
      [check (cardNum s c 8 ≤ 15) { outcome := .badArgument },
       check (cardNum s c 9 ≤ 7) { outcome := .badArgument, detail := 1 },
       check (cardHalfNum s c 10 < cardHalfNum s c 14 ∧ cardHalfNum s c 14 ≤ 4096 ∧
           cardHalfNum s c 12 < cardHalfNum s c 16 ∧ cardHalfNum s c 16 ≤ 4096)
         { outcome := .badArgument, detail := 2 },
       check (cardNum s c 18 ≤ 15) { outcome := .badArgument, detail := 3 },
       check (cardNum s c 19 ≤ 3) { outcome := .badArgument, detail := 4 },
       check (1 ≤ cardHalfNum s c 20 ∧ cardHalfNum s c 20 ≤ 4096 ∧ 1 ≤ cardHalfNum s c 22 ∧ cardHalfNum s c 22 ≤ 4096)
         { outcome := .badArgument, detail := 5 },
       check (rivals.length < 8) { outcome := .queueFull },
       (∀ y, ¬ overlap y, fun a => ∃ y, overlap y ∧ (∀ z < y, ¬ overlap z) ∧ a = { outcome := .overlap, detail := y.val })] := by
  intro others overlap
  refine ⟨decide_eq_true_iff, fun _ => rfl, fun hzone => ⟨decide_eq_true_iff, fun _ => rfl, fun hport => ?_⟩⟩
  obtain ⟨z, hz⟩ : ∃ z : ZoneNo, cardNum s c 8 = z.val := ⟨⟨_, Nat.lt_succ_of_le hzone⟩, rfl⟩
  obtain ⟨p, hp⟩ : ∃ p : PortNo, cardNum s c 9 = p.val := ⟨⟨_, Nat.lt_succ_of_le hport⟩, rfl⟩
  have hrivals : rivals s (zoneArgs s c) = otherZones s z p := rivals_eq hz hp
  have hothers : others = (List.finRange 16).filter (isRival s z p) := by
    refine List.filter_congr fun y _ => ?_
    unfold isRival zoneAt
    simp only [hz, hp, Fin.val_inj, ne_eq]
  have hoverlap : ∀ y, overlap y ↔ OverlapsAt s z p (zoneArgs s c).map y := fun y => by
    show (y ∈ others ∧ _) ↔ _
    rw [hothers, List.mem_filter]
    unfold OverlapsAt
    simp only [List.mem_finRange, true_and, overlaps_iff]
    exact .rfl
  refine ⟨?_, fun _ => rfl, fun _ => ⟨decide_eq_true_iff, fun _ => rfl, fun _ => ⟨orientation?_isSome _, fun _ => rfl,
    fun _ => ⟨?_, fun _ => rfl, fun _ => ⟨?_, fun _ => rfl, fun _ => ⟨?_, ?_, fun _ => trivial⟩⟩⟩⟩⟩⟩
  · simp only [Bool.and_eq_true, decide_eq_true_eq, and_assoc]
    exact .rfl
  · rw [Bool.and_eq_true, sizeOk_iff, sizeOk_iff, and_assoc]
    exact .rfl
  · rw [decide_eq_true_iff, hrivals, otherZones_length, hothers]
    exact .rfl
  all_goals
    have hfound := find_overlapped s z p (zoneArgs s c).map
    unfold overlapped?
    rw [hrivals]
    generalize List.find? _ (otherZones s z p) = found at hfound ⊢
  · cases found with
    | none => exact ⟨fun _ y hy => hfound y ((hoverlap y).mp hy), fun _ => rfl⟩
    | some r => exact ⟨nofun, fun h => absurd ((hoverlap r.1).mpr hfound.1) (h r.1)⟩
  · cases found with
    | none => exact nofun
    | some r => exact fun _ => ⟨r.1, (hoverlap r.1).mpr hfound.1, fun x hx hy => hfound.2 x hx ((hoverlap x).mp hy), rfl⟩

/-! ### SET ZONE accepted (R106) -/

/-- The code of an orientation in a card (R105). -/
def orientationCode : Orientation → Nat
  | .r0 => 0
  | .r90 => 1
  | .r180 => 2
  | .r270 => 3

theorem orientation?_code (o : Orientation) : orientation? (orientationCode o) = some o := by cases o <;> rfl

/-- The arguments of a SET ZONE that names a zone, a port, a station and an orientation (R105). -/
def namedArgs (z : ZoneNo) (p : PortNo) (st : StationNo) (m : Mapping) (wake : Bool) : ZoneArgs :=
  { zone := z.val, port := p.val, map := m, station := st.val, code := orientationCode m.orientation, wake := wake }

/-- A request within its limits, with room on its port and no zone overlapped, passes its checks (R105). -/
theorem zoneChecks_pass (st : StationNo) (wake : Bool) (hlimits : MappingOk m)
    (hroom : ((activeZones s p).filter (· ≠ z)).length < 8)
    (hclear : ∀ y a, s.zones[(y : ZoneNo)] = some a → y ≠ z → a.port = p →
      ¬ (m.x0 < a.map.x1 ∧ a.map.x0 < m.x1 ∧ m.y0 < a.map.y1 ∧ a.map.y0 < m.y1)) :
    firstFailing (zoneChecks s (namedArgs z p st m wake)) = none := by
  obtain ⟨hx, hx1, hy, hy1, hw, hw1, hh, hh1⟩ := hlimits
  rw [activeZones_others, ← otherZones_length] at hroom
  have hrivals : rivals s (namedArgs z p st m wake) = otherZones s z p := rivals_eq rfl rfl
  have hnone : overlapped? s (namedArgs z p st m wake) = none := by
    have hfound := find_overlapped s z p m
    unfold overlapped?
    rw [hrivals]
    cases hfind : (otherZones s z p).find? fun r => overlaps m r.2 with
    | none => exact hfind
    | some r =>
      rw [hfind] at hfound
      obtain ⟨⟨hrival, a, ha, hover⟩, -⟩ := hfound
      obtain ⟨hy, hport⟩ := (isRival_of_zone ha).mp hrival
      exact absurd ((overlaps_iff ..).mp hover) (hclear r.1 a ha hy hport)
  rw [firstFailing_none_iff]
  unfold zoneChecks
  rw [hnone, hrivals]
  unfold namedArgs
  simp only [List.forall_mem_cons, Bool.and_eq_true, decide_eq_true_eq, sizeOk_iff, orientation?_code]
  exact ⟨Nat.le_of_lt_succ z.isLt, Nat.le_of_lt_succ p.isLt, ⟨⟨⟨hx, hx1⟩, hy⟩, hy1⟩, Nat.le_of_lt_succ st.isLt, rfl,
    ⟨⟨hw, hw1⟩, hh, hh1⟩, hroom, rfl, nofun⟩

/-- A SET ZONE whose checks pass is accepted for what it names (R106). -/
theorem serveSetZone_named {st : StationNo} {wake : Bool} (hargs : zoneArgs s c = namedArgs z p st m wake)
    (hpass : firstFailing (zoneChecks s (namedArgs z p st m wake)) = none) :
    serveSetZone c s = acceptSetZone z p st (namedArgs z p st m wake) s := by
  have hz : index? 16 (namedArgs z p st m wake).zone = some z := index?_eq_some z rfl
  have hp : index? 8 (namedArgs z p st m wake).port = some p := index?_eq_some p rfl
  have hst : index? 16 (namedArgs z p st m wake).station = some st := index?_eq_some st rfl
  unfold serveSetZone
  rw [hargs]
  dsimp only
  rw [checked_pass hpass, hz, hp, hst]

end

theorem setZone_accepted (c : CardNo) (s : State) (z : ZoneNo) (p : PortNo) (st : StationNo) (o : Orientation)
    (m : Mapping) (hm : MemoryOk s) (hs : Serving .setZone c s) (hz : cardNum s c 8 = z.val) (hp : cardNum s c 9 = p.val)
    (hst : cardNum s c 18 = st.val) (ho : cardNum s c 19 = orientationCode o)
    (hmap : m = { x0 := cardHalfNum s c 10, y0 := cardHalfNum s c 12, x1 := cardHalfNum s c 14, y1 := cardHalfNum s c 16
                  orientation := o, width := cardHalfNum s c 20, height := cardHalfNum s c 22, threshold := cardNum s c 24 })
    (hlimits : MappingOk m) (hroom : ((activeZones s p).filter (· ≠ z)).length < 8)
    (hclear : ∀ y a, s.zones[(y : ZoneNo)] = some a → y ≠ z → a.port = p →
      ¬ (m.x0 < a.map.x1 ∧ a.map.x0 < m.x1 ∧ m.y0 < a.map.y1 ∧ a.map.y0 < m.y1)) :
    ∃ t, exec .setZone s = .next t ∧
      AnswerStands c { outcome := .ok, value := if s.zones[z] = none then 0 else 1 } t ∧
      MemoryKept s t (AnswerField c) ∧ t.portCount[p] = s.portCount[p] + 1 ∧
      t = { s with
        mem := t.mem, cards := put s.cards c .answered, serving := none
        notice := s.notice ||| stationBit (cardStation c), portCount := t.portCount
        zones := put s.zones z (some { port := p, map := m, station := st, wake := decide (cardNum s c 25 ≠ 0) }) } := by
  have hargs : zoneArgs s c = namedArgs z p st m (decide (cardNum s c 25 ≠ 0)) := by
    unfold zoneArgs
    rw [hz, hp, hst, ho, orientation?_code, hmap]
    simp only [cardByte_ne_zero]
    rfl
  have hvalue : (if s.zones[z].isSome then 1 else 0) = if s.zones[z] = none then 0 else 1 := by
    cases s.zones[z] <;> rfl
  have hf : serveSetZone c s =
      { state := { s with
          zones := put s.zones z (some { port := p, map := m, station := st, wake := decide (cardNum s c 25 ≠ 0) }) }
        answer := { outcome := .ok, value := if s.zones[z] = none then 0 else 1 }
        marks := zonePorts p s.zones[z] } := by
    rw [serveSetZone_named hargs (zoneChecks_pass st _ hlimits hroom hclear), ← hvalue]
    rfl
  have hmarked : p ∈ zonePorts p s.zones[z] := by cases s.zones[z] <;> exact List.mem_cons_self
  obtain ⟨t, ht, ha, hk, rfl⟩ := served_answer (f := serveSetZone) hm hs hf rfl
  exact ⟨_, ht, ha, hk, publish_portCount_marked hmarked _ _, publish_portsOnly _ rfl rfl rfl rfl⟩

/-- Settles O33: an accepted request by its limits, and the refusals row by row, the rivals being those of the zone and the
port that the first two checks have let through. -/
theorem setZoneMakesAZoneActive : Obligations.SetZoneMakesAZoneActive := by
  refine ⟨fun c s z p st o m hm hs hz hp hst ho hmap hlimits hroom hclear =>
    setZone_accepted c s z p st o m hm hs hz hp hst ?_ hmap hlimits hroom hclear, fun c s hm hs =>
    checked_rowsAgree hm hs (f := serveSetZone) rfl rfl (setZone_table c s)⟩
  cases o <;> exact ho

/-! ### CLEAR ZONE (R107) -/

theorem serveClearZone_badZone {c : CardNo} {s : State} (h : 15 < cardNum s c 8) :
    serveClearZone c s = refuse s { outcome := .badArgument } := by
  unfold serveClearZone
  rw [index?_eq_none h]

theorem serveClearZone_unused {c : CardNo} {s : State} {z : ZoneNo} (hz : cardNum s c 8 = z.val)
    (hzone : s.zones[z] = none) : serveClearZone c s = refuse s { outcome := .ok } := by
  unfold serveClearZone
  rw [index?_eq_some z hz]
  dsimp only
  rw [hzone]

theorem serveClearZone_active {c : CardNo} {s : State} {z : ZoneNo} {old : Zone} (hz : cardNum s c 8 = z.val)
    (hzone : s.zones[z] = some old) : serveClearZone c s =
      { state := { s with zones := put s.zones z none }, answer := { outcome := .ok, value := 1 }, marks := [old.port] } := by
  unfold serveClearZone
  rw [index?_eq_some z hz]
  dsimp only
  rw [hzone]

/-- Settles O34: a bad index, an UNUSED zone and an ACTIVE one, each by what the Touch Router answers. -/
theorem clearZoneMakesAZoneUnused : Obligations.ClearZoneMakesAZoneUnused := by
  refine fun c s hm hs => ⟨fun h => refused_answer hm hs (serveClearZone_badZone h), fun z hz =>
    ⟨fun hzone => refused_answer hm hs (serveClearZone_unused hz hzone), fun old hzone => ?_⟩⟩
  obtain ⟨t, ht, ha, hk, rfl⟩ := served_answer (f := serveClearZone) hm hs (serveClearZone_active hz hzone) rfl
  exact ⟨_, ht, ha, hk, publish_portCount_marked (.head _) _ _, publish_portsOnly _ rfl rfl rfl rfl⟩

end Sys2Proof.Machine
end

section
/-! ## The Touch Router reads no port record (R112–R119) -/

namespace Sys2Proof.Machine

open Sys2Proof.Safety
open Config

section

variable {v : Vector Port 8} {k : Vector Byte 8}

/-- The state with its port records and their change counts replaced. -/
def withPorts (v : Vector Port 8) (k : Vector Byte 8) (s : State) : State := { s with ports := v, portCount := k }

/-- What an entry answers, beside other port records. -/
def besidePorts (v : Vector Port 8) (k : Vector Byte 8) (r : State × Bool) : State × Bool := (withPorts v k r.1, r.2)

/-! ### Records offered and contacts ended (R113, R170) -/

theorem offer?_withPorts (st : StationNo) (r : Record) (s : State) :
    offer? st r (withPorts v k s) = (offer? st r s).map (withPorts v k) := by
  unfold offer?
  rw [show canWrite (withPorts v k s) st r = canWrite s st r from rfl]
  split_ifs <;> rfl

theorem endContact_withPorts (n : ContactNo) (c : Contact) (b : Bound) (e : ContactEnd) (s : State) :
    endContact n c b e (withPorts v k s) = withPorts v k (endContact n c b e s) := by
  unfold endContact
  rw [offer?_withPorts]
  cases offer? b.station (endRecord n c b e) s <;> rfl

theorem settle_withPorts (n : ContactNo) (s : State) : settle n (withPorts v k s) = withPorts v k (settle n s) := by
  unfold settle
  rw [show (withPorts v k s).contacts = s.contacts from rfl]
  match s.contacts[n] with
  | none => rfl
  | some ⟨_, _, .live b _⟩ => exact endContact_withPorts ..
  | some ⟨_, _, .closing _ _⟩ => rfl
  | some ⟨_, _, .suppressed _ _⟩ => rfl
  | some ⟨_, _, .ignored _⟩ => rfl

/-! ### Touch-downs (R114–R117) -/

theorem makeContact_withPorts (p : PortNo) (id : ContactId) (cond : Contact.Condition) (s : State) :
    makeContact p id cond (withPorts v k s) = besidePorts v k (makeContact p id cond s) := by
  unfold makeContact
  rw [show (withPorts v k s).contacts = s.contacts from rfl]
  cases lowest? s.contacts Option.isNone <;> rfl

theorem bindContact_withPorts (p : PortNo) (id : ContactId) (z : ZoneNo) (zn : Zone) (x y : Nat) (s : State) :
    bindContact p id z zn x y (withPorts v k s) = besidePorts v k (bindContact p id z zn x y s) := by
  unfold bindContact
  rw [show (withPorts v k s).contacts = s.contacts from rfl]
  cases lowest? s.contacts Option.isNone with
  | none => rfl
  | some n =>
    dsimp only
    rw [offer?_withPorts]
    cases offer? zn.station (.touch .down p id n z (mapRaw zn.map x y)) s <;> rfl

theorem downRunning_withPorts (p : PortNo) (id : ContactId) (x y : Nat) (s : State) :
    downRunning p id x y (withPorts v k s) = besidePorts v k (downRunning p id x y s) := by
  unfold downRunning
  rw [show zoneAt? (withPorts v k s) p x y = zoneAt? s p x y from rfl]
  cases zoneAt? s p x y with
  | none => exact makeContact_withPorts ..
  | some r =>
    dsimp only
    rw [show inService (withPorts v k s) r.2.station = inService s r.2.station from rfl,
      show permitted (withPorts v k s) r.2.station p = permitted s r.2.station p from rfl]
    split_ifs
    · exact bindContact_withPorts ..
    · exact makeContact_withPorts ..

theorem downQuiet_withPorts (p : PortNo) (id : ContactId) (x y : Nat) (s : State) :
    downQuiet p id x y (withPorts v k s) = besidePorts v k (downQuiet p id x y s) := by
  unfold downQuiet
  rw [show zoneAt? (withPorts v k s) p x y = zoneAt? s p x y from rfl]
  cases zoneAt? s p x y with
  | none => exact makeContact_withPorts ..
  | some r =>
    dsimp only
    split_ifs
    · exact makeContact_withPorts (s := { s with wakeReports := s.wakeReports ++ [r.1] }) ..
    · exact makeContact_withPorts ..

/-- A touch-down as the part state last told says (R114). -/
def downTaken (p : PortNo) (id : ContactId) (x y : Nat) (s : State) : State × Bool :=
  match s.touchMode with
  | .running => downRunning p id x y s
  | .quiet => downQuiet p id x y s

theorem downTaken_withPorts (p : PortNo) (id : ContactId) (x y : Nat) (s : State) :
    downTaken p id x y (withPorts v k s) = besidePorts v k (downTaken p id x y s) := by
  unfold downTaken
  rw [show (withPorts v k s).touchMode = s.touchMode from rfl]
  cases s.touchMode with
  | running => exact downRunning_withPorts ..
  | quiet => exact downQuiet_withPorts ..

/-- A DOWN entry whose key no record holds (R114). -/
theorem downEntry_unheld {p : PortNo} {id : ContactId} {s : State} (h : byKey? s p id = none) (x y : Nat) :
    downEntry p id x y s = downTaken p id x y s := by
  unfold downEntry downTaken
  rw [h]
  cases s.touchMode <;> exact Prod.ext rfl (Bool.or_false _)

/-- A DOWN entry whose key a record holds (R114). -/
theorem downEntry_held {p : PortNo} {id : ContactId} {s : State} {n : ContactNo} (h : byKey? s p id = some n) (x y : Nat) :
    downEntry p id x y s = ((downTaken p id x y (settle n s)).1, true) := by
  have hmode : (settle n s).touchMode = s.touchMode := by
    obtain ⟨_, _, _, _, _, hs⟩ := settle_touch n s
    rw [hs]
  unfold downEntry downTaken
  rw [h, hmode]
  cases s.touchMode <;> exact Prod.ext rfl (Bool.or_true _)

theorem downEntry_withPorts (p : PortNo) (id : ContactId) (x y : Nat) (s : State) :
    downEntry p id x y (withPorts v k s) = besidePorts v k (downEntry p id x y s) := by
  have hkey : byKey? (withPorts v k s) p id = byKey? s p id := rfl
  cases h : byKey? s p id with
  | none => rw [downEntry_unheld h, downEntry_unheld (hkey.trans h), downTaken_withPorts]
  | some n =>
    rw [downEntry_held h, downEntry_held (hkey.trans h), settle_withPorts, downTaken_withPorts]
    rfl

/-! ### Moves and ends (R118, R119) -/

theorem moveLive_withPorts (n : ContactNo) (c : Contact) (b : Bound) (x y : Nat) (s : State) :
    moveLive n c b x y (withPorts v k s) = withPorts v k (moveLive n c b x y s) := by
  unfold moveLive
  dsimp only
  rw [offer?_withPorts]
  split_ifs
  · cases offer? b.station (.touch .move c.port c.id n b.zone (mapRaw b.map x y)) s <;> rfl
  · rfl

theorem moveEntry_withPorts (p : PortNo) (id : ContactId) (x y : Nat) (s : State) :
    moveEntry p id x y (withPorts v k s) = besidePorts v k (moveEntry p id x y s) := by
  unfold moveEntry
  rw [show byKey? (withPorts v k s) p id = byKey? s p id from rfl,
    show (withPorts v k s).contacts = s.contacts from rfl]
  cases byKey? s p id with
  | none => rfl
  | some n =>
    dsimp only
    match s.contacts[n] with
    | none => rfl
    | some ⟨_, _, .live b _⟩ => exact Prod.ext (moveLive_withPorts ..) rfl
    | some ⟨_, _, .closing _ _⟩ => rfl
    | some ⟨_, _, .suppressed _ _⟩ => rfl
    | some ⟨_, _, .ignored _⟩ => rfl

theorem endEntry_withPorts (p : PortNo) (id : ContactId) (at? : Option (Nat × Nat)) (s : State) :
    endEntry p id at? (withPorts v k s) = besidePorts v k (endEntry p id at? s) := by
  unfold endEntry
  rw [show byKey? (withPorts v k s) p id = byKey? s p id from rfl,
    show (withPorts v k s).contacts = s.contacts from rfl]
  cases byKey? s p id with
  | none => rfl
  | some n =>
    dsimp only
    rw [settle_withPorts]
    split
    · exact Prod.ext (endContact_withPorts ..) rfl
    · rfl

theorem touchEntry_withPorts (p : PortNo) (limit : Nat) (e : TouchEntry) (s : State) :
    touchEntry p limit e (withPorts v k s) = besidePorts v k (touchEntry p limit e s) := by
  unfold touchEntry
  split
  · split_ifs
    · rfl
    · split
      · exact downEntry_withPorts ..
      · exact moveEntry_withPorts ..
      · exact endEntry_withPorts ..
      · exact endEntry_withPorts ..
      · rfl
  · rfl

theorem touchAll_withPorts (p : PortNo) (limit : Nat) (es : List TouchEntry) (r : State × Bool) :
    touchAll p limit es (besidePorts v k r) = besidePorts v k (touchAll p limit es r) := by
  induction es generalizing r with
  | nil => rfl
  | cons e es ih =>
    show touchAll p limit es ((touchEntry p limit e (withPorts v k r.1)).1,
      r.2 || (touchEntry p limit e (withPorts v k r.1)).2) = _
    rw [touchEntry_withPorts]
    exact ih ((touchEntry p limit e r.1).1, r.2 || (touchEntry p limit e r.1).2)

end

end Sys2Proof.Machine
end

section
/-! ## TOUCH frames received (R111, R112, R133, R147, R189) -/

namespace Sys2Proof.Machine

open Sys2Proof.Safety
open Config

section

variable {p : PortNo} {s : State} {limit : Nat}

/-! ### A TOUCH frame on an UP port -/

theorem framed_upKind_of {kind : DeviceKind} (h : UpWith kind p s) : upKind (framed p s).ports[p] = some kind := by
  rw [framed_port]
  unfold upKind
  rw [if_pos h.1]
  exact h.2

/-- A TOUCH of an UP panel is read after the frame's SHUT (R133, R147). -/
theorem exec_touch (h : UpWith .panel p s) {payload : List Byte} (hlength : payload.length ≤ 96) :
    exec (.touch p payload) s = .next (publish (touchFrame p payload (framed p s)).marks s
      (touchFrame p payload (framed p s)).state) := by
  have hlinked : linked s.ports[p] = true := by
    unfold linked
    rw [h.1]
    rfl
  rw [exec_frameCommand (p := p) (payload := payload) (kind := kindTouch) (by simp [frameCommands, kindTouch])]
  unfold eventMarked
  rw [frameReceived_linked hlinked hlength]
  rfl

/-- A TOUCH frame that the Touch Router ignores leaves the trace of its SHUT alone. -/
theorem exec_touch_ignored (h : UpWith .panel p s) {payload : List Byte} (hlength : payload.length ≤ 96)
    (hignored : touchFrame p payload (framed p s) = unmarked (framed p s)) :
    exec (.touch p payload) s = .next (framed p s) := by
  rw [exec_touch h hlength, hignored]
  exact congrArg Host.Outcome.next (publish_framed p s)

/-- Before the panel's arrival is taken its frames are ignored (R146). -/
theorem touchFrame_noPanel (hpanel : s.panels[p] = none) (payload : List Byte) : touchFrame p payload s = unmarked s := by
  unfold touchFrame touch
  split_ifs
  · rw [hpanel]
    cases payload <;> rfl
  · rfl

/-- A frame with no entry, more than ten, or another length is ignored (R112, R189). -/
theorem touchFrame_misfit {payload : List Byte} (h : ∀ count rest, payload = count :: rest →
    count.toNat = 0 ∨ 10 < count.toNat ∨ rest.length ≠ 6 * count.toNat) : touchFrame p payload s = unmarked s := by
  unfold touchFrame
  split_ifs with hfits
  · obtain ⟨-, hfits, -⟩ := hfits
    cases payload with
    | nil => rfl
    | cons count rest =>
      have hrest : rest.length = 6 * count.toNat := of_decide_eq_true hfits
      have hcount : count.toNat = 0 ∨ 10 < count.toNat :=
        (h count rest rfl).imp_right fun h => h.resolve_right (not_not.mpr hrest)
      unfold touch
      cases s.panels[p] with
      | none => rfl
      | some limit => exact if_pos hcount
  · rfl

/-! ### The entries of a frame (R112, R189) -/

theorem touchEntries_append {e : List Byte} (he : e.length = 6) (rest : List Byte) :
    touchEntries (e ++ rest) = touchEntries e ++ touchEntries rest := by
  match e, he with
  | [_, _, _, _, _, _], _ => rfl

theorem touchEntries_flatten {es : List (List Byte)} (h : ∀ e ∈ es, e.length = 6) :
    touchEntries es.flatten = es.flatMap touchEntries := by
  induction es with
  | nil => rfl
  | cons e es ih =>
    rw [List.forall_mem_cons] at h
    rw [List.flatten_cons, touchEntries_append h.1, ih h.2, List.flatMap_cons]

theorem flatten_length {es : List (List Byte)} (h : ∀ e ∈ es, e.length = 6) : es.flatten.length = 6 * es.length := by
  rw [List.length_flatten, List.map_eq_replicate_iff.mpr h, List.sum_replicate, smul_eq_mul, mul_comm]

/-- The state after a frame whose entries leave `r`: the frame's SHUT, and the port entries published (R111, R184). -/
def touched (p : PortNo) (s : State) (r : State × Bool) : State :=
  publish (if r.2 then [p] else []) s (withPorts (framed p s).ports s.portCount r.1)

/-- The entries of a frame act one after another (R112). -/
theorem exec_touchEntries (h : UpWith .panel p s) (hlimit : s.panels[p] = some limit) {es : List (List Byte)}
    (hes : ∀ e ∈ es, e.length = 6) (hmin : 1 ≤ es.length) (hmax : es.length ≤ 10) :
    exec (.touch p (touchFrameOf es)) s =
      .next (touched p s (touchAll p limit (es.flatMap touchEntries) (s, false))) := by
  have hcount : (byteOf es.length).toNat = es.length := byteOf_toNat (by omega)
  have hrest := flatten_length hes
  have hlength : (touchFrameOf es).length ≤ 96 := by
    show es.flatten.length + 1 ≤ 96
    omega
  have hfits : touchFits (touchFrameOf es) = true :=
    decide_eq_true (hrest.trans (congrArg (6 * ·) hcount.symm))
  have hentries : touchAll p limit (touchEntries es.flatten) (framed p s, false) =
      besidePorts (framed p s).ports s.portCount (touchAll p limit (es.flatMap touchEntries) (s, false)) := by
    rw [touchEntries_flatten hes, ← touchAll_withPorts]
    rfl
  have htouch : touch p (touchFrameOf es) (framed p s) =
      { state := withPorts (framed p s).ports s.portCount (touchAll p limit (es.flatMap touchEntries) (s, false)).1
        marks := if (touchAll p limit (es.flatMap touchEntries) (s, false)).2 then [p] else [] } := by
    unfold touch touchFrameOf
    rw [show (framed p s).panels[p] = some limit from hlimit]
    dsimp only
    rw [hcount, if_neg (by omega), hentries]
    rfl
  rw [exec_touch h hlength]
  unfold touchFrame
  rw [if_pos ⟨framed_upKind_of h, hfits, hlength⟩, htouch]
  rfl

theorem touchEntries_one (id phase : Byte) (x y : Half) : touchEntries ([id, phase] ++ halfBytes x ++ halfBytes y) =
    [{ id := id.toNat, phase := phase.toNat, x := x.toNat, y := y.toNat }] := by
  show [TouchEntry.mk _ _ (halfOf (loByte x) (hiByte x)).toNat (halfOf (loByte y) (hiByte y)).toNat] = _
  rw [halfOf_lo_hi, halfOf_lo_hi]

/-- A frame of one entry (R112). -/
theorem exec_touchOne (h : UpWith .panel p s) (hlimit : s.panels[p] = some limit) (id phase : Byte) (x y : Half) :
    exec (.touch p (touchFrameOf [[id, phase] ++ halfBytes x ++ halfBytes y])) s =
      .next (touched p s (touchEntry p limit { id := id.toNat, phase := phase.toNat, x := x.toNat, y := y.toNat } s)) := by
  rw [exec_touchEntries h hlimit (List.forall_mem_singleton.mpr rfl) (Nat.le_refl 1) (Nat.le_add_left 1 9),
    List.flatMap_singleton, touchEntries_one]
  exact congrArg (fun made => Host.Outcome.next (touched p s (_, made))) (Bool.false_or _)

/-! ### What a frame leaves (R111, R184) -/

theorem touched_eq {r : State × Bool} (h : TouchStep s r.1) : ∃ k : Vector Byte 8,
    touched p s r = withPorts (framed p s).ports k r.1 ∧ (r.2 = true → k[p] = s.portCount[p] + 1) := by
  obtain ⟨t, made⟩ := r
  obtain ⟨_, _, _, _, _, rfl⟩ := h
  refine ⟨_, publish_portsOnly _ rfl rfl rfl rfl, fun hmade => ?_⟩
  obtain rfl : made = true := hmade
  exact publish_portCount_marked (.head _) _ _

/-- Entries that leave what the port entries show of contacts publish nothing. -/
theorem touched_unshown {t : State} (h : TouchStep s t) (hshow : ∀ q, panelPart t q = panelPart s q) :
    touched p s (t, false) = withPorts (framed p s).ports s.portCount t := by
  obtain ⟨_, _, _, _, _, rfl⟩ := h
  refine publish_same (fun q => ?_) (fun _ => rfl) (fun _ => rfl) rfl
  have hport := framed_portPart p s q
  show padTo 63 (_ ++ panelPart s q) = padTo 63 (portPart (framed p s).ports[q] ++ printerPart s.printers[q]
    s.printerSet[q] ++ scannerPart s.scanners[q] s.scannerSet[q] ++ panelPart _ q)
  rw [hport, ← hshow q]
  rfl

/-- Entries that do nothing leave the trace of the frame's SHUT alone. -/
theorem touched_nothing (p : PortNo) (s : State) : touched p s (s, false) = framed p s :=
  touched_unshown (.refl s) fun _ => rfl

end

end Sys2Proof.Machine
end

section
/-! ## Where a TOUCH entry acts: its key, its zone and a free record (R103, R109, R114) -/

namespace Sys2Proof.Machine

open Sys2Proof.Safety
open Config

section

variable {p : PortNo} {id : ContactId} {x y : Nat} {s : State} {n : ContactNo} {z : ZoneNo} {a : Zone}

/-! ### The record that holds a key (R109) -/

theorem unheld_of (h : ∀ n c, s.contacts[(n : ContactNo)] = some c → keyHeld c = true → ¬ (c.port = p ∧ c.id = id)) :
    Unheld p id s := fun n hn => by
  obtain ⟨c, hc, hheld, hport, hid⟩ := (heldKey_eq_some ..).mp hn
  exact h n c hc hheld ⟨hport, hid⟩

theorem byKey?_of_unheld (h : Unheld p id s) : byKey? s p id = none := by
  cases hkey : byKey? s p id with
  | none => rfl
  | some n => exact absurd (byKey?_some hkey) (h n)

/-- The record that alone holds a key is found for it (R109). -/
theorem byKey?_of_held {c : Contact} (hc : s.contacts[n] = some c) (hheld : keyHeld c = true) (hport : c.port = p)
    (hid : c.id = id)
    (hsole : ∀ m c, s.contacts[(m : ContactNo)] = some c → keyHeld c = true → c.port = p → c.id = id → m = n) :
    byKey? s p id = some n := by
  have hn : heldKey s.contacts[n] = some (p, id) := (heldKey_eq_some ..).mpr ⟨c, hc, hheld, hport, hid⟩
  cases hkey : byKey? s p id with
  | none => exact absurd hn (byKey?_none hkey n)
  | some m =>
    obtain ⟨d, hd, hheld, hport, hid⟩ := (heldKey_eq_some ..).mp (byKey?_some hkey)
    rw [hsole m d hd hheld hport hid]

theorem keysOk_sole (h : KeysOk s) {c : Contact} (hc : s.contacts[n] = some c) (hheld : keyHeld c = true)
    (hport : c.port = p) (hid : c.id = id) :
    ∀ m d, s.contacts[(m : ContactNo)] = some d → keyHeld d = true → d.port = p → d.id = id → m = n :=
  fun m d hd hheldd hportd hidd =>
    h m n d c hd hc hheldd hheld (hportd.trans hport.symm) (hidd.trans hid.symm)

/-! ### A free record (R109, R117) -/

theorem freeContact_none (h : ∀ n : ContactNo, s.contacts[n] ≠ none) : lowest? s.contacts Option.isNone = none := by
  unfold lowest?
  rw [← Fin.find?_eq_find?_finRange, Fin.find?_eq_none_iff]
  exact fun n => Bool.eq_false_iff.mpr fun hn => h n (Option.isNone_iff_eq_none.mp hn)

theorem freeContact_lowest (hn : s.contacts[n] = none) (hlow : ∀ m < n, s.contacts[m] ≠ none) :
    lowest? s.contacts Option.isNone = some n := by
  unfold lowest?
  rw [← Fin.find?_eq_find?_finRange, Fin.find?_eq_some_iff]
  exact ⟨Option.isNone_iff_eq_none.mpr hn,
    fun m hm => Bool.eq_false_iff.mpr fun h => hlow m hm (Option.isNone_iff_eq_none.mp h)⟩

/-! ### The zone of a position (R103, R104, R114) -/

theorem inRect_iff (m : Mapping) (x y : Nat) :
    inRect m x y = true ↔ m.x0 ≤ x ∧ x < m.x1 ∧ m.y0 ≤ y ∧ y < m.y1 := by
  unfold inRect
  simp only [Bool.and_eq_true, decide_eq_true_eq, and_assoc]

/-- What the search for a zone finds is a zone that contains the position. -/
theorem zoneAt?_found (h : zoneAt? s p x y = some (z, a)) :
    s.zones[z] = some a ∧ a.port = p ∧ inRect a.map x y = true := by
  obtain ⟨w, -, hw⟩ := List.exists_of_findSome?_eq_some h
  cases ha : s.zones[w] with
  | none =>
    rw [ha] at hw
    cases hw
  | some b =>
    rw [ha] at hw
    dsimp only at hw
    split_ifs at hw with hin
    cases hw
    exact ⟨ha, hin⟩

theorem zoneAt?_none (h : ∀ z a, s.zones[(z : ZoneNo)] = some a → a.port = p →
    ¬ (a.map.x0 ≤ x ∧ x < a.map.x1 ∧ a.map.y0 ≤ y ∧ y < a.map.y1)) : zoneAt? s p x y = none := by
  cases hfound : zoneAt? s p x y with
  | none => rfl
  | some r =>
    obtain ⟨hz, hport, hin⟩ := zoneAt?_found (z := r.1) (a := r.2) hfound
    exact absurd ((inRect_iff ..).mp hin) (h r.1 r.2 hz hport)

/-- Zones of a port do not overlap, so the one that contains a position is found (R104). -/
theorem zoneAt?_some (hzones : ZonesOk s) (hz : s.zones[z] = some a) (hport : a.port = p)
    (hin : inRect a.map x y = true) : zoneAt? s p x y = some (z, a) := by
  cases hfound : zoneAt? s p x y with
  | none =>
    have hnone := List.findSome?_eq_none_iff.mp hfound z (List.mem_finRange z)
    rw [hz] at hnone
    exact absurd ((if_pos ⟨hport, hin⟩).symm.trans hnone) nofun
  | some r =>
    obtain ⟨w, b⟩ := r
    obtain ⟨hw, hportb, hinb⟩ := zoneAt?_found hfound
    by_cases hne : w = z
    · subst hne
      cases hz.symm.trans hw
      rfl
    · have hover : overlaps b.map a.map = true := by
        rw [inRect_iff] at hin hinb
        rw [overlaps_iff]
        omega
      obtain ⟨-, hdisjoint, -⟩ := hzones
      exact absurd hover (Bool.eq_false_iff.mp (hdisjoint w z b a hw hz hne (hportb.trans hport.symm)))

end

/-! ### Contacts shown (R111) -/

/-- A record whose port and condition count as before leaves the panel part of every entry as it is. -/
theorem panelPart_put {s t : State} {n : ContactNo} {c d : Contact} (hzones : t.zones = s.zones)
    (ht : t.contacts = put s.contacts n (some d)) (hc : s.contacts[n] = some c) (hport : d.port = c.port)
    (hcond : ∀ test ∈ [isLive, isClosing, isSuppressed, isIgnored], test d.cond = test c.cond) (q : PortNo) :
    panelPart t q = panelPart s q := by
  have hcount : ∀ test ∈ [isLive, isClosing, isSuppressed, isIgnored], contactCount t q test = contactCount s q test :=
    fun test htest => by
      rw [contactCount_eq, contactCount_eq]
      refine List.countP_congr fun m _ => ?_
      rw [ht, Fin.getElem_fin, put_get_eq]
      split_ifs with hm
      · subst hm
        rw [hc, Option.any_some, Option.any_some, hport, hcond test htest]
      · rfl
  rw [List.forall_mem_cons, List.forall_mem_cons, List.forall_mem_cons, List.forall_mem_singleton] at hcount
  obtain ⟨hlive, hclosing, hsuppressed, hignored⟩ := hcount
  unfold panelPart
  rw [hlive, hclosing, hsuppressed, hignored]
  unfold zoneSet
  rw [hzones]

end Sys2Proof.Machine
end

section
/-! ## TOUCH entries taken, and touch-downs (R112, R114–R117) -/

namespace Sys2Proof.Machine

open Sys2Proof.Safety
open Config

section

variable {p : PortNo} {id : ContactId} {phase x y : Nat} {s : State} {n : ContactNo} {i : Instr}

/-! ### One entry (R112) -/

/-- An entry with this id and position is taken on the port: its panel is UP and has arrived, and both are within their
limits (R112, R146). -/
structure EntryTaken (p : PortNo) (id : ContactId) (x y : Nat) (s : State) : Prop where
  up : UpWith .panel p s
  id_lt : ∃ limit, s.panels[p] = some limit ∧ id.val < limit
  x_le : x ≤ 4095
  y_le : y ≤ 4095

/-- What an entry does, by its phase (R112). -/
def entryDone (p : PortNo) (id : ContactId) (phase x y : Nat) (s : State) : State × Bool :=
  match phase with
  | 0 => downEntry p id x y s
  | 1 => moveEntry p id x y s
  | 2 => endEntry p id (some (x, y)) s
  | 3 => endEntry p id none s
  | _ => (s, false)

theorem touchEntry_done {limit : Nat} (hid : id.val < limit) (hx : x ≤ 4095) (hy : y ≤ 4095) :
    touchEntry p limit { id := id.val, phase := phase, x := x, y := y } s = entryDone p id phase x y s := by
  unfold touchEntry
  dsimp only
  rw [index?_eq_some id rfl]
  exact if_neg (by omega)

theorem halfOfNat_toNat (h : x ≤ 4095) : (halfOfNat x).toNat = x := Nat.mod_eq_of_lt (Nat.lt_of_le_of_lt h (by decide))

theorem exec_oneTouch (h : EntryTaken p id x y s) (hphase : phase ≤ 3) :
    exec (.touch p (oneTouch id phase x y)) s = .next (touched p s (entryDone p id phase x y s)) := by
  obtain ⟨hup, ⟨limit, hlimit, hid⟩, hx, hy⟩ := h
  have hone := exec_touchOne hup hlimit (byteOf id.val) (byteOf phase) (halfOfNat x) (halfOfNat y)
  rw [byteOf_toNat (Nat.lt_trans id.isLt (by decide)), byteOf_toNat (Nat.lt_of_le_of_lt hphase (by decide)),
    halfOfNat_toNat hx, halfOfNat_toNat hy, touchEntry_done hid hx hy] at hone
  exact hone

theorem exec_down (h : EntryTaken p id x y s) :
    exec (.touch p (oneTouch id 0 x y)) s = .next (touched p s (downEntry p id x y s)) := exec_oneTouch h (by decide)

/-! ### What an entry leaves (R111, R184) -/

/-- An entry done publishes port entries alone. -/
theorem exec_published {r : State × Bool} (hexec : exec i s = .next (touched p s r)) (hstep : TouchStep s r.1) :
    ∃ k : Vector Byte 8, exec i s = .next (withPorts (framed p s).ports k r.1) ∧
      (r.2 = true → k[p] = s.portCount[p] + 1) := by
  obtain ⟨k, hk, hcount⟩ := touched_eq (p := p) hstep
  exact ⟨k, hexec.trans (congrArg Host.Outcome.next hk), hcount⟩

/-- A touch record written and a contact record set beside it. -/
theorem exec_written {st : StationNo} {r : Record} {c : Option Contact} {k : Vector Byte 8} (hw : canWrite s st r = true)
    (hexec : exec i s =
      .next (withPorts (framed p s).ports k (setContact (writeRecord st r (s.time.setWidth 16) s) n c))) :
    ∃ t, exec i s = .next t ∧ Told (writeRecord st r (s.time.setWidth 16) s) t ∧ MemoryKept s t (InRing st) ∧
      t.portCount = k ∧
      t = { framed p s with
        contacts := put s.contacts n c, mem := t.mem, delivery := t.delivery, notice := t.notice
        portCount := t.portCount } := by
  have hbytes := writeRecord_bytes (canWrite_fits hw) (s.time.setWidth 16)
  obtain ⟨_, _, _, hframe⟩ := writeRecord_frame st r (s.time.setWidth 16) s
  generalize writeRecord st r (s.time.setWidth 16) s = g at hexec hbytes hframe ⊢
  subst hframe
  exact ⟨_, hexec, ⟨rfl, rfl, rfl⟩, hbytes, rfl, rfl⟩

theorem offer?_written {st : StationNo} {r : Record} (h : canWrite s st r = true) :
    offer? st r s = some (writeRecord st r (s.time.setWidth 16) s) := if_pos h

theorem offer?_unwritten {st : StationNo} {r : Record} (h : canWrite s st r = false) : offer? st r s = none :=
  if_neg (Bool.eq_false_iff.mp h)

/-! ### A DOWN entry on a held key (R114) -/

theorem EntryTaken.step {t : State} (h : EntryTaken p id x y s) (hstep : ContactsStep s t) : EntryTaken p id x y t := by
  obtain ⟨_, _, _, _, rfl⟩ := hstep
  exact ⟨h.up, h.id_lt, h.x_le, h.y_le⟩

theorem downTaken_touch (p : PortNo) (id : ContactId) (x y : Nat) (s : State) : TouchStep s (downTaken p id x y s).1 := by
  unfold downTaken
  cases s.touchMode with
  | running => exact downRunning_touch ..
  | quiet => exact downQuiet_touch ..

/-- The contact that holds the key of a DOWN entry ends first, and the entry acts on what is left (R114). -/
theorem exec_down_held (h : EntryTaken p id x y s) (hkeys : KeysOk s) {c : Contact} (hc : s.contacts[n] = some c)
    (hheld : keyHeld c = true) (hport : c.port = p) (hid : c.id = id) :
    ∃ t u, exec (.touch p (oneTouch id 0 x y)) s = .next t ∧
      exec (.touch p (oneTouch id 0 x y)) (cancelled s n) = .next u ∧ t = { u with portCount := t.portCount } ∧
      t.portCount[p] = s.portCount[p] + 1 := by
  have hkey : byKey? s p id = some n := byKey?_of_held hc hheld hport hid (keysOk_sole hkeys hc hheld hport hid)
  have hfree : byKey? (cancelled s n) p id = none :=
    byKey?_of_unheld (settle_eq_cancelled n s ▸ settle_byKey_unheld hkeys hkey)
  have hs := exec_down h
  have hu := exec_down (h.step (cancelled_step s n))
  rw [downEntry_held hkey, settle_eq_cancelled] at hs
  rw [downEntry_unheld hfree] at hu
  have hstep := downTaken_touch p id x y (cancelled s n)
  obtain ⟨_, _, _, _, hframe⟩ := cancelled_step s n
  generalize cancelled s n = c at hs hu hstep hframe ⊢
  generalize downTaken p id x y c = r at hs hu hstep
  have hsr : TouchStep s r.1 := .trans (by rw [hframe]; exact ⟨_, _, _, _, _, rfl⟩) hstep
  obtain ⟨k, hk, hcount⟩ := exec_published hs hsr
  obtain ⟨j, hj, -⟩ := exec_published hu hstep
  refine ⟨_, _, hk, hj, ?_, hcount rfl⟩
  rw [show (framed p c).ports = (framed p s).ports by rw [hframe]; rfl]
  rfl

/-! ### A touch-down in QUIET (R116) -/

theorem makeContact_full (hfull : ∀ n : ContactNo, s.contacts[n] ≠ none) (cond : Contact.Condition) :
    makeContact p id cond s = (s, false) := by
  unfold makeContact
  rw [freeContact_none hfull]

theorem makeContact_free (hn : s.contacts[n] = none) (hlow : ∀ m < n, s.contacts[m] ≠ none) (cond : Contact.Condition) :
    makeContact p id cond s = (setContact s n (some { port := p, id := id, cond := cond }), true) := by
  unfold makeContact
  rw [freeContact_lowest hn hlow]

/-- The zone of a touch-down in QUIET, and the wake-touch reports after it (R116). -/
def QuietPlace (p : PortNo) (x y : Nat) (s : State) (place : Option (ZoneNo × StationNo)) (reports : List ZoneNo) : Prop :=
  (place = none ∧ reports = s.wakeReports ∧
      (∀ z a, s.zones[(z : ZoneNo)] = some a → a.port = p →
        ¬ (a.map.x0 ≤ x ∧ x < a.map.x1 ∧ a.map.y0 ≤ y ∧ y < a.map.y1))) ∨
    (∃ z a, s.zones[(z : ZoneNo)] = some a ∧ a.port = p ∧
      a.map.x0 ≤ x ∧ x < a.map.x1 ∧ a.map.y0 ≤ y ∧ y < a.map.y1 ∧
      place = some (z, a.station) ∧ reports = if a.wake then s.wakeReports ++ [z] else s.wakeReports)

theorem downTaken_quiet (hmode : s.touchMode = .quiet) (hzones : ZonesOk s) {place : Option (ZoneNo × StationNo)}
    {reports : List ZoneNo} (h : QuietPlace p x y s place reports) :
    downTaken p id x y s = makeContact p id (.ignored place) { s with wakeReports := reports } := by
  have hquiet : downTaken p id x y s = downQuiet p id x y s := by
    unfold downTaken
    rw [hmode]
  rw [hquiet]
  unfold downQuiet
  rcases h with ⟨rfl, rfl, hno⟩ | ⟨z, a, hz, hport, hx0, hx1, hy0, hy1, rfl, rfl⟩
  · rw [zoneAt?_none hno]
  · rw [zoneAt?_some hzones hz hport ((inRect_iff ..).mpr ⟨hx0, hx1, hy0, hy1⟩)]
    dsimp only
    split_ifs <;> rfl

theorem exec_down_quiet (h : EntryTaken p id x y s) (hzones : ZonesOk s) (hmode : s.touchMode = .quiet)
    (hkey : Unheld p id s) {place : Option (ZoneNo × StationNo)} {reports : List ZoneNo}
    (hplace : QuietPlace p x y s place reports) :
    ((∀ n : ContactNo, s.contacts[n] ≠ none) →
      exec (.touch p (oneTouch id 0 x y)) s = .next { framed p s with wakeReports := reports }) ∧
    ∀ n : ContactNo, s.contacts[n] = none → (∀ m < n, s.contacts[m] ≠ none) →
      ∃ t, exec (.touch p (oneTouch id 0 x y)) s = .next t ∧
        t = { framed p s with
          wakeReports := reports, portCount := t.portCount
          contacts := put s.contacts n (some { port := p, id := id, cond := .ignored place : Contact }) } := by
  have hexec := exec_down h
  rw [downEntry_unheld (byKey?_of_unheld hkey), downTaken_quiet hmode hzones hplace] at hexec
  refine ⟨fun hfull => ?_, fun n hn hlow => ?_⟩
  · rw [makeContact_full (s := { s with wakeReports := reports }) hfull,
      touched_unshown ⟨_, _, _, _, _, rfl⟩ fun _ => rfl] at hexec
    exact hexec
  · rw [makeContact_free (s := { s with wakeReports := reports }) hn hlow] at hexec
    obtain ⟨k, hk, -⟩ := exec_published hexec ⟨_, _, _, _, _, rfl⟩
    exact ⟨_, hk, rfl⟩

/-! ### A touch-down in RUNNING (R115, R117) -/

theorem downTaken_running (hmode : s.touchMode = .running) : downTaken p id x y s = downRunning p id x y s := by
  unfold downTaken
  rw [hmode]

theorem exec_down_running (h : EntryTaken p id x y s) (hmode : s.touchMode = .running) (hkey : Unheld p id s) :
    exec (.touch p (oneTouch id 0 x y)) s = .next (touched p s (downRunning p id x y s)) := by
  rw [exec_down h, downEntry_unheld (byKey?_of_unheld hkey), downTaken_running hmode]

/-- With the contact table full a touch-down is dropped, wherever it is (R117). -/
theorem downRunning_full (hfull : ∀ n : ContactNo, s.contacts[n] ≠ none) : downRunning p id x y s = (s, false) := by
  unfold downRunning
  cases zoneAt? s p x y with
  | none => exact makeContact_full hfull _
  | some r =>
    dsimp only
    split_ifs
    · unfold bindContact
      rw [freeContact_none hfull]
    · exact makeContact_full hfull _

/-- A touch-down that makes a record without a ring record or a gap. -/
theorem exec_ignored_down {cond : Contact.Condition} (hn : s.contacts[n] = none) (hlow : ∀ m < n, s.contacts[m] ≠ none)
    (hexec : exec i s = .next (touched p s (makeContact p id cond s))) :
    ∃ t, exec i s = .next t ∧
      t = { framed p s with
        contacts := put s.contacts n (some { port := p, id := id, cond := cond : Contact }), portCount := t.portCount } := by
  rw [makeContact_free hn hlow] at hexec
  obtain ⟨k, hk, -⟩ := exec_published hexec ⟨_, _, _, _, _, rfl⟩
  exact ⟨_, hk, rfl⟩

end

end Sys2Proof.Machine
end

section
/-! ## Touch-downs in a zone, in RUNNING (R115, R117) -/

namespace Sys2Proof.Machine

open Sys2Proof.Safety
open Config

section

variable {p : PortNo} {id : ContactId} {x y : Nat} {s : State} {n : ContactNo} {z : ZoneNo} {a : Zone}

theorem downRunning_outside (hno : zoneAt? s p x y = none) :
    downRunning p id x y s = makeContact p id (.ignored none) s := by
  unfold downRunning
  rw [hno]

theorem downRunning_unserved (hzone : zoneAt? s p x y = some (z, a))
    (h : inService s a.station = false ∨ permitted s a.station p = false) :
    downRunning p id x y s = makeContact p id (.ignored (some (z, a.station))) s := by
  unfold downRunning
  rw [hzone]
  refine if_neg fun hserved => ?_
  obtain ⟨hservice, hpermit⟩ := Bool.and_eq_true_iff.mp hserved
  exact h.elim (Bool.eq_false_iff.mp · hservice) (Bool.eq_false_iff.mp · hpermit)

theorem downRunning_served (hzone : zoneAt? s p x y = some (z, a)) (hservice : inService s a.station = true)
    (hpermit : permitted s a.station p = true) : downRunning p id x y s = bindContact p id z a x y s := by
  unfold downRunning
  rw [hzone]
  exact if_pos (Bool.and_eq_true_iff.mpr ⟨hservice, hpermit⟩)

/-- What a contact bound to a zone captures at its touch-down (R109, R115). -/
def captured (z : ZoneNo) (a : Zone) (x y : Nat) (s : State) : Bound :=
  { zone := z, station := a.station, map := a.map, last := { pos := mapRaw a.map x y, stamp := s.time.setWidth 16 } }

/-- A touch-down is bound live where TOUCH DOWN can be written, and suppressed with a gap owed where not (R115). -/
theorem bindContact_free (hn : s.contacts[n] = none) (hlow : ∀ m < n, s.contacts[m] ≠ none) :
    bindContact p id z a x y s =
      if canWrite s a.station (.touch .down p id n z (mapRaw a.map x y)) then
        (setContact (writeRecord a.station (.touch .down p id n z (mapRaw a.map x y)) (s.time.setWidth 16) s) n
          (some { port := p, id := id, cond := .live (captured z a x y s) none }), true)
      else
        (setGap (setContact s n (some { port := p, id := id, cond := .suppressed z a.station })) a.station, true) := by
  unfold bindContact
  rw [freeContact_lowest hn hlow]
  dsimp only
  split_ifs with hw
  · rw [offer?_written hw]
    rfl
  · rw [offer?_unwritten (Bool.eq_false_iff.mpr hw)]

theorem exec_down_live (h : EntryTaken p id x y s) (hmode : s.touchMode = .running) (hkey : Unheld p id s)
    (hn : s.contacts[n] = none) (hlow : ∀ m < n, s.contacts[m] ≠ none) (hzone : zoneAt? s p x y = some (z, a))
    (hservice : inService s a.station = true) (hpermit : permitted s a.station p = true)
    (hw : canWrite s a.station (.touch .down p id n z (mapRaw a.map x y)) = true) :
    ∃ t, exec (.touch p (oneTouch id 0 x y)) s = .next t ∧
      Told (writeRecord a.station (.touch .down p id n z (mapRaw a.map x y)) (s.time.setWidth 16) s) t ∧
      MemoryKept s t (InRing a.station) ∧
      t = { framed p s with
        contacts := put s.contacts n (some { port := p, id := id, cond := .live (captured z a x y s) none : Contact })
        mem := t.mem, delivery := t.delivery, notice := t.notice, portCount := t.portCount } := by
  have hexec := exec_down_running h hmode hkey
  rw [downRunning_served hzone hservice hpermit, bindContact_free hn hlow, if_pos hw] at hexec
  obtain ⟨k, hk, -⟩ := exec_published hexec ((writeRecord_frame ..).touch.trans (setContact_touch ..))
  obtain ⟨t, ht, htold, hbytes, -, hframe⟩ := exec_written hw hk
  exact ⟨t, ht, htold, hbytes, hframe⟩

theorem exec_down_suppressed (h : EntryTaken p id x y s) (hmode : s.touchMode = .running) (hkey : Unheld p id s)
    (hn : s.contacts[n] = none) (hlow : ∀ m < n, s.contacts[m] ≠ none) (hzone : zoneAt? s p x y = some (z, a))
    (hservice : inService s a.station = true) (hpermit : permitted s a.station p = true)
    (hw : canWrite s a.station (.touch .down p id n z (mapRaw a.map x y)) = false) :
    ∃ t, exec (.touch p (oneTouch id 0 x y)) s = .next t ∧
      t = { framed p s with
        contacts := put s.contacts n (some { port := p, id := id, cond := .suppressed z a.station : Contact })
        portCount := t.portCount
        delivery := put s.delivery a.station { s.delivery[a.station] with gap := true } } := by
  have hexec := exec_down_running h hmode hkey
  rw [downRunning_served hzone hservice hpermit, bindContact_free hn hlow, if_neg (Bool.eq_false_iff.mp hw)] at hexec
  obtain ⟨k, hk, -⟩ := exec_published hexec ⟨_, _, _, _, _, rfl⟩
  exact ⟨_, hk, rfl⟩

end

/-- Settles O58: the key settled first, then the touch-down by mode, zone, station and room. -/
theorem touchDownsAreBound : Obligations.TouchDownsAreBound := by
  refine ⟨fun p id x y limit n c s hup hkeys hlimit hid hx hy hc hheld hport hcid =>
      exec_down_held ⟨hup, ⟨limit, hlimit, hid⟩, hx, hy⟩ hkeys hc hheld hport hcid,
    fun p id x y limit s hup hzones hlimit hid hx hy hmode hkey place reports hplace =>
      exec_down_quiet ⟨hup, ⟨limit, hlimit, hid⟩, hx, hy⟩ hzones hmode (unheld_of hkey) hplace,
    fun p id x y limit s hup hzones hlimit hid hx hy hmode hkey => ?_⟩
  have htaken : EntryTaken p id x y s := ⟨hup, ⟨limit, hlimit, hid⟩, hx, hy⟩
  have hfree : Unheld p id s := unheld_of hkey
  have hexec := exec_down_running htaken hmode hfree
  refine ⟨fun hfull => ?_, fun n hn hlow => ⟨fun hno => ?_, fun z a hz hport hx0 hx1 hy0 hy1 => ?_⟩⟩
  · rw [hexec, downRunning_full hfull, touched_nothing]
  · rw [downRunning_outside (zoneAt?_none hno)] at hexec
    exact exec_ignored_down hn hlow hexec
  · have hzone := zoneAt?_some hzones hz hport ((inRect_iff ..).mpr ⟨hx0, hx1, hy0, hy1⟩)
    refine ⟨fun hunserved => ?_, exec_down_live htaken hmode hfree hn hlow hzone,
      exec_down_suppressed htaken hmode hfree hn hlow hzone⟩
    rw [downRunning_unserved hzone hunserved] at hexec
    exact exec_ignored_down hn hlow hexec

end Sys2Proof.Machine
end

section
/-! ## Moves, lifts and lost contacts (R113, R118, R119) -/

namespace Sys2Proof.Machine

open Sys2Proof.Safety
open Config

section

variable {p : PortNo} {id : ContactId} {phase x y : Nat} {s : State} {n : ContactNo}

/-! ### Entries without a live contact (R118, R119) -/

/-- MOVE, UP and LOST entries do nothing where no record holds the key. -/
theorem entryDone_unheld (hmin : 1 ≤ phase) (hmax : phase ≤ 3) (hkey : byKey? s p id = none) :
    entryDone p id phase x y s = (s, false) := by
  have hmove : moveEntry p id x y s = (s, false) := by
    unfold moveEntry
    rw [hkey]
  have hend : ∀ at?, endEntry p id at? s = (s, false) := fun at? => by
    unfold endEntry
    rw [hkey]
  obtain rfl | rfl | rfl : phase = 1 ∨ phase = 2 ∨ phase = 3 := by omega
  · exact hmove
  · exact hend _
  · exact hend _

theorem moveEntry_idle {c : Contact} (hkey : byKey? s p id = some n) (hc : s.contacts[n] = some c)
    (hidle : (∃ z st, c.cond = .suppressed z st) ∨ ∃ place, c.cond = .ignored place) :
    moveEntry p id x y s = (s, false) := by
  unfold moveEntry
  rw [hkey]
  dsimp only
  rw [hc]
  dsimp only
  rcases hidle with ⟨z, st, hcond⟩ | ⟨place, hcond⟩ <;> rw [hcond]

/-- A suppressed or ignored record is freed at its end (R119). -/
theorem endEntry_idle {c : Contact} (hkey : byKey? s p id = some n) (hc : s.contacts[n] = some c)
    (hidle : (∃ z st, c.cond = .suppressed z st) ∨ ∃ place, c.cond = .ignored place) (at? : Option (Nat × Nat)) :
    endEntry p id at? s = (setContact s n none, true) := by
  obtain ⟨q, i, cond⟩ := c
  unfold endEntry settle
  rw [hkey]
  dsimp only
  rw [hc]
  rcases hidle with ⟨z, st, rfl⟩ | ⟨place, rfl⟩ <;> rfl

theorem idle_held {c : Contact} (hidle : (∃ z st, c.cond = .suppressed z st) ∨ ∃ place, c.cond = .ignored place) :
    keyHeld c = true := by
  unfold keyHeld
  rcases hidle with ⟨z, st, hcond⟩ | ⟨place, hcond⟩ <;> rw [hcond] <;> rfl

theorem exec_idle (h : EntryTaken p id x y s) (hmin : 1 ≤ phase) (hmax : phase ≤ 3) {c : Contact}
    (hkey : byKey? s p id = some n) (hc : s.contacts[n] = some c)
    (hidle : (∃ z st, c.cond = .suppressed z st) ∨ ∃ place, c.cond = .ignored place) :
    (phase = 1 → exec (.touch p (oneTouch id phase x y)) s = .next (framed p s)) ∧
    (phase ≠ 1 → ∃ t, exec (.touch p (oneTouch id phase x y)) s = .next t ∧
      t.portCount[p] = s.portCount[p] + 1 ∧
      t = { framed p s with contacts := put s.contacts n none, portCount := t.portCount }) := by
  have hexec := exec_oneTouch h hmax
  refine ⟨fun hmove => ?_, fun hend => ?_⟩
  · subst hmove
    rw [hexec, show entryDone p id 1 x y s = (s, false) from moveEntry_idle hkey hc hidle, touched_nothing]
  · have hdone : entryDone p id phase x y s = (setContact s n none, true) := by
      obtain rfl | rfl : phase = 2 ∨ phase = 3 := by omega
      all_goals exact endEntry_idle hkey hc hidle _
    rw [hdone] at hexec
    obtain ⟨k, hk, hcount⟩ := exec_published hexec (setContact_touch ..)
    exact ⟨_, hk, hcount rfl, rfl⟩

/-! ### Entries that name nothing (R112) -/

theorem touchEntry_bad {limit : Nat} {e : TouchEntry}
    (h : 15 < e.id ∨ limit ≤ e.id ∨ 3 < e.phase ∨ 4095 < e.x ∨ 4095 < e.y) : touchEntry p limit e s = (s, false) := by
  unfold touchEntry
  split
  · next hid =>
    split_ifs with hlimits
    · rfl
    · have hle : e.id < 16 := by
        by_contra hge
        rw [index?_eq_none (Nat.le_of_not_lt hge)] at hid
        cases hid
      split
      case h_5 => rfl
      all_goals omega
  · rfl

end

end Sys2Proof.Machine
end

section
/-! ## The end and the moves of a live contact, and frames of several entries (R112, R113, R118, R119) -/

namespace Sys2Proof.Machine

open Sys2Proof.Safety
open Config

section

variable {p : PortNo} {id : ContactId} {phase x y : Nat} {s : State} {n : ContactNo} {b : Bound} {move : Option Spot}

/-! ### Moves (R118) -/

/-- The spot that an entry at a raw position gives a contact (R126–R128, R167). -/
def mappedSpot (b : Bound) (x y : Nat) (s : State) : Spot := { pos := mapRaw b.map x y, stamp := s.time.setWidth 16 }

theorem moveLive_eq (n : ContactNo) (c : Contact) (b : Bound) (x y : Nat) (s : State) : moveLive n c b x y s =
    if movePasses b.map b.last.pos (mapRaw b.map x y) then
      if canWrite s b.station (.touch .move c.port c.id n b.zone (mapRaw b.map x y)) then
        setContact (writeRecord b.station (.touch .move c.port c.id n b.zone (mapRaw b.map x y)) (s.time.setWidth 16) s) n
          (some { c with cond := .live { b with last := mappedSpot b x y s } none })
      else setContact s n (some { c with cond := .live b (some (mappedSpot b x y s)) })
    else setContact s n (some { c with cond := .live b none }) := by
  unfold moveLive
  dsimp only
  split_ifs with hpass hw
  · rw [offer?_written hw]
    rfl
  · rw [offer?_unwritten (Bool.eq_false_iff.mpr hw)]
    rfl
  · rfl

theorem moveEntry_live (hkey : byKey? s p id = some n)
    (hc : s.contacts[n] = some { port := p, id := id, cond := .live b move }) :
    moveEntry p id x y s = (moveLive n { port := p, id := id, cond := .live b move } b x y s, false) := by
  unfold moveEntry
  rw [hkey]
  dsimp only
  rw [hc]

/-- A move changes no condition, so no port entry shows it (R111, R118). -/
theorem panelPart_live {t : State} (hzones : t.zones = s.zones) {b' : Bound} {move' : Option Spot}
    (hc : s.contacts[n] = some { port := p, id := id, cond := .live b move })
    (ht : t.contacts = put s.contacts n (some { port := p, id := id, cond := .live b' move' })) (q : PortNo) :
    panelPart t q = panelPart s q := by
  refine panelPart_put hzones ht hc rfl ?_ q
  simp only [List.forall_mem_cons, List.not_mem_nil, false_imp_iff, implies_true, and_true]
  exact ⟨rfl, rfl, rfl, rfl⟩

theorem exec_move (h : EntryTaken p id x y s) (hkey : byKey? s p id = some n)
    (hc : s.contacts[n] = some { port := p, id := id, cond := .live b move }) :
    exec (.touch p (oneTouch id 1 x y)) s =
      .next (touched p s (moveLive n { port := p, id := id, cond := .live b move } b x y s, false)) := by
  rw [exec_oneTouch h (by decide), show entryDone p id 1 x y s = _ from moveEntry_live hkey hc]

/-- A move that writes nothing sets the contact record alone (R118). -/
theorem touched_setLive (hc : s.contacts[n] = some { port := p, id := id, cond := .live b move })
    (move' : Option Spot) :
    touched p s (setContact s n (some { port := p, id := id, cond := .live b move' }), false) =
      { framed p s with contacts := put s.contacts n (some { port := p, id := id, cond := .live b move' }) } :=
  touched_unshown (setContact_touch ..) (panelPart_live rfl hc rfl)

theorem exec_move_written (h : EntryTaken p id x y s) (hkey : byKey? s p id = some n)
    (hc : s.contacts[n] = some { port := p, id := id, cond := .live b move })
    (hpass : movePasses b.map b.last.pos (mapRaw b.map x y) = true)
    (hw : canWrite s b.station (.touch .move p id n b.zone (mapRaw b.map x y)) = true) :
    ∃ t, exec (.touch p (oneTouch id 1 x y)) s = .next t ∧
      Told (writeRecord b.station (.touch .move p id n b.zone (mapRaw b.map x y)) (s.time.setWidth 16) s) t ∧
      MemoryKept s t (InRing b.station) ∧
      t = { framed p s with
        contacts := put s.contacts n
          (some { port := p, id := id, cond := .live { b with last := mappedSpot b x y s } none : Contact })
        mem := t.mem, delivery := t.delivery, notice := t.notice } := by
  have hexec := exec_move h hkey hc
  rw [moveLive_eq, if_pos hpass, if_pos hw] at hexec
  obtain ⟨_, _, _, hwrite⟩ :=
    writeRecord_frame b.station (.touch .move p id n b.zone (mapRaw b.map x y)) (s.time.setWidth 16) s
  rw [touched_unshown ((writeRecord_frame ..).touch.trans (setContact_touch ..))
    (panelPart_live (by rw [hwrite]; rfl) hc (by rw [hwrite]; rfl))] at hexec
  obtain ⟨t, ht, htold, hbytes, hcount, hframe⟩ := exec_written hw hexec
  rw [hcount] at hframe
  exact ⟨t, ht, htold, hbytes, hframe⟩

/-! ### Lifts and lost contacts (R113, R119) -/

theorem endContact_eq {c : Contact} {e : ContactEnd} {r : Record} (hr : endRecord n c b e = r) : endContact n c b e s =
    if canWrite s b.station r then setContact (writeRecord b.station r (s.time.setWidth 16) s) n none
    else setContact s n (some { c with cond := .closing b e }) := by
  unfold endContact
  rw [hr]
  split_ifs with hw
  · rw [offer?_written hw]
  · rw [offer?_unwritten (Bool.eq_false_iff.mpr hw)]

/-- The end of a contact that an entry makes: UP at its mapped position for a lift, CANCEL at the last delivered one for a LOST
entry (R113, R119). -/
def EndsAs (b : Bound) (x y : Nat) (s : State) (phase : Nat) (kind : TouchKind) (at' : Pos) (ending : ContactEnd) : Prop :=
  phase = 2 ∧ kind = .up ∧ at' = mapRaw b.map x y ∧ ending = .up (mappedSpot b x y s) ∨
    phase = 3 ∧ kind = .cancel ∧ at' = b.last.pos ∧ ending = .cancel

theorem exec_end {kind : TouchKind} {at' : Pos} {ending : ContactEnd} (h : EntryTaken p id x y s)
    (hkey : byKey? s p id = some n) (hc : s.contacts[n] = some { port := p, id := id, cond := .live b move })
    (hends : EndsAs b x y s phase kind at' ending) :
    exec (.touch p (oneTouch id phase x y)) s = .next (touched p s (
      if canWrite s b.station (.touch kind p id n b.zone at') then
        setContact (writeRecord b.station (.touch kind p id n b.zone at') (s.time.setWidth 16) s) n none
      else setContact s n (some { port := p, id := id, cond := .closing b ending }), true)) := by
  obtain ⟨rfl, rfl, rfl, rfl⟩ | ⟨rfl, rfl, rfl, rfl⟩ := hends
  · have hdone : entryDone p id 2 x y s = (endContact n { port := p, id := id, cond := .live b none } b
        (.up (mappedSpot b x y s)) s, true) := by
      show endEntry p id (some (x, y)) s = _
      unfold endEntry
      rw [hkey]
      dsimp only
      rw [hc]
      rfl
    rw [exec_oneTouch h (by decide), hdone, endContact_eq rfl]
    rfl
  · have hdone : entryDone p id 3 x y s =
        (endContact n { port := p, id := id, cond := .live b move } b .cancel s, true) := by
      show endEntry p id none s = _
      unfold endEntry settle
      rw [hkey]
      dsimp only
      rw [hc]
    rw [exec_oneTouch h (by decide), hdone, endContact_eq rfl]
    rfl

theorem exec_end_written {kind : TouchKind} {at' : Pos} {ending : ContactEnd} (h : EntryTaken p id x y s)
    (hkey : byKey? s p id = some n) (hc : s.contacts[n] = some { port := p, id := id, cond := .live b move })
    (hends : EndsAs b x y s phase kind at' ending) (hw : canWrite s b.station (.touch kind p id n b.zone at') = true) :
    ∃ t, exec (.touch p (oneTouch id phase x y)) s = .next t ∧
      Told (writeRecord b.station (.touch kind p id n b.zone at') (s.time.setWidth 16) s) t ∧
      MemoryKept s t (InRing b.station) ∧
      t = { framed p s with
        contacts := put s.contacts n none, mem := t.mem, delivery := t.delivery, notice := t.notice
        portCount := t.portCount } := by
  have hexec := exec_end h hkey hc hends
  rw [if_pos hw] at hexec
  obtain ⟨k, hk, -⟩ := exec_published hexec ((writeRecord_frame ..).touch.trans (setContact_touch ..))
  obtain ⟨t, ht, htold, hbytes, -, hframe⟩ := exec_written hw hk
  exact ⟨t, ht, htold, hbytes, hframe⟩

theorem exec_end_held {kind : TouchKind} {at' : Pos} {ending : ContactEnd} (h : EntryTaken p id x y s)
    (hkey : byKey? s p id = some n) (hc : s.contacts[n] = some { port := p, id := id, cond := .live b move })
    (hends : EndsAs b x y s phase kind at' ending) (hw : canWrite s b.station (.touch kind p id n b.zone at') = false) :
    ∃ t, exec (.touch p (oneTouch id phase x y)) s = .next t ∧
      t = { framed p s with
        contacts := put s.contacts n (some { port := p, id := id, cond := .closing b ending : Contact })
        portCount := t.portCount } := by
  have hexec := exec_end h hkey hc hends
  rw [if_neg (Bool.eq_false_iff.mp hw)] at hexec
  obtain ⟨k, hk, -⟩ := exec_published hexec (setContact_touch ..)
  exact ⟨_, hk, rfl⟩

/-! ### Frames of several entries (R112) -/

theorem upWith_framed {kind : DeviceKind} (h : UpWith kind p s) : UpWith kind p (framed p s) := by
  unfold UpWith
  rw [framed_port]
  exact h

theorem framed_framed (p : PortNo) (s : State) : framed p (framed p s) = framed p s := by
  show ({ s with ports := put (framed p s).ports p { (framed p s).ports[p] with silence := _, rx := none } } : State) = _
  rw [framed_port]
  unfold framed
  rw [put_put]

theorem touchAll_append (p : PortNo) (limit : Nat) (es fs : List TouchEntry) (r : State × Bool) :
    touchAll p limit (es ++ fs) r = touchAll p limit fs (touchAll p limit es r) := by
  induction es generalizing r with
  | nil => rfl
  | cons e es ih => exact ih _

/-- What entries do to the state does not depend on whether one before them touched a record. -/
theorem touchAll_state (p : PortNo) (limit : Nat) (es : List TouchEntry) (s : State) (made made' : Bool) :
    (touchAll p limit es (s, made)).1 = (touchAll p limit es (s, made')).1 := by
  induction es generalizing s made made' with
  | nil => rfl
  | cons e es ih => exact ih _ _ _

theorem touchFrameOf_length {es : List (List Byte)} (hes : ∀ e ∈ es, e.length = 6) (hmax : es.length ≤ 10) :
    (touchFrameOf es).length ≤ 96 := by
  have hrest := flatten_length hes
  show es.flatten.length + 1 ≤ 96
  omega

theorem exec_touch_noPanel (h : UpWith .panel p s) (hpanel : s.panels[p] = none) {es : List (List Byte)}
    (hes : ∀ e ∈ es, e.length = 6) (hmax : es.length ≤ 10) :
    exec (.touch p (touchFrameOf es)) s = .next (framed p s) :=
  exec_touch_ignored h (touchFrameOf_length hes hmax) (touchFrame_noPanel (s := framed p s) hpanel _)

theorem exec_several (h : UpWith .panel p s) {first : List Byte} {others : List (List Byte)} (hfirst : first.length = 6)
    (hothers : ∀ e ∈ others, e.length = 6) (hmin : 1 ≤ others.length) (hmax : others.length ≤ 9) :
    ∃ t u v, exec (.touch p (touchFrameOf (first :: others))) s = .next t ∧
      exec (.touch p (touchFrameOf [first])) s = .next u ∧ exec (.touch p (touchFrameOf others)) u = .next v ∧
      t = { v with portCount := t.portCount } := by
  have hall : ∀ e ∈ first :: others, e.length = 6 := List.forall_mem_cons.mpr ⟨hfirst, hothers⟩
  have hone : ∀ e ∈ [first], e.length = 6 := List.forall_mem_singleton.mpr hfirst
  cases hpanel : s.panels[p] with
  | none =>
    refine ⟨_, _, _, exec_touch_noPanel h hpanel hall (Nat.succ_le_succ hmax),
      exec_touch_noPanel h hpanel hone (Nat.le_add_left 1 9),
      exec_touch_noPanel (upWith_framed h) (s := framed p s) hpanel hothers (by omega), ?_⟩
    rw [framed_framed]
  | some limit =>
    have ht := exec_touchEntries h hpanel hall (Nat.le_add_left 1 _) (Nat.succ_le_succ hmax)
    have hu := exec_touchEntries h hpanel hone (Nat.le_refl 1) (Nat.le_add_left 1 9)
    rw [List.flatMap_cons, touchAll_append] at ht
    rw [List.flatMap_singleton] at hu
    have hstep := touchAll_touch p limit (touchEntries first) (s, false)
    generalize touchAll p limit (touchEntries first) (s, false) = r at ht hu hstep
    have hrest := touchAll_touch p limit (others.flatMap touchEntries) r
    obtain ⟨k, hk, -⟩ := exec_published ht (hstep.trans hrest)
    obtain ⟨j, hj, -⟩ := exec_published hu hstep
    obtain ⟨w, made⟩ := r
    have hpanelw : w.panels[p] = some limit := by
      obtain ⟨_, _, _, _, _, rfl⟩ := hstep
      exact hpanel
    have hports : (framed p (withPorts (framed p s).ports j w)).ports = (framed p s).ports := by
      obtain ⟨_, _, _, _, _, rfl⟩ := hstep
      have hagain := congrArg State.ports (framed_framed p s)
      exact hagain
    have hv := exec_touchEntries (s := withPorts (framed p s).ports j w) (upWith_framed h) hpanelw hothers hmin (by omega)
    obtain ⟨l, hl, -⟩ := exec_published hv (touchAll_touch ..)
    rw [hports, show (withPorts (framed p s).ports j w, false) = besidePorts (framed p s).ports j (w, false) from rfl,
      touchAll_withPorts] at hl
    refine ⟨_, _, _, hk, hj, hl, ?_⟩
    rw [touchAll_state p limit _ w made false]
    generalize touchAll p limit (others.flatMap touchEntries) (w, false) = last
    rfl

end

/-- Settles O59: the records that are not live, the entries and frames that name nothing, frames taken entry by entry, and
the moves and ends of a live contact. -/
theorem touchMovesAndEnds : Obligations.TouchMovesAndEnds := by
  refine ⟨fun p id phase x y limit s hup hlimit hid hx hy hmin hmax => ?_,
    fun p id phase x y limit s hup hlimit hbad => ?_,
    fun p payload s hup hlength hbad => exec_touch_ignored hup hlength (touchFrame_misfit hbad),
    fun p first others s hup => exec_several hup,
    fun p id x y limit n b move s hup hlimit hid hx hy hc hsole => ?_⟩
  · have htaken : EntryTaken p id x y s := ⟨hup, ⟨limit, hlimit, hid⟩, hx, hy⟩
    refine ⟨fun hfree => ?_, fun n c hkeys hc hport hcid hidle => ?_⟩
    · rw [exec_oneTouch htaken hmax, entryDone_unheld hmin hmax (byKey?_of_unheld (unheld_of hfree)), touched_nothing]
    · have hheld := idle_held hidle
      exact exec_idle htaken hmin hmax
        (byKey?_of_held hc hheld hport hcid (keysOk_sole hkeys hc hheld hport hcid)) hc hidle
  · rw [exec_touchOne hup hlimit, touchEntry_bad hbad, touched_nothing]
  · have htaken : EntryTaken p id x y s := ⟨hup, ⟨limit, hlimit, hid⟩, hx, hy⟩
    have hkey : byKey? s p id = some n := byKey?_of_held hc rfl rfl rfl hsole
    refine ⟨fun hpass => ?_, fun hpass => ⟨fun hw => ?_, exec_move_written htaken hkey hc hpass⟩,
      fun phase kind at' ending hends => ⟨exec_end_written htaken hkey hc hends, exec_end_held htaken hkey hc hends⟩⟩
    · rw [exec_move htaken hkey hc, moveLive_eq, if_neg (Bool.eq_false_iff.mp hpass), touched_setLive hc]
    · rw [exec_move htaken hkey hc, moveLive_eq, if_pos hpass, if_neg (Bool.eq_false_iff.mp hw), touched_setLive hc]
      rfl

end Sys2Proof.Machine
end
